-- ==== Sys2Proof/Word.lean ====
section
/-! DEFINITION. The widths the BK640's wires and records use, and whole-number rounding (R1). -/

namespace Sys2Proof

/-- One byte on the service line, on a port or in the settings block (R176). -/
abbrev Byte := BitVec 8

/-- A two-byte field, most significant byte first on the wire (R1, R176). -/
abbrev Word16 := BitVec 16

/-- A set of station ids 0 to 31, bit `i` for station `i` (R1, Sets). -/
abbrev IdSet := BitVec 32

/-- A channel mask, bit `k` for channel `k` (R182). -/
abbrev Mask8 := BitVec 8

/-- `ceil(a / b)` on whole numbers (R1); the callers keep `b` above 0. -/
def ceilDiv (a b : Nat) : Nat := (a + (b - 1)) / b

/-- A count that stops at `cap` (R1: the owning rule says at which bound a result saturates). -/
def satTo (cap n : Nat) : Nat := min cap n

end Sys2Proof
end

