-- ==== Sys2Proof/Config.lean ====
section
/-! DEFINITION. The sizes and limits the manual fixes, each under its own name, and the two values the model
names because the manual gives none (the factory contents of the settings store, the strap pins before the
first start). No value of this hardware is left free: every quantity the manual does not compute comes in as
an operand of a command. -/

namespace Sys2Proof.Config

/-- Counters saturate here (R174). -/
def counterTop : Nat := 65535

/-- Event queue places (R172). -/
def eventPlaces : Nat := 32

/-- SHIFT queue places (R56). -/
def shiftPlaces : Nat := 2

/-- PAGE queue places (R57). -/
def pagePlaces : Nat := 8

/-- A PAGE or SHIFT frame is attempted at most this often (R54). -/
def maxAttempts : Nat := 4

/-- Page-table entries (R149). -/
def pageEntries : Nat := 16

/-- Retry-queue places (R149). -/
def retryPlaces : Nat := 4

/-- Profile entries (R85). -/
def profileEntries : Nat := 32

/-- Course entries (R85). -/
def courseEntries : Nat := 8

/-- Task entries (R85). -/
def taskEntries : Nat := 24

/-- Channels, and temperature inputs (R66, R82). -/
def channels : Nat := 8

/-- Drive ticks of a burst window (R67). -/
def windowTicks : Nat := 200

/-- Racks the tunnel queue holds (R133). -/
def tunnelPlaces : Nat := 16

/-- Slots of an access cycle (R50). -/
def cycleSlots : Nat := 128

/-- Ages at which a peer entry turns STALE and is removed (R27). -/
def staleAge : Nat := 3
def removeAge : Nat := 8

/-- Clean rounds that end an OVERCOMMIT page (R21). -/
def cleanRounds : Nat := 5

/-- The lowest power fraction, per mille (R105). -/
def leastFraction : Nat := 125

/-- Bytes of the settings block (R185). -/
def blockBytes : Nat := 51

/-- The service clock has 32 bits (R33). DEDUCED (log 3): it wraps. -/
def clockModulus : Nat := 4294967296

/-- Tallies wrap here (R147). -/
def tallyModulus : Nat := 4294967296

/-- DESIGN CHOICE (log 1): the settings store before its first write; the manual gives no factory contents. -/
def factoryBlock : List Byte := List.replicate 51 0

/-- DESIGN CHOICE (log 2): the strap pins at `State.reset`; `POWER_ON` gives them as an operand. -/
def resetStraps : Nat := 0

end Sys2Proof.Config
end

