-- ==== Sys2Proof/Syntax.lean ====
section
/-! DEFINITION. The commands of the BK640: one constructor of `Instr` for each row of spec/opcode_table.json,
with what the outside supplies at that step as its operands (pin levels, samples, the bytes of a frame after
its start flag, the fields of a port record). -/

namespace Sys2Proof

/-- What one temperature input shows when it is read (R82). -/
inductive SensorInput
  | openCircuit
  | shortCircuit
  | tenths (t : Int)
  deriving DecidableEq, Repr, Inhabited

/-- The six grounds on which line activity is a corrupt frame (R60). -/
inductive CorruptCause
  | startFlag
  | codingViolation
  | sourceId
  | bodyLength
  | cutShort
  | checkWord
  deriving DecidableEq, Repr

/-- The field of a RACK REMOVED record: its presence byte, 0 for NONE, and its value byte, the rack number (R143, R182). -/
structure RackField where
  presence : Byte
  number : Byte
  deriving DecidableEq, Repr

/-- One stage of a POST PROFILE record: stage kind, setpoint, rate or duration (R182). -/
structure StageFields where
  kind : Byte
  setpoint : Word16
  arg : Word16
  deriving DecidableEq, Repr

/-- What a POST PROFILE record carries after the index (R182). -/
inductive ProfileFields
  | direct (stages : List StageFields) (ready band : Word16)
  | aliasTo (target : Byte)
  deriving DecidableEq, Repr

/-- The commands, in the order of spec/opcode_table.json. -/
inductive Instr
  /-- POWER_ON (R34), with the strap pins as INIT reads them (R35). -/
  | powerOn (straps : BitVec 5)
  /-- RESET_PIN_HELD (R34). -/
  | resetPinHeld
  /-- RESET_PIN_RELEASED (R34). -/
  | resetPinReleased (straps : BitVec 5)
  /-- SETTINGS_CHECK (R35 step 2). -/
  | settingsCheck
  /-- LOOPBACK_TEST_DONE (R35 step 3): whether the comparison held, and the inputs read at the entry to LISTEN. -/
  | loopbackTestDone (passed : Bool) (inputs : List SensorInput)
  /-- ROUND (R9). -/
  | round
  /-- DRIVE_TICK (R71, R73, R74): the line voltage in millivolts, each channel's current in milliamperes. -/
  | driveTick (milliVolts : Nat) (milliAmps : List Nat)
  /-- BURST_WINDOW_START (R68). -/
  | burstWindowStart
  /-- SECOND (R103), with the eight temperature inputs (R82). -/
  | second (inputs : List SensorInput)
  /-- HOLD_TIMEOUT (R146). -/
  | holdTimeout
  /-- TASK_EDIT_APPLY (R96) of one task entry. -/
  | taskEditApply (task : Nat)
  /-- ACK_TIMER_EXPIRY (R157) of one page entry. -/
  | ackTimerExpiry (entry : Nat)
  /-- CLEAR_RETRY (R154) of one page entry. -/
  | clearRetry (entry : Nat)
  /-- MANUAL_ADVANCE_TIMEOUT (R144). -/
  | manualAdvanceTimeout
  /-- DWELL_TENTH (R140). -/
  | dwellTenth
  /-- ENCODER_PULSE (R139). -/
  | encoderPulse
  /-- ENTRY_SENSOR (R141). -/
  | entrySensor
  /-- EXIT_SENSOR (R142). -/
  | exitSensor
  /-- RADIO_STATUS_RECORD (R160). -/
  | radioStatusRecord (ready : Bool)
  /-- RADIO_STATUS_TIMEOUT (R160). -/
  | radioStatusTimeout
  /-- SEND_RECORD (R161). -/
  | sendRecord
  /-- TAKEN_RECORD (R161, R184): cause kind code, subject, generation. -/
  | takenRecord (kind subject generation : Byte)
  /-- SEND_TIMEOUT (R161). -/
  | sendTimeout
  /-- RADIO_ACK_RECORD (R162): cause kind code, subject, generation. -/
  | radioAckRecord (kind subject generation : Byte)
  /-- BAD_RADIO_RECORD (R184). -/
  | badRadioRecord
  /-- GAP_END (R50): sixteen idle bit times have passed. -/
  | gapEnd
  /-- SLOT_START (R52), with what the station sees of the line. -/
  | slotStart (lineAtRest : Bool)
  /-- LINE_ACTIVITY_SEEN (R50, R52). -/
  | lineActivitySeen
  /-- TRANSMISSION_COMPLETE (R53). -/
  | transmissionComplete
  /-- COLLISION (R54). -/
  | collision
  /-- CORRUPT_FRAME (R60). -/
  | corruptFrame (cause : CorruptCause)
  /-- UNKNOWN_FRAME (R61): source id, kind byte, sequence, body of a frame whose check word held. -/
  | unknownFrame (source kind sequence : Byte) (body : List Byte)
  /-- DEMAND_FRAME (R26). -/
  | demandFrame (source sequence : Byte) (body : List Byte)
  /-- COURSE_FRAME (R123). -/
  | courseFrame (source sequence : Byte) (body : List Byte)
  /-- SHIFT_FRAME (R127). -/
  | shiftFrame (source sequence : Byte) (body : List Byte)
  /-- PAGE_RAISE_FRAME (R155). -/
  | pageRaiseFrame (source sequence : Byte) (body : List Byte)
  /-- PAGE_ACK_FRAME (R156). -/
  | pageAckFrame (source sequence : Byte) (body : List Byte)
  /-- PAGE_CLEAR_FRAME (R156). -/
  | pageClearFrame (source sequence : Byte) (body : List Byte)
  /-- NONE (R168): a complete transfer that carries no command. -/
  | noneTransfer
  /-- TRANSFER_CUT_SHORT (R168). -/
  | transferCutShort
  /-- UNKNOWN_COMMAND (R169 gate 1), with the code its answer carries. -/
  | unknownCommand (code : Byte)
  /-- READ_STATUS (R170). -/
  | readStatus
  /-- READ_EVENT (R173). -/
  | readEvent
  /-- READ_TABLE (R171). -/
  | readTable (selector : Byte)
  /-- READ_COUNTERS (R174). -/
  | readCounters
  /-- READ_AND_CLEAR_COUNTERS (R174). -/
  | readAndClearCounters
  /-- POST_PROFILE (R88). -/
  | postProfile (index : Byte) (content : ProfileFields)
  /-- DELETE_PROFILE (R88). -/
  | deleteProfile (index : Byte)
  /-- POST_COURSE (R90). -/
  | postCourse (tag version : Byte) (passOffset : Word16) (leadMargin : Option Word16)
  /-- DELETE_COURSE (R92). -/
  | deleteCourse (tag : Byte)
  /-- LOCK_COURSE (R91). -/
  | lockCourse (tag : Byte)
  /-- UNLOCK_COURSE (R91). -/
  | unlockCourse (tag : Byte)
  /-- SHIFT_COURSE (R126). -/
  | shiftCourse (tag : Byte) (passOffset : Word16) (hold : Byte)
  /-- MARK_PASSED (R98). -/
  | markPassed (tag : Byte)
  /-- POST_TASK (R94). -/
  | postTask (tag profile : Byte) (mask : Mask8) (sensor : Byte) (plates : Word16)
  /-- EDIT_TASK (R95). -/
  | editTask (index profile : Byte) (mask : Mask8) (sensor : Byte) (plates : Word16)
  /-- CANCEL_TASK (R97). -/
  | cancelTask (index : Byte)
  /-- SET_PLATES (R99). -/
  | setPlates (index : Byte) (loaded : Word16)
  /-- RAISE_STAFF_CALL (R165). -/
  | raiseStaffCall (subject priority level : Byte)
  /-- CLEAR_STAFF_CALL (R165). -/
  | clearStaffCall (subject : Byte)
  /-- CLEAR_FAULT (R81). -/
  | clearFault (channel : Byte)
  /-- RACK_LOADED (R143). -/
  | rackLoaded (kind plates : Byte)
  /-- RACK_REMOVED (R143): a rack number, or NONE. -/
  | rackRemoved (rack : RackField)
  /-- MANUAL_ADVANCE (R144). -/
  | manualAdvance
  /-- CONVEYOR_START (R145). -/
  | conveyorStart
  /-- CONVEYOR_STOP (R145). -/
  | conveyorStop
  /-- RESET_TALLIES (R145). -/
  | resetTallies
  /-- WRITE_SETTINGS (R175): the 51 bytes of the block. -/
  | writeSettings (block : List Byte)
  /-- SETTINGS_WRITE_DONE (R175). -/
  | settingsWriteDone
  /-- PLAN_CLEAR (R100). -/
  | planClear
  /-- RESTART (R34, R175), with the strap pins as the INIT it begins reads them. -/
  | restart (straps : BitVec 5)
  /-- LINE_SEEN_ACTIVE_WHILE_SEEKING (R50). -/
  | lineSeenActiveWhileSeeking
  deriving DecidableEq, Repr

end Sys2Proof
end

