-- ==== Sys2Proof/Machine/State.lean ====
section
/-! DEFINITION. The state of one BK640, as plain data: one record for each block of the manual, joined in
`Block`, and beside them the queue of commands that wait. Quantities are whole numbers in the units of the
manual (R1); bytes, sets of ids and channel masks are bit vectors. -/

namespace Sys2Proof.Machine

/-! ## Enumerations (R186 gives their codes, in Machine/Operands.lean) -/

/-- Station states (R33). `localOnly` is LOCAL, `initial` is INIT. -/
inductive StationState
  | initial | listen | active | isolated | localOnly | halted
  deriving DecidableEq, Repr

/-- Entry reasons (2.2). -/
inductive EntryReason
  | powerOn | resetPin | restart | settings | loopback | checksPassed | peersPresent | peersAbsent | peersLost
  | peersRegained | duplicateId
  deriving DecidableEq, Repr

/-- Station kinds (R36). -/
inductive Kind
  | oven | warmer | dish | base | aux
  deriving DecidableEq, Repr

/-- Channel roles (R36). -/
inductive Role
  | heat | tank | rinse | dry
  deriving DecidableEq, Repr

/-- Channel health (R66): OK, UNVERIFIED, OPEN, TRIPPED. -/
inductive Health
  | ok | unverified | opened | tripped
  deriving DecidableEq, Repr

/-- Temperature input status (R82): OK, or SENSOR_FAULT with its detail. -/
inductive SensorStatus
  | ok | opened | shorted | range
  deriving DecidableEq, Repr

/-- Line positions (R49). -/
inductive Position
  | off | seeking | gap | cycle | receiving | transmitting
  deriving DecidableEq, Repr

/-- Frame kinds (R48). -/
inductive FrameKind
  | page | shift | course | demand
  deriving DecidableEq, Repr

/-- PAGE subkinds (R48). -/
inductive PageSub
  | raise | ack | clear
  deriving DecidableEq, Repr

/-- Stage kinds (R87). -/
inductive StageKind
  | ramp | soak | hold
  deriving DecidableEq, Repr

/-- Task states (R93). -/
inductive TaskState
  | waiting | heating | holding | finishing | ready | passed | faulted | cancelled
  deriving DecidableEq, Repr

/-- Task fault reasons (R93). -/
inductive TaskFault
  | noFault | badProfile | sensor | noChannel
  deriving DecidableEq, Repr

/-- Station course states (R120). -/
inductive CourseState
  | empty | pending | ready | late | fault | passed
  deriving DecidableEq, Repr

/-- Conveyor states (R136). -/
inductive ConveyorState
  | stopped | running | slowed | powerHold | tempHold | dwellHold | jammed | entryFault
  deriving DecidableEq, Repr

/-- Load kinds (R133). -/
inductive LoadKind
  | plates | cutlery | glass | pans
  deriving DecidableEq, Repr

/-- Outcome of a rack at the exit (R142). -/
inductive RackOutcome
  | clean | rewash
  deriving DecidableEq, Repr

/-- Outcome of a manual advance (R144). -/
inductive AdvanceOutcome
  | moved | noMovement | superseded
  deriving DecidableEq, Repr

/-- Kinds of causes (R150). -/
inductive CauseKind
  | courseReady | courseLate | rackHold | platesShort | elementFault | stationLost | overcommit | configMismatch
  | staffCall
  deriving DecidableEq, Repr

/-- State of a page entry (R151). -/
inductive PageState
  | raised | acked
  deriving DecidableEq, Repr

/-- State of a generation-memory record (R149). -/
inductive MemState
  | never | opened | cleared
  deriving DecidableEq, Repr

/-- Radio state (R160). -/
inductive Radio
  | down | up
  deriving DecidableEq, Repr

/-- Want record kind (R4). -/
inductive WantKind
  | floor | extra
  deriving DecidableEq, Repr

/-- Peer state (R24). -/
inductive PeerState
  | active | isolated
  deriving DecidableEq, Repr

/-- Reasons of a REFUSED answer (R169). -/
inductive Reason
  | tableFull | badRef | badValue | locked | inUse | channelBusy | wrongState | wrongKind
  deriving DecidableEq, Repr

/-- Which step of INIT comes next (R35): the settings read, the loopback test, or none. -/
inductive InitStep
  | settings | loopback | finished
  deriving DecidableEq, Repr

/-- The sixteen counters (R174), in the order of its table, left column first. -/
inductive CounterName
  | framesSent | framesReceived | checkErrors | collisions | framesDropped | sequenceGaps | phantomExits
  | radioAcksMismatched | roundsCurtailed | roundsOvercommitted | roundsHeld | pagesRaised | pagesMerged
  | pagesDropped | pagesLost | escalations
  deriving DecidableEq, Repr

/-! ## Station Control (R33) -/

/-- One channel of the settings image (R36, R185): no role when it is not fitted. -/
structure ChannelSetting where
  role : Option Role := none
  rated : Nat := 0
  sensor : Nat := 0
  deriving DecidableEq, Repr

/-- The settings image (R36). -/
structure Settings where
  feeder : Nat := 0
  guardPercent : Nat := 0
  period : Nat := 0
  ramp : Nat := 0
  ackTimeout : Nat := 0
  kind : Kind := .oven
  safeAllowance : Nat := 0
  minPeers : Nat := 0
  blanking : Nat := 0
  lowLine : Nat := 0
  channels : List ChannelSetting := []
  tunnelLength : Nat := 0
  b1 : Nat := 0
  b2 : Nat := 0
  b3 : Nat := 0
  requiredDwell : Nat := 0
  sanitizingMinimum : Nat := 0
  vMax : Nat := 0
  vMin : Nat := 0
  holdTimeout : Nat := 0
  rackPitch : Nat := 0
  deriving DecidableEq, Repr

/-- Station Control's record (R33), the announce timer (R3), the reset pin (R34) and the step of INIT (R35). -/
structure Station where
  state : StationState := .initial
  reason : EntryReason := .powerOn
  strapId : Nat := 0
  /-- The bytes step 2 of INIT read from the store into the image, whether its checks passed or not (R35, log 27). -/
  imageBytes : List Byte := []
  /-- The image's fields, once the block has passed the checks (R35, R36). -/
  image : Option Settings := none
  signature : Word16 := 0
  listenRounds : Nat := 0
  shortRun : Nat := 0
  goodRun : Nat := 0
  clock : Nat := 0
  /-- The period in ms the announce timer reloads, or none while it is stopped (R3). -/
  announceTimer : Option Nat := none
  /-- The reset pin is held (R34). -/
  resetHeld : Bool := false
  /-- Progress of INIT (R35). -/
  initStep : InitStep := .settings
  deriving DecidableEq, Repr

/-! ## Load Share Unit (R2) -/

/-- The record of R2. -/
structure LoadShare where
  floorSelf : Nat := 0
  wantSelf : Nat := 0
  classSelf : Nat := 0
  budget : Nat := 0
  available : Nat := 0
  share : Nat := 0
  overcommitted : Bool := false
  applied : Nat := 0
  rising : Bool := false
  cleanRun : Nat := 5
  deriving DecidableEq, Repr

/-! ## Peer Table (R24) -/

/-- Dish part of a peer entry (R24). -/
structure DishPart where
  cleanTally : Nat
  conveyor : ConveyorState
  deriving DecidableEq, Repr

/-- A peer entry (R24). Freshness is read from the age (R27). -/
structure Peer where
  id : Nat
  kind : Kind
  signature : Word16
  state : PeerState
  floor : Nat
  want : Nat
  cls : Nat
  applied : Nat
  rising : Bool
  draw : Nat
  rated : Nat
  lastSequence : Nat
  missed : Nat
  age : Nat
  dish : Option DishPart
  base : Option Radio
  deriving DecidableEq, Repr

/-! ## Line Interface (R49) -/

/-- The key of a page: a kind and a subject (R150). -/
structure Cause where
  kind : CauseKind
  subject : Nat
  deriving DecidableEq, Repr

/-- A SHIFT-queue entry (R56). -/
structure ShiftEntry where
  tag : Nat
  version : Nat
  passTime : Nat
  hold : Bool
  attempts : Nat
  deriving DecidableEq, Repr

/-- A PAGE frame as the Page Tracker built it (R57); an ACK or a CLEAR uses the cause and generation alone. -/
structure PageFrame where
  sub : PageSub
  cause : Cause
  generation : Nat
  owner : Nat := 0
  level : Nat := 0
  priority : Nat := 0
  adopted : Bool := false
  attempts : Nat := 0
  deriving DecidableEq, Repr

/-- The frame in flight (R49): its kind, its bytes from the start flag to the check word, and whether its slot
has been marked again since it started (R53, R55). -/
structure Flight where
  kind : FrameKind
  sequence : Nat
  bytes : List Byte
  markedAgain : Bool := false
  deriving DecidableEq, Repr

/-- The Line Interface's record (R49). -/
structure Line where
  position : Position := .off
  slot : Nat := 0
  /-- Whether the start of the current slot has been taken (R50, R52). -/
  slotBegun : Bool := false
  lastSender : Option Nat := none
  demandSlot : Bool := false
  courseSlot : Bool := false
  shiftQueue : List ShiftEntry := []
  pageQueue : List PageFrame := []
  seqPage : Nat := 0
  seqShift : Nat := 0
  seqCourse : Nat := 0
  seqDemand : Nat := 0
  inFlight : Option Flight := none
  deriving DecidableEq, Repr

/-! ## Drive and Sense Unit (R66, R73, R79, R82) -/

/-- A want record (R4). A floor is held with class 0, a want of 0 that no rule gives a kind as a floor (DESIGN CHOICE, log
69). -/
structure Want where
  amount : Nat := 0
  kind : WantKind := .floor
  cls : Nat := 0
  deriving DecidableEq, Repr

/-- A channel record (R66), its output, and what R72, R74 and R77 make a window remember. -/
structure Channel where
  fitted : Bool := false
  rated : Nat := 0
  role : Role := .heat
  sensor : Nat := 0
  health : Health := .ok
  allotment : Nat := 0
  residue : Nat := 0
  onTicks : Nat := 0
  drivenTicks : Nat := 0
  lowCount : Nat := 0
  starved : Nat := 0
  lastLoad : Nat := 0
  checked : Bool := false
  want : Want := {}
  /-- The sample tick of the check planned for the window, if one is (R74). -/
  planned : Option Nat := none
  /-- The element-drive output (R71). -/
  output : Bool := false
  /-- Switched off for the rest of the window by a trip (R77). -/
  cut : Bool := false
  /-- Became OPEN or TRIPPED in this window, so counted at 0 in the speed until the next (R72, R135). -/
  faultedNow : Bool := false
  deriving DecidableEq, Repr

/-- A temperature input record (R82). -/
structure TempInput where
  reading : Nat := 0
  status : SensorStatus := .ok
  deriving DecidableEq, Repr

/-- The Drive and Sense Unit. -/
structure Drive where
  channels : List Channel := List.replicate 8 {}
  inputs : List TempInput := List.replicate 8 {}
  lineVoltage : Nat := 0
  lowLine : Bool := false
  draw : Nat := 0
  /-- Ticks of the current window already driven, 0 to 200 (R67). -/
  ticksDriven : Nat := 0
  deriving DecidableEq, Repr

/-! ## Plan Store and Task Engine (R85, R87, R90, R93, R102) -/

/-- A stage (R87): `arg` is the rate of a RAMP or the duration of a SOAK. -/
structure Stage where
  kind : StageKind
  setpoint : Nat
  arg : Nat
  deriving DecidableEq, Repr

/-- Content of a DIRECT entry (R87). -/
structure Direct where
  stages : List Stage
  ready : Nat
  band : Nat
  deriving DecidableEq, Repr

/-- A profile entry (R87). -/
inductive Profile
  | free
  | direct (content : Direct)
  | aliasTo (target : Nat)
  deriving DecidableEq, Repr

/-- A course entry (R90, R119). -/
structure Course where
  tag : Nat
  version : Nat
  passTime : Nat
  leadMargin : Nat
  lock : Bool := false
  hold : Bool := false
  passed : Bool := false
  state : CourseState := .empty
  participants : IdSet := 0
  readySet : IdSet := 0
  allReady : Bool := false
  lateDue : Bool := false
  /-- The model's own: the second at which late due last passed from no to yes (R129, log 51). -/
  lateSince : Nat := 0
  /-- The version was adopted from a received COURSE or SHIFT frame (R59). -/
  adopted : Bool := false
  deriving DecidableEq, Repr

/-- A pending edit (R95). -/
structure Edit where
  profile : Nat
  mask : Mask8
  sensor : Nat
  plates : Nat
  deriving DecidableEq, Repr

/-- The urgency record of a task (R102). -/
structure Urgency where
  setpoint : Option Nat := none
  stageEstimate : Nat := 0
  finishEstimate : Nat := 0
  finishStart : Option Int := none
  deadline : Option Int := none
  slack : Int := 0
  cls : Nat := 0
  plateTest : Bool := false
  deriving DecidableEq, Repr

/-- A task entry (R93) with its urgency record (R102). -/
structure Task where
  course : Nat
  profile : Nat
  resolved : Option Nat := none
  mask : Mask8
  sensor : Nat
  platesRequired : Nat
  platesLoaded : Nat := 0
  state : TaskState := .waiting
  stageIndex : Nat := 0
  stageStart : Nat := 0
  curtailed : Nat := 0
  fault : TaskFault := .noFault
  edit : Option Edit := none
  urgency : Urgency := {}
  deriving DecidableEq, Repr

/-- The Plan Store's tables (R85) and the power fraction of the Task Engine (R102). The channel map (R93) and
the in-use counts (R89) are what `holder` and `inUse` of Machine/Plan.lean read from the task table. -/
structure Plan where
  profiles : List Profile := List.replicate 32 .free
  courses : List (Option Course) := List.replicate 8 none
  tasks : List (Option Task) := List.replicate 24 none
  powerFraction : Nat := 125
  deriving DecidableEq, Repr

/-- The Course Coordinator's station-level fields (R119). -/
structure Coordinator where
  parity : Bool := false
  heard : IdSet := 0
  deriving DecidableEq, Repr

/-! ## Conveyor Tracker (R132, R133) -/

/-- A rack record (R133). The zone is read from the position. -/
structure Rack where
  number : Nat
  load : LoadKind
  plates : Nat
  position : Nat := 0
  dwell : Nat := 0
  sanitized : Bool := false
  crowded : Bool := false
  rewash : Bool := false
  deriving DecidableEq, Repr

/-- The Conveyor Tracker's record (R132). -/
structure Conveyor where
  state : ConveyorState := .stopped
  runRequest : Bool := false
  speedFraction : Nat := 0
  speed : Nat := 0
  jammed : Bool := false
  untracked : Nat := 0
  rinseTemp : Nat := 0
  rinseStatus : SensorStatus := .ok
  holdSeconds : Nat := 0
  holdPage : Option Nat := none
  advance : Option Nat := none
  pendingLoad : Option (LoadKind × Nat) := none
  nextRack : Nat := 0
  queue : List Rack := []
  loaded : Nat := 0
  clean : Nat := 0
  rewash : Nat := 0
  removed : Nat := 0
  deriving DecidableEq, Repr

/-! ## Page Tracker and Pager Port (R149, R151, R153, R160, R161) -/

/-- A page-table entry (R151). -/
structure PageEntry where
  cause : Cause
  generation : Nat
  owner : Nat
  level : Nat
  state : PageState
  priority : Nat
  merges : Nat
  raisedAt : Nat
  deadline : Option Nat
  oneShot : Bool
  adopted : Bool
  clearDue : Bool
  /-- The second at which the CLEAR of a clear-due entry was last offered (R154). -/
  offeredAt : Nat := 0
  deriving DecidableEq, Repr

/-- A waiting raise (R153). -/
structure Waiting where
  cause : Cause
  priority : Nat
  level : Nat
  merges : Nat
  deriving DecidableEq, Repr

/-- A generation-memory record (R149). -/
structure MemRecord where
  state : MemState := .never
  generation : Nat := 0
  topLevel : Nat := 0
  deriving DecidableEq, Repr

/-- The Page Tracker. The generation memory has a record for every cause; the list holds, under the key of
`causeKey`, the records that differ from NEVER, keys strictly rising. -/
structure Pages where
  table : List (Option PageEntry) := List.replicate 16 none
  retry : List Waiting := []
  memory : List (Nat × MemRecord) := []
  deriving DecidableEq, Repr

/-- What a SEND record carries (R161). -/
structure SendRecord where
  cause : Cause
  generation : Nat
  level : Nat
  priority : Nat
  owner : Nat
  deriving DecidableEq, Repr

/-- The Pager Port with the election (R159 to R161). -/
structure Pager where
  radio : Radio := .down
  elected : Bool := false
  sendList : List Cause := []
  outstanding : Option SendRecord := none
  deriving DecidableEq, Repr

/-! ## Appliance Port (R167) and settings store (R175) -/

/-- What an event reports (R172), with the fields its owning rule lists. -/
inductive EventBody
  | stateChange (before after : StationState) (reason : EntryReason)
  | lineStatus (volts : Nat)
  | channelHealth (channel : Nat) (health : Health) (reading : Option Nat)
  | sensorStatus (input : Nat) (status : SensorStatus)
  | taskState (task tag : Nat) (before after : TaskState) (fault : TaskFault) (stage : Nat)
  | courseState (tag : Nat) (before after : CourseState) (version : Nat)
  | courseShift (tag oldVersion newVersion passTime : Nat) (hold : Bool)
  | conveyorState (before after : ConveyorState) (speed : Nat)
  | rackEntry (rack : Option Nat) (load : LoadKind) (plates : Nat) (crowded : Bool)
  | rackExit (rack plates : Nat) (outcome : RackOutcome)
  | advanceDone (outcome : AdvanceOutcome)
  | pageChange (cause : Cause) (generation owner level : Nat) (state : Option PageState)
  | pageLost (cause : Cause)
  | radioState (radio : Radio)
  deriving DecidableEq, Repr

/-- An event record (R172). -/
structure Event where
  number : Nat
  second : Nat
  body : EventBody
  deriving DecidableEq, Repr

/-- A response record (R181): `refused` is none for ACCEPTED. -/
structure Response where
  code : Nat
  number : Nat
  refused : Option Reason
  data : List Byte
  deriving DecidableEq, Repr

/-- The sixteen counters (R174). -/
structure Counters where
  framesSent : Nat := 0
  framesReceived : Nat := 0
  checkErrors : Nat := 0
  collisions : Nat := 0
  framesDropped : Nat := 0
  sequenceGaps : Nat := 0
  phantomExits : Nat := 0
  radioAcksMismatched : Nat := 0
  roundsCurtailed : Nat := 0
  roundsOvercommitted : Nat := 0
  roundsHeld : Nat := 0
  pagesRaised : Nat := 0
  pagesMerged : Nat := 0
  pagesDropped : Nat := 0
  pagesLost : Nat := 0
  escalations : Nat := 0
  deriving DecidableEq, Repr

/-- The Appliance Port's record (R167). -/
structure Port where
  slot : Option Response := none
  commandNumber : Nat := 0
  events : List Event := []
  overflow : Bool := false
  eventNumber : Nat := 0
  counters : Counters := {}
  /-- The model's own: what the last complete transfer delivered (R168), none for the record NONE. -/
  delivered : Option Response := none
  deriving DecidableEq, Repr

/-- A write of the settings store in progress (R175): the block and its command number. -/
structure BlockWrite where
  block : List Byte
  number : Nat
  deriving DecidableEq, Repr

/-- The non-volatile store of the settings block (R34, R175). -/
structure Store where
  block : List Byte := Config.factoryBlock
  writing : Option BlockWrite := none
  deriving DecidableEq, Repr

/-! ## The whole part -/

/-- All the manual gives one BK640. -/
structure Block where
  station : Station := {}
  share : LoadShare := {}
  peers : List Peer := []
  line : Line := {}
  drive : Drive := {}
  plan : Plan := {}
  coord : Coordinator := {}
  conveyor : Conveyor := {}
  pages : Pages := {}
  pager : Pager := {}
  port : Port := {}
  store : Store := {}
  deriving DecidableEq, Repr

/-- The part and the commands that wait, first in first out. -/
structure State where
  block : Block
  pending : List Instr
  deriving DecidableEq, Repr

/-- No command of this block stops the part: where the manual gives a command no effect in a state, the part
goes on unchanged. The constructor stands for a part that has stopped; nothing raises it (safe). -/
inductive Fault
  | stopped
  deriving DecidableEq, Repr

/-- Why a command has no meaning. -/
inductive Refusal
  /-- Raised by `exec`'s arm of a command that has no meaning yet, by its mnemonic; safe. No arm is left so. -/
  | notModelled (mnemonic : String)
  deriving DecidableEq, Repr

/-! ## Updates of one block's record -/

def Block.onStation (f : Station → Station) (b : Block) : Block := { b with station := f b.station }
def Block.onShare (f : LoadShare → LoadShare) (b : Block) : Block := { b with share := f b.share }
def Block.onPeers (f : List Peer → List Peer) (b : Block) : Block := { b with peers := f b.peers }
def Block.onLine (f : Line → Line) (b : Block) : Block := { b with line := f b.line }
def Block.onDrive (f : Drive → Drive) (b : Block) : Block := { b with drive := f b.drive }
def Block.onPlan (f : Plan → Plan) (b : Block) : Block := { b with plan := f b.plan }
def Block.onCoord (f : Coordinator → Coordinator) (b : Block) : Block := { b with coord := f b.coord }
def Block.onConveyor (f : Conveyor → Conveyor) (b : Block) : Block := { b with conveyor := f b.conveyor }
def Block.onPages (f : Pages → Pages) (b : Block) : Block := { b with pages := f b.pages }
def Block.onPager (f : Pager → Pager) (b : Block) : Block := { b with pager := f b.pager }
def Block.onPort (f : Port → Port) (b : Block) : Block := { b with port := f b.port }
def Block.onStore (f : Store → Store) (b : Block) : Block := { b with store := f b.store }

/-- The part right after power-on (R34): every record at its reset value, INIT at its second step, the strap id
read. The strap pins and the store's contents are the model's named choices (log 1, log 2). -/
def State.reset : State :=
  { block := { station := { strapId := Config.resetStraps } }, pending := [] }

end Sys2Proof.Machine
end

