-- ==== Sys2Proof/Machine/Operands.lean ====
section
/-! DEFINITION. The formats and encodings of chapter 11: enumeration codes (R186), field widths (R176, R182),
the check word (R178), the settings block (R185, R36, R37), frame headers and bodies (R177, R179, R180), event
and response records (R181, R182), pager records (R183). -/

namespace Sys2Proof.Machine

/-! ## Enumeration codes (R186) -/

def StationState.code : StationState → Nat
  | .initial => 0 | .listen => 1 | .active => 2 | .isolated => 3 | .localOnly => 4 | .halted => 5

def EntryReason.code : EntryReason → Nat
  | .powerOn => 0 | .resetPin => 1 | .restart => 2 | .settings => 3 | .loopback => 4 | .checksPassed => 5
  | .peersPresent => 6 | .peersAbsent => 7 | .peersLost => 8 | .peersRegained => 9 | .duplicateId => 10

def Kind.code : Kind → Nat
  | .oven => 0 | .warmer => 1 | .dish => 2 | .base => 3 | .aux => 4

def Role.code : Role → Nat
  | .heat => 1 | .tank => 2 | .rinse => 3 | .dry => 4

def Health.code : Health → Nat
  | .ok => 0 | .unverified => 1 | .opened => 2 | .tripped => 3

def SensorStatus.code : SensorStatus → Nat
  | .ok => 0 | .opened => 1 | .shorted => 2 | .range => 3

def Position.code : Position → Nat
  | .off => 0 | .seeking => 1 | .gap => 2 | .cycle => 3 | .receiving => 4 | .transmitting => 5

def StageKind.code : StageKind → Nat
  | .ramp => 1 | .soak => 2 | .hold => 3

def TaskState.code : TaskState → Nat
  | .waiting => 0 | .heating => 1 | .holding => 2 | .finishing => 3 | .ready => 4 | .passed => 5 | .faulted => 6
  | .cancelled => 7

def TaskFault.code : TaskFault → Nat
  | .noFault => 0 | .badProfile => 1 | .sensor => 2 | .noChannel => 3

def CourseState.code : CourseState → Nat
  | .empty => 0 | .pending => 1 | .ready => 2 | .late => 3 | .fault => 4 | .passed => 5

def ConveyorState.code : ConveyorState → Nat
  | .stopped => 0 | .running => 1 | .slowed => 2 | .powerHold => 3 | .tempHold => 4 | .dwellHold => 5 | .jammed => 6
  | .entryFault => 7

def LoadKind.code : LoadKind → Nat
  | .plates => 0 | .cutlery => 1 | .glass => 2 | .pans => 3

def RackOutcome.code : RackOutcome → Nat
  | .clean => 0 | .rewash => 1

def AdvanceOutcome.code : AdvanceOutcome → Nat
  | .moved => 0 | .noMovement => 1 | .superseded => 2

def CauseKind.code : CauseKind → Nat
  | .courseReady => 1 | .courseLate => 2 | .rackHold => 3 | .platesShort => 4 | .elementFault => 5
  | .stationLost => 6 | .overcommit => 7 | .configMismatch => 8 | .staffCall => 9

def Radio.code : Radio → Nat
  | .down => 0 | .up => 1

def WantKind.code : WantKind → Nat
  | .floor => 0 | .extra => 1

def Reason.code : Reason → Nat
  | .tableFull => 1 | .badRef => 2 | .badValue => 3 | .locked => 4 | .inUse => 5 | .channelBusy => 6 | .wrongState => 7
  | .wrongKind => 8

/-- Page state codes; `removed` (none here) is 2 in PAGE_CHANGE events. -/
def pageStateCode : Option PageState → Nat
  | some .raised => 0 | some .acked => 1 | none => 2

def Kind.ofCode : Nat → Option Kind
  | 0 => some .oven | 1 => some .warmer | 2 => some .dish | 3 => some .base | 4 => some .aux | _ => none

def Role.ofCode : Nat → Option Role
  | 1 => some .heat | 2 => some .tank | 3 => some .rinse | 4 => some .dry | _ => none

def StageKind.ofCode : Nat → Option StageKind
  | 1 => some .ramp | 2 => some .soak | 3 => some .hold | _ => none

def CourseState.ofCode : Nat → Option CourseState
  | 0 => some .empty | 1 => some .pending | 2 => some .ready | 3 => some .late | 4 => some .fault | 5 => some .passed
  | _ => none

def ConveyorState.ofCode : Nat → Option ConveyorState
  | 0 => some .stopped | 1 => some .running | 2 => some .slowed | 3 => some .powerHold | 4 => some .tempHold
  | 5 => some .dwellHold | 6 => some .jammed | 7 => some .entryFault | _ => none

def LoadKind.ofCode : Nat → Option LoadKind
  | 0 => some .plates | 1 => some .cutlery | 2 => some .glass | 3 => some .pans | _ => none

def CauseKind.ofCode : Nat → Option CauseKind
  | 1 => some .courseReady | 2 => some .courseLate | 3 => some .rackHold | 4 => some .platesShort
  | 5 => some .elementFault | 6 => some .stationLost | 7 => some .overcommit | 8 => some .configMismatch
  | 9 => some .staffCall | _ => none

/-- A DEMAND's station state: ACTIVE or ISOLATED only (R180). -/
def PeerState.ofCode : Nat → Option PeerState
  | 2 => some .active | 3 => some .isolated | _ => none

def PeerState.code : PeerState → Nat
  | .active => 2 | .isolated => 3

def Radio.ofCode : Nat → Option Radio
  | 0 => some .down | 1 => some .up | _ => none

/-- A byte coded 0 or 1 (R180, R182). -/
def flagOfByte (x : Byte) : Option Bool :=
  if x = 0 then some false else if x = 1 then some true else none

/-! ## Widths (R176, R182) -/

def byteOf (n : Nat) : Byte := BitVec.ofNat 8 n
def bytes2 (n : Nat) : List Byte := [byteOf (n / 256), byteOf n]
def bytes4 (n : Nat) : List Byte := [byteOf (n / 16777216), byteOf (n / 65536), byteOf (n / 256), byteOf n]
def flagByte (x : Bool) : Byte := if x then 1 else 0

/-- Two bytes as a number, most significant first. -/
def join2 (hi lo : Byte) : Nat := hi.toNat * 256 + lo.toNat

/-- A signed figure in four bytes, two's complement (R182). -/
def bytes4Signed (n : Int) : List Byte := bytes4 (BitVec.ofInt 32 n).toNat

/-- A value that may be absent (R182): a presence byte, then the value's bytes, all 0 when absent. -/
def optional (width : Nat) (v : Option (List Byte)) : List Byte :=
  match v with
  | some bs => 1 :: bs
  | none => 0 :: List.replicate width 0

/-- Byte `i` of a record, 0 beyond its end (the callers have checked the length). -/
def at1 (bs : List Byte) (i : Nat) : Nat := (bs.getD i 0).toNat

/-- The two bytes at `i`. -/
def at2 (bs : List Byte) (i : Nat) : Nat := join2 (bs.getD i 0) (bs.getD (i + 1) 0)

/-! ## The check word (R178) -/

/-- One bit into the register. -/
def crcBit (r : Word16) (bit : Bool) : Word16 :=
  if xor bit r.msb then (r <<< 1) ^^^ 0x1021#16 else r <<< 1

/-- One byte into the register, most significant bit first (R176). -/
def crcByte (r : Word16) (x : Byte) : Word16 :=
  [7, 6, 5, 4, 3, 2, 1, 0].foldl (fun acc i => crcBit acc (x.getLsbD i)) r

/-- The check word over a list of bytes. -/
def checkWord (bs : List Byte) : Word16 := bs.foldl crcByte 0xFFFF#16

/-! ## The settings block (R185, R36, R37) -/

def settingsChannel (bs : List Byte) (k : Nat) : ChannelSetting :=
  { role := Role.ofCode (at1 bs (13 + 3 * k)), rated := at1 bs (14 + 3 * k), sensor := at1 bs (15 + 3 * k) }

/-- The sum of the fitted channels' rated loads (R36, R185). -/
def Settings.ratedLoad (s : Settings) : Nat :=
  (s.channels.map fun c => if c.role.isSome then c.rated else 0).sum

def periodOfCode : Nat → Option Nat
  | 0 => some 500 | 1 => some 1000 | 2 => some 2000 | _ => none

/-- The fields of a block, when its coded fields carry listed codes (R185). -/
def settingsFields (bs : List Byte) : Option Settings :=
  match periodOfCode (at1 bs 3), Kind.ofCode (at1 bs 7) with
  | some period, some kind =>
    if (List.range 8).all fun k => decide (at1 bs (13 + 3 * k) ≤ 4) then
      some {
        feeder := at2 bs 0, guardPercent := at1 bs 2, period := period, ramp := at1 bs 4, ackTimeout := at2 bs 5,
        kind := kind, safeAllowance := at2 bs 8, minPeers := at1 bs 10, blanking := at1 bs 11, lowLine := at1 bs 12,
        channels := (List.range 8).map (settingsChannel bs),
        tunnelLength := at1 bs 37, b1 := at1 bs 38, b2 := at1 bs 39, b3 := at1 bs 40, requiredDwell := at1 bs 41,
        sanitizingMinimum := at2 bs 42, vMax := at1 bs 44, vMin := at1 bs 45, holdTimeout := at2 bs 46,
        rackPitch := at1 bs 48 }
    else none
  | _, _ => none

/-- `lo ≤ n ≤ hi`. -/
def within (lo n hi : Nat) : Bool := decide (lo ≤ n) && decide (n ≤ hi)

/-- Shared fields of R36. -/
def Settings.sharedOk (s : Settings) : Bool :=
  within 100 s.feeder 9999 && within 0 s.guardPercent 20 && within 5 s.ramp 200 && within 30 s.ackTimeout 600

/-- Station fields of R36; a channel not fitted is not checked (R185). -/
def Settings.stationOk (s : Settings) : Bool :=
  (s.channels.all fun c => c.role.isNone || (within 1 c.rated 200 && within 0 c.sensor 7))
    && within 0 s.ratedLoad 800 && within 0 s.safeAllowance s.ratedLoad && within 0 s.minPeers 31
    && within 2 s.blanking 40 && within 90 s.lowLine 250

/-- Dish fields of R36. -/
def Settings.dishOk (s : Settings) : Bool :=
  within 12 s.tunnelLength 48 && decide (1 ≤ s.b1) && decide (s.b1 < s.b2) && decide (s.b2 < s.b3)
    && decide (s.b3 < s.tunnelLength) && within 5 s.requiredDwell 60 && within 700 s.sanitizingMinimum 900
    && within 1 s.vMax 60 && within 1 s.vMin 60 && decide (s.vMin ≤ s.vMax) && within 60 s.holdTimeout 600
    && within 1 s.rackPitch 8 && s.channels.any fun c => c.role = some .rinse

/-- The range check of R36; the dish fields only in a DISH station. -/
def Settings.inRange (s : Settings) : Bool :=
  s.sharedOk && s.stationOk && (decide (s.kind ≠ .dish) || s.dishOk)

/-- The check word of the block over offsets 0 to 48 (R185). -/
def blockChecks (bs : List Byte) : Bool :=
  decide (bs.length = Config.blockBytes) && decide ((checkWord (bs.take 49)).toNat = at2 bs 49)

/-- The settings of a block that passes the check word and every range (R35 step 2). -/
def settingsOfBlock (bs : List Byte) : Option Settings :=
  if blockChecks bs then (settingsFields bs).filter Settings.inRange else none

/-- The signature: the check word over the seven shared bytes (R37, R185). -/
def signatureOfBlock (bs : List Byte) : Word16 := checkWord (bs.take 7)

/-! ## Frames (R177, R179, R180) -/

/-- The forms of frame that R48 knows. -/
inductive FrameForm
  | raise | ack | clear | shift | course | demand
  deriving DecidableEq, Repr

/-- The kind byte: kind code in the upper four bits, subkind in the lower four (R177). -/
def FrameForm.kindByte : FrameForm → Byte
  | .raise => 0x11 | .ack => 0x12 | .clear => 0x13 | .shift => 0x20 | .course => 0x30 | .demand => 0x40

/-- The form a kind byte names, if one (R61, R177). -/
def FrameForm.ofByte (k : Byte) : Option FrameForm :=
  [FrameForm.raise, .ack, .clear, .shift, .course, .demand].find? fun f => f.kindByte = k

/-- The body lengths a form admits (R177). -/
def FrameForm.admits (f : FrameForm) (n : Nat) : Bool :=
  match f with
  | .raise => decide (n = 7)
  | .ack | .clear => decide (n = 3)
  | .shift => decide (n = 5)
  | .course => decide (4 ≤ n) && decide (n ≤ 52) && decide ((n - 4) % 6 = 0)
  | .demand => decide (n = 16) || decide (n = 17) || decide (n = 19) || decide (n = 20)

/-- A DEMAND body (R179). -/
structure Demand where
  signature : Word16
  kind : Kind
  state : PeerState
  floor : Nat
  want : Nat
  cls : Nat
  applied : Nat
  rising : Bool
  draw : Nat
  rated : Nat
  dish : Option DishPart
  base : Option Radio
  deriving DecidableEq, Repr

/-- One entry of a COURSE body (R179). -/
structure CourseItem where
  tag : Nat
  version : Nat
  offset : Nat
  state : CourseState
  hold : Bool
  deriving DecidableEq, Repr

/-- A SHIFT body (R179). -/
structure ShiftBody where
  tag : Nat
  version : Nat
  offset : Nat
  hold : Bool
  deriving DecidableEq, Repr

/-- A PAGE RAISE body (R179). -/
structure RaiseBody where
  cause : Cause
  generation : Nat
  owner : Nat
  level : Nat
  priority : Nat
  adopted : Bool
  deriving DecidableEq, Repr

/-- A body taken whole. -/
inductive Received
  | demand (d : Demand)
  | course (items : List CourseItem)
  | shift (x : ShiftBody)
  | raise (r : RaiseBody)
  | ack (cause : Cause) (generation : Nat)
  | clear (cause : Cause) (generation : Nat)
  deriving DecidableEq, Repr

/-- The dish part at offset 16 of a body of 19 or 20 bytes (R179). -/
def dishPartOf (bs : List Byte) : Option (Option DishPart) :=
  if bs.length = 19 ∨ bs.length = 20 then
    (ConveyorState.ofCode (at1 bs 18)).map fun c => some { cleanTally := at2 bs 16, conveyor := c }
  else some none

/-- The base part, last in a body of 17 or 20 bytes (R179). -/
def basePartOf (bs : List Byte) : Option (Option Radio) :=
  if bs.length = 17 then (Radio.ofCode (at1 bs 16)).map some
  else if bs.length = 20 then (Radio.ofCode (at1 bs 19)).map some
  else some none

/-- A DEMAND body field by field; none where R180 discards it. -/
def parseDemand (bs : List Byte) : Option Demand :=
  match Kind.ofCode (at1 bs 2), PeerState.ofCode (at1 bs 3), flagOfByte (bs.getD 11 0), dishPartOf bs, basePartOf bs with
  | some kind, some state, some rising, some dish, some base =>
    if at1 bs 8 ≤ 3 then
      some { signature := BitVec.ofNat 16 (at2 bs 0), kind, state, floor := at2 bs 4, want := at2 bs 6, cls := at1 bs 8,
             applied := at2 bs 9, rising, draw := at2 bs 12, rated := at2 bs 14, dish, base }
    else none
  | _, _, _, _, _ => none

/-- Entry `i` of a COURSE body (R179, R180). -/
def parseCourseItem (bs : List Byte) (i : Nat) : Option CourseItem :=
  match CourseState.ofCode (at1 bs (8 + 6 * i)), flagOfByte (bs.getD (9 + 6 * i) 0) with
  | some state, some hold =>
    some { tag := at1 bs (4 + 6 * i), version := at1 bs (5 + 6 * i), offset := at2 bs (6 + 6 * i), state, hold }
  | _, _ => none

/-- All of a list, or none if one is missing. -/
def allOf {α : Type} : List (Option α) → Option (List α)
  | [] => some []
  | none :: _ => none
  | some x :: rest => (allOf rest).map (x :: ·)

/-- A COURSE body: its count must be what its length gives, its fill bytes are not examined (R180). -/
def parseCourse (bs : List Byte) : Option (List CourseItem) :=
  if at1 bs 0 = (bs.length - 4) / 6 then allOf ((List.range (at1 bs 0)).map (parseCourseItem bs)) else none

def parseShift (bs : List Byte) : Option ShiftBody :=
  (flagOfByte (bs.getD 4 0)).map fun hold => { tag := at1 bs 0, version := at1 bs 1, offset := at2 bs 2, hold }

/-- A cause from its two bytes; none where the kind code is not listed (R186). -/
def causeOf (kind subject : Byte) : Option Cause :=
  (CauseKind.ofCode kind.toNat).map fun k => { kind := k, subject := subject.toNat }

def parseRaise (bs : List Byte) : Option RaiseBody :=
  match causeOf (bs.getD 0 0) (bs.getD 1 0), flagOfByte (bs.getD 6 0) with
  | some cause, some adopted =>
    if at1 bs 3 ≤ 31 ∧ at1 bs 4 ≤ 2 ∧ 1 ≤ at1 bs 5 ∧ at1 bs 5 ≤ 3 then
      some { cause, generation := at1 bs 2, owner := at1 bs 3, level := at1 bs 4, priority := at1 bs 5, adopted }
    else none
  | _, _ => none

/-- A body of an admitted length, checked field by field (R180): none where it is discarded. -/
def parseBody (f : FrameForm) (bs : List Byte) : Option Received :=
  match f with
  | .demand => (parseDemand bs).map .demand
  | .course => (parseCourse bs).map .course
  | .shift => (parseShift bs).map .shift
  | .raise => (parseRaise bs).map .raise
  | .ack => (causeOf (bs.getD 0 0) (bs.getD 1 0)).map fun c => .ack c (at1 bs 2)
  | .clear => (causeOf (bs.getD 0 0) (bs.getD 1 0)).map fun c => .clear c (at1 bs 2)

/-- The start flag (R177). -/
def startFlag : Byte := 0x9D

/-- A frame from its start flag to its check word (R47, R177). -/
def frameBytes (source : Nat) (kind : Byte) (sequence : Nat) (body : List Byte) : List Byte :=
  let inner := [byteOf source, kind, byteOf sequence, byteOf body.length] ++ body
  startFlag :: (inner ++ bytes2 (checkWord inner).toNat)

def causeBytes (c : Cause) : List Byte := [byteOf c.kind.code, byteOf c.subject]

/-- The body of a DEMAND (R179). -/
def demandBytes (d : Demand) : List Byte :=
  bytes2 d.signature.toNat ++ [byteOf d.kind.code, byteOf d.state.code] ++ bytes2 d.floor ++ bytes2 d.want
    ++ [byteOf d.cls] ++ bytes2 d.applied ++ [flagByte d.rising] ++ bytes2 d.draw ++ bytes2 d.rated
    ++ (match d.dish with
        | some p => bytes2 (p.cleanTally % 65536) ++ [byteOf p.conveyor.code]
        | none => [])
    ++ (match d.base with
        | some r => [byteOf r.code]
        | none => [])

/-- The body of a COURSE frame (R179). -/
def courseBytes (items : List CourseItem) : List Byte :=
  [byteOf items.length, 0, 0, 0] ++ items.flatMap fun x =>
    [byteOf x.tag, byteOf x.version] ++ bytes2 x.offset ++ [byteOf x.state.code, flagByte x.hold]

/-- The body of a SHIFT frame (R179). -/
def shiftBytes (x : ShiftBody) : List Byte :=
  [byteOf x.tag, byteOf x.version] ++ bytes2 x.offset ++ [flagByte x.hold]

/-- The body of a PAGE frame (R179). -/
def pageBytes (f : PageFrame) : List Byte :=
  causeBytes f.cause ++ [byteOf f.generation]
    ++ match f.sub with
       | .raise => [byteOf f.owner, byteOf f.level, byteOf f.priority, flagByte f.adopted]
       | .ack | .clear => []

def PageFrame.form (f : PageFrame) : FrameForm :=
  match f.sub with
  | .raise => .raise
  | .ack => .ack
  | .clear => .clear

/-! ## Pager records (R183) -/

/-- A SEND record: type 2, length, fields, check word. -/
def sendBytes (r : SendRecord) : List Byte :=
  let inner := [2, 6] ++ causeBytes r.cause ++ [byteOf r.generation, byteOf r.level, byteOf r.priority, byteOf r.owner]
  inner ++ bytes2 (checkWord inner).toNat

/-! ## Events and responses (R181, R182) -/

/-- Event kind codes 1 to 14 (R182). -/
def EventBody.code : EventBody → Nat
  | .stateChange .. => 1 | .lineStatus .. => 2 | .channelHealth .. => 3 | .sensorStatus .. => 4 | .taskState .. => 5
  | .courseState .. => 6 | .courseShift .. => 7 | .conveyorState .. => 8 | .rackEntry .. => 9 | .rackExit .. => 10
  | .advanceDone .. => 11 | .pageChange .. => 12 | .pageLost .. => 13 | .radioState .. => 14

/-- The fields of an event, in the order its owning rule lists them. The second of the change, which R46, R104, R120,
R136 and R151 list among them, stands once, in the record's own place for it, and is not repeated here (DESIGN CHOICE,
log 55). R160 lists no field of RADIO_STATE: it carries the new radio state (DESIGN CHOICE, log 62). -/
def EventBody.fieldBytes : EventBody → List Byte
  | .stateChange before after reason => [byteOf before.code, byteOf after.code, byteOf reason.code]
  | .lineStatus volts => bytes2 volts
  | .channelHealth channel health reading =>
    [byteOf channel, byteOf health.code] ++ optional 2 (reading.map bytes2)
  | .sensorStatus input status => [byteOf input, byteOf status.code]
  | .taskState task tag before after fault stage =>
    [byteOf task, byteOf tag, byteOf before.code, byteOf after.code, byteOf fault.code, byteOf stage]
  | .courseState tag before after version => [byteOf tag, byteOf before.code, byteOf after.code, byteOf version]
  | .courseShift tag oldVersion newVersion passTime hold =>
    [byteOf tag, byteOf oldVersion, byteOf newVersion] ++ bytes4 passTime ++ [flagByte hold]
  | .conveyorState before after speed => [byteOf before.code, byteOf after.code, byteOf speed]
  | .rackEntry rack load plates crowded =>
    optional 1 (rack.map fun n => [byteOf n]) ++ [byteOf load.code, byteOf plates, flagByte crowded]
  | .rackExit rack plates outcome => [byteOf rack, byteOf plates, byteOf outcome.code]
  | .advanceDone outcome => [byteOf outcome.code]
  | .pageChange cause generation owner level state =>
    causeBytes cause ++ [byteOf generation, byteOf owner, byteOf level, byteOf (pageStateCode state)]
  | .pageLost cause => causeBytes cause
  | .radioState radio => [byteOf radio.code]

/-- The sixteen bytes of an event record; the empty queue gives event kind 0 (R182), and zeros for the rest of
the record (DESIGN CHOICE, log 74). -/
def eventBytes : Option Event → List Byte
  | none => List.replicate 16 0
  | some e =>
    let fields := e.body.fieldBytes
    [byteOf e.body.code, byteOf e.number] ++ bytes4 e.second ++ fields ++ List.replicate (10 - fields.length) 0

/-- The bytes of a response record; the record NONE is three zero bytes and a zero length (R181). -/
def responseBytes : Option Response → List Byte
  | none => List.replicate 5 0
  | some r =>
    [byteOf r.code, byteOf r.number, byteOf (match r.refused with | some x => x.code | none => 0)]
      ++ bytes2 r.data.length ++ r.data

end Sys2Proof.Machine
end

