-- ==== Sys2Proof/WellFormed.lean ====
section
/-! DEFINITION. Well-formed commands: operands that the part's pins, line and ports can in fact supply. `exec` is
total on the others too. -/

namespace Sys2Proof

open Machine

/-- Eight inputs are read at once (R82). -/
def eightInputs (inputs : List SensorInput) : Bool := decide (inputs.length = 8)

/-- A frame of a form of R48: source 0 to 31, a body length its form admits (R177). -/
def frameOk (form : FrameForm) (source : Byte) (body : List Byte) : Bool :=
  decide (source.toNat ≤ 31) && form.admits body.length

/-- A valid frame of unknown kind or unadmitted length (R61). -/
def unknownOk (source kind : Byte) (body : List Byte) : Bool :=
  decide (source.toNat ≤ 31) && decide (body.length ≤ 56)
    && ((FrameForm.ofByte kind).elim true fun f => !f.admits body.length)

/-- A POST PROFILE record's stages fit its length byte (R181, R182). -/
def profileFits : ProfileFields → Bool
  | .direct stages _ _ => decide (stages.length ≤ 49)
  | .aliasTo _ => true

/-- The check of each command; commands without operands, and those whose operands may hold any value, pass. -/
def Instr.wf : Instr → Bool
  | .powerOn _ | .resetPinHeld | .resetPinReleased _ | .settingsCheck | .round | .burstWindowStart | .holdTimeout => true
  | .loopbackTestDone _ inputs => eightInputs inputs
  | .driveTick _ milliAmps => decide (milliAmps.length = 8)
  | .second inputs => eightInputs inputs
  | .taskEditApply task => decide (task < Config.taskEntries)
  | .ackTimerExpiry entry | .clearRetry entry => decide (entry < Config.pageEntries)
  | .manualAdvanceTimeout | .dwellTenth | .encoderPulse | .entrySensor | .exitSensor => true
  | .radioStatusRecord _ | .radioStatusTimeout | .sendRecord | .takenRecord .. | .sendTimeout | .radioAckRecord ..
  | .badRadioRecord => true
  | .gapEnd | .slotStart _ | .lineActivitySeen | .lineSeenActiveWhileSeeking | .transmissionComplete | .collision
  | .corruptFrame _ => true
  | .unknownFrame source kind _ body => unknownOk source kind body
  | .demandFrame source _ body => frameOk .demand source body
  | .courseFrame source _ body => frameOk .course source body
  | .shiftFrame source _ body => frameOk .shift source body
  | .pageRaiseFrame source _ body => frameOk .raise source body
  | .pageAckFrame source _ body => frameOk .ack source body
  | .pageClearFrame source _ body => frameOk .clear source body
  | .noneTransfer | .transferCutShort | .readStatus | .readEvent => true
  | .unknownCommand code => decide (code ≠ 0)
  | .readTable selector => decide (selector.toNat ≤ 6)
  | .readCounters | .readAndClearCounters => true
  | .postProfile _ content => profileFits content
  | .deleteProfile _ | .postCourse .. | .deleteCourse _ | .lockCourse _ | .unlockCourse _ | .shiftCourse ..
  | .markPassed _ | .postTask .. | .editTask .. | .cancelTask _ | .setPlates .. | .raiseStaffCall .. | .clearStaffCall _
  | .clearFault _ | .rackLoaded .. | .rackRemoved .. | .manualAdvance | .conveyorStart | .conveyorStop | .resetTallies => true
  | .writeSettings block => decide (block.length = Config.blockBytes)
  | .settingsWriteDone | .planClear | .restart _ => true

end Sys2Proof
end

