-- ==== Sys2Proof/Decode.lean ====
section
/-! DEFINITION. The table of commands gives no row any bits, so `decodeTableWord` reads none. Beside it: what the
bytes of a command record of the appliance port (R181, R182), of activity on the service line (R60, R61, R177,
R178) and of a record from the radio (R183, R184) spell, and the records that spell a command. -/

namespace Sys2Proof

open Machine

/-- spec/opcode_table.json gives its 72 rows no bits, so no word spells a command. -/
def decodeTableWord (_nbits _w : Nat) : Option Instr := none

/-! ## Two-byte fields -/

/-- The two bytes of a field, most significant first (R176). -/
def wordBytes (w : Word16) : List Byte := bytes2 w.toNat

/-- The field two bytes hold. -/
def word2 (hi lo : Byte) : Word16 := BitVec.ofNat 16 (join2 hi lo)

/-! ## Command records (R181, R182) -/

/-- The stages of a POST PROFILE record, five bytes each, up to the ready setpoint and the band. -/
def stagesOf : List Byte → Option (List StageFields × Word16 × Word16)
  | [r1, r0, b1, b0] => some ([], word2 r1 r0, word2 b1 b0)
  | k :: s1 :: s0 :: a1 :: a0 :: rest =>
    (stagesOf rest).map fun x => ({ kind := k, setpoint := word2 s1 s0, arg := word2 a1 a0 } :: x.1, x.2)
  | _ => none

/-- The fields of a POST PROFILE record after the index; none where its length is not the one its kind and count
fields give. -/
def contentFields : List Byte → Option ProfileFields
  | [2, target] => some (.aliasTo target)
  | 1 :: n :: rest =>
    (stagesOf rest).bind fun x => if x.1.length = n.toNat then some (.direct x.1 x.2.1 x.2.2) else none
  | _ => none

/-- The command that a code and its field bytes spell; none where the code is unknown or does not admit the length
(R181, R182). `straps` are the strap pins a RESTART will read. The code NONE carries no command (R168), whatever length
stands beside it (DESIGN CHOICE, log 60: R181 gives NONE the length 0 and no rule says what another length does). -/
def commandOf (straps : BitVec 5) (code : Nat) (fields : List Byte) : Option Instr :=
  match code, fields with
  | 0, _ => some .noneTransfer
  | 1, [] => some .readStatus
  | 2, [] => some .readEvent
  | 3, [selector] => if selector.toNat ≤ 6 then some (.readTable selector) else none
  | 4, [] => some .readCounters
  | 5, [] => some .readAndClearCounters
  | 6, index :: rest => (contentFields rest).map fun c => .postProfile index c
  | 7, [index] => some (.deleteProfile index)
  | 8, [tag, version, o1, o0] => some (.postCourse tag version (word2 o1 o0) none)
  | 8, [tag, version, o1, o0, m1, m0] => some (.postCourse tag version (word2 o1 o0) (some (word2 m1 m0)))
  | 9, [tag] => some (.deleteCourse tag)
  | 10, [tag] => some (.lockCourse tag)
  | 11, [tag] => some (.unlockCourse tag)
  | 12, [tag, o1, o0, hold] => some (.shiftCourse tag (word2 o1 o0) hold)
  | 13, [tag] => some (.markPassed tag)
  | 14, [tag, profile, mask, sensor, p1, p0] => some (.postTask tag profile mask sensor (word2 p1 p0))
  | 15, [index, profile, mask, sensor, p1, p0] => some (.editTask index profile mask sensor (word2 p1 p0))
  | 16, [index] => some (.cancelTask index)
  | 17, [index, p1, p0] => some (.setPlates index (word2 p1 p0))
  | 18, [subject, priority, level] => some (.raiseStaffCall subject priority level)
  | 19, [subject] => some (.clearStaffCall subject)
  | 20, [channel] => some (.clearFault channel)
  | 21, [kind, plates] => some (.rackLoaded kind plates)
  | 22, [presence, rack] => some (.rackRemoved ⟨presence, rack⟩)
  | 23, [] => some .manualAdvance
  | 24, [] => some .conveyorStart
  | 25, [] => some .conveyorStop
  | 26, [] => some .resetTallies
  | 27, block => if block.length = Config.blockBytes then some (.writeSettings block) else none
  | 28, [] => some .planClear
  | 29, [] => some (.restart straps)
  | _, _ => none

/-- The command of a transfer in which the host has clocked the bytes `bs` while `slot` stood in the response slot (R168,
R169, R181). The transfer is complete when `bs` holds the whole record its header declares and is as long as the
response record; otherwise it is cut short. The response record of an empty slot is the 5 bytes of NONE, which such a
transfer delivers (DEDUCED, log 78). A record that fails gate 1 is an unknown command. Bytes the host clocks after its
record are no part of it (DEDUCED, log 68). -/
def decodeCommand (straps : BitVec 5) (slot : Option Response) (bs : List Byte) : Instr :=
  match bs with
  | code :: len :: fields =>
    if fields.length < len.toNat ∨ bs.length < (responseBytes slot).length then .transferCutShort
    else (commandOf straps code.toNat (fields.take len.toNat)).getD (.unknownCommand code)
  | _ => .transferCutShort

def stageBytes (x : StageFields) : List Byte := x.kind :: (wordBytes x.setpoint ++ wordBytes x.arg)

def contentBytes : ProfileFields → List Byte
  | .direct stages ready band =>
    [1, byteOf stages.length] ++ stages.flatMap stageBytes ++ wordBytes ready ++ wordBytes band
  | .aliasTo target => [2, target]

/-- Code and field bytes of a command of the appliance port; none for the other commands. -/
def commandFields : Instr → Option (Nat × List Byte)
  | .noneTransfer => some (0, [])
  | .readStatus => some (1, [])
  | .readEvent => some (2, [])
  | .readTable selector => some (3, [selector])
  | .readCounters => some (4, [])
  | .readAndClearCounters => some (5, [])
  | .postProfile index content => some (6, index :: contentBytes content)
  | .deleteProfile index => some (7, [index])
  | .postCourse tag version offset lead =>
    some (8, [tag, version] ++ wordBytes offset ++ lead.elim [] wordBytes)
  | .deleteCourse tag => some (9, [tag])
  | .lockCourse tag => some (10, [tag])
  | .unlockCourse tag => some (11, [tag])
  | .shiftCourse tag offset hold => some (12, [tag] ++ wordBytes offset ++ [hold])
  | .markPassed tag => some (13, [tag])
  | .postTask tag profile mask sensor plates => some (14, [tag, profile, mask, sensor] ++ wordBytes plates)
  | .editTask index profile mask sensor plates => some (15, [index, profile, mask, sensor] ++ wordBytes plates)
  | .cancelTask index => some (16, [index])
  | .setPlates index loaded => some (17, [index] ++ wordBytes loaded)
  | .raiseStaffCall subject priority level => some (18, [subject, priority, level])
  | .clearStaffCall subject => some (19, [subject])
  | .clearFault channel => some (20, [channel])
  | .rackLoaded kind plates => some (21, [kind, plates])
  | .rackRemoved rack => some (22, [rack.presence, rack.number])
  | .manualAdvance => some (23, [])
  | .conveyorStart => some (24, [])
  | .conveyorStop => some (25, [])
  | .resetTallies => some (26, [])
  | .writeSettings block => some (27, block)
  | .planClear => some (28, [])
  | .restart _ => some (29, [])
  | .powerOn _ | .resetPinHeld | .resetPinReleased _ | .settingsCheck | .loopbackTestDone .. | .round | .driveTick ..
  | .burstWindowStart | .second _ | .holdTimeout | .taskEditApply _ | .ackTimerExpiry _ | .clearRetry _
  | .manualAdvanceTimeout | .dwellTenth | .encoderPulse | .entrySensor | .exitSensor | .radioStatusRecord _
  | .radioStatusTimeout | .sendRecord | .takenRecord .. | .sendTimeout | .radioAckRecord .. | .badRadioRecord | .gapEnd
  | .slotStart _ | .lineActivitySeen | .lineSeenActiveWhileSeeking | .transmissionComplete | .collision | .corruptFrame _
  | .unknownFrame .. | .demandFrame .. | .courseFrame .. | .shiftFrame .. | .pageRaiseFrame .. | .pageAckFrame ..
  | .pageClearFrame .. | .transferCutShort | .unknownCommand _ | .settingsWriteDone => none

/-- The record of a command of the appliance port (R181). -/
def encodeCommand (i : Instr) : Option (List Byte) :=
  (commandFields i).map fun x => byteOf x.1 :: byteOf x.2.length :: x.2

/-! ## Activity on the service line (R60, R61, R177, R178) -/

/-- The command of a frame whose check word held (R61, R177). -/
def frameCommand (source kind sequence : Byte) (body : List Byte) : Instr :=
  match FrameForm.ofByte kind with
  | some f =>
    if f.admits body.length then
      match f with
      | .raise => .pageRaiseFrame source sequence body
      | .ack => .pageAckFrame source sequence body
      | .clear => .pageClearFrame source sequence body
      | .shift => .shiftFrame source sequence body
      | .course => .courseFrame source sequence body
      | .demand => .demandFrame source sequence body
    else .unknownFrame source kind sequence body
  | none => .unknownFrame source kind sequence body

/-- The command of the bytes from a start flag on, no coding violation having been seen (R60, R177, R178). -/
def decodeLine (bs : List Byte) : Instr :=
  match bs with
  | flag :: source :: kind :: sequence :: len :: rest =>
    if flag ≠ startFlag then .corruptFrame .startFlag
    else if 31 < source.toNat then .corruptFrame .sourceId
    else if 56 < len.toNat then .corruptFrame .bodyLength
    else if rest.length < len.toNat + 2 then .corruptFrame .cutShort
    else
      let body := rest.take len.toNat
      if (checkWord ([source, kind, sequence, len] ++ body)).toNat
          = join2 (rest.getD len.toNat 0) (rest.getD (len.toNat + 1) 0) then
        frameCommand source kind sequence body
      else .corruptFrame .checkWord
  | flag :: _ => if flag ≠ startFlag then .corruptFrame .startFlag else .corruptFrame .cutShort
  | [] => .corruptFrame .cutShort

/-- Kind byte and parts of a command that is a frame whose check word held. -/
def frameParts : Instr → Option (Byte × Byte × Byte × List Byte)
  | .demandFrame source sequence body => some (source, FrameForm.demand.kindByte, sequence, body)
  | .courseFrame source sequence body => some (source, FrameForm.course.kindByte, sequence, body)
  | .shiftFrame source sequence body => some (source, FrameForm.shift.kindByte, sequence, body)
  | .pageRaiseFrame source sequence body => some (source, FrameForm.raise.kindByte, sequence, body)
  | .pageAckFrame source sequence body => some (source, FrameForm.ack.kindByte, sequence, body)
  | .pageClearFrame source sequence body => some (source, FrameForm.clear.kindByte, sequence, body)
  | .unknownFrame source kind sequence body => some (source, kind, sequence, body)
  | _ => none

/-- The bytes of a command that is a frame, from its start flag to its check word (R177). -/
def encodeLine (i : Instr) : Option (List Byte) :=
  (frameParts i).map fun x => frameBytes x.1.toNat x.2.1 x.2.2.1.toNat x.2.2.2

/-! ## Records from the radio (R183, R184) -/

/-- The command of type and fields of a record from the radio. -/
def radioCommand : List Byte → Instr
  | [1, 1, ready] => if ready = 1 then .radioStatusRecord true else if ready = 0 then .radioStatusRecord false else .badRadioRecord
  | [3, 3, kind, subject, generation] => .takenRecord kind subject generation
  | [4, 3, kind, subject, generation] => .radioAckRecord kind subject generation
  | _ => .badRadioRecord

/-- The command of a record from the radio (R183, R184). -/
def decodeRadio (bs : List Byte) : Instr :=
  let inner := bs.take (bs.length - 2)
  if 2 ≤ bs.length ∧ (checkWord inner).toNat = at2 bs (bs.length - 2) then radioCommand inner else .badRadioRecord

/-- A record from the radio with its check word (R183). -/
def radioBytes (inner : List Byte) : List Byte := inner ++ bytes2 (checkWord inner).toNat

/-- Type, length and fields of a command that is a record from the radio. -/
def radioFields : Instr → Option (List Byte)
  | .radioStatusRecord ready => some [1, 1, flagByte ready]
  | .takenRecord kind subject generation => some [3, 3, kind, subject, generation]
  | .radioAckRecord kind subject generation => some [4, 3, kind, subject, generation]
  | _ => none

def encodeRadio (i : Instr) : Option (List Byte) := (radioFields i).map radioBytes

end Sys2Proof
end

