-- ==== Sys2Proof/Machine/Ops.lean ====
section
/-! DEFINITION. Operations that several blocks share: serial numbers and id sets (R1), what the station state
gates, counters (R174), events (R172), the slots and queues of the Line Interface (R55 to R57, R64), the
generation memory (R149), the entry to INIT (R34) and the change of station state (R46). -/

namespace Sys2Proof.Machine

/-! ## Serial numbers and sets (R1) -/

/-- Serial `v` is newer than serial `m` (R1). -/
def newer (v m : Nat) : Bool :=
  let gap := (v + 256 - m % 256) % 256
  decide (1 ≤ gap) && decide (gap ≤ 127)

/-- One on an 8-bit counter (R58, R126, R133, R172). -/
def next8 (n : Nat) : Nat := (n + 1) % 256

def idBit (i : Nat) : IdSet := 1#32 <<< i
def hasId (s : IdSet) (i : Nat) : Bool := s.getLsbD i
def addId (i : Nat) (s : IdSet) : IdSet := s ||| idBit i
def dropId (i : Nat) (s : IdSet) : IdSet := s &&& ~~~ idBit i

/-- The numbers a mask or set holds, ascending. -/
def members {w : Nat} (s : BitVec w) : List Nat := (List.range w).filter fun i => s.getLsbD i

/-! ## What the station state allows -/

/-- LISTEN, ACTIVE, ISOLATED or LOCAL. -/
def StationState.works : StationState → Bool
  | .listen | .active | .isolated | .localOnly => true
  | .initial | .halted => false

/-- ACTIVE or ISOLATED: the states in which the station transmits (R64). -/
def StationState.transmits : StationState → Bool
  | .active | .isolated => true
  | .initial | .listen | .localOnly | .halted => false

/-- The settings in force; all zero until INIT has read them (R33). -/
def Block.cfg (b : Block) : Settings := b.station.image.getD {}

/-- The part is out of reset and works (R34, R35, R45). -/
def Block.runs (b : Block) : Bool := !b.station.resetHeld && b.station.state.works

/-- The Conveyor Tracker works (R132). -/
def Block.dishRuns (b : Block) : Bool := b.runs && decide (b.cfg.kind = .dish)

/-- The pager port is on (R160). -/
def Block.pagerOn (b : Block) : Bool := b.runs && decide (b.cfg.kind = .base)

def Block.id (b : Block) : Nat := b.station.strapId
def Block.now (b : Block) : Nat := b.station.clock
def Block.isLocal (b : Block) : Bool := decide (b.station.state = .localOnly)

/-! ## Counters (R174) -/

def Counters.add (c : Counters) (n : Nat) : CounterName → Counters
  | .framesSent => { c with framesSent := satTo Config.counterTop (c.framesSent + n) }
  | .framesReceived => { c with framesReceived := satTo Config.counterTop (c.framesReceived + n) }
  | .checkErrors => { c with checkErrors := satTo Config.counterTop (c.checkErrors + n) }
  | .collisions => { c with collisions := satTo Config.counterTop (c.collisions + n) }
  | .framesDropped => { c with framesDropped := satTo Config.counterTop (c.framesDropped + n) }
  | .sequenceGaps => { c with sequenceGaps := satTo Config.counterTop (c.sequenceGaps + n) }
  | .phantomExits => { c with phantomExits := satTo Config.counterTop (c.phantomExits + n) }
  | .radioAcksMismatched => { c with radioAcksMismatched := satTo Config.counterTop (c.radioAcksMismatched + n) }
  | .roundsCurtailed => { c with roundsCurtailed := satTo Config.counterTop (c.roundsCurtailed + n) }
  | .roundsOvercommitted => { c with roundsOvercommitted := satTo Config.counterTop (c.roundsOvercommitted + n) }
  | .roundsHeld => { c with roundsHeld := satTo Config.counterTop (c.roundsHeld + n) }
  | .pagesRaised => { c with pagesRaised := satTo Config.counterTop (c.pagesRaised + n) }
  | .pagesMerged => { c with pagesMerged := satTo Config.counterTop (c.pagesMerged + n) }
  | .pagesDropped => { c with pagesDropped := satTo Config.counterTop (c.pagesDropped + n) }
  | .pagesLost => { c with pagesLost := satTo Config.counterTop (c.pagesLost + n) }
  | .escalations => { c with escalations := satTo Config.counterTop (c.escalations + n) }

/-- Advance a counter by `n`, saturating. -/
def countBy (name : CounterName) (n : Nat) (b : Block) : Block :=
  b.onPort fun p => { p with counters := p.counters.add n name }

def count (name : CounterName) (b : Block) : Block := countBy name 1 b

/-! ## Events (R172) -/

/-- Offer an event: it takes the event number; it joins the tail, or is dropped and overflow is set. -/
def offer (body : EventBody) (b : Block) : Block :=
  b.onPort fun p =>
    if p.events.length < Config.eventPlaces then
      { p with events := p.events ++ [{ number := p.eventNumber, second := b.now, body }],
               eventNumber := next8 p.eventNumber }
    else { p with overflow := true, eventNumber := next8 p.eventNumber }

/-! ## Slots and queues of the Line Interface (R55, R56, R57, R64) -/

/-- LOCAL takes no marking and no queueing (R64). -/
def Block.lineTakes (b : Block) : Bool :=
  match b.station.state with
  | .listen | .active | .isolated => true
  | .initial | .localOnly | .halted => false

/-- A mark made while a frame of that kind is in flight stays for the next slot (R53, R55). -/
def markFlight (kind : FrameKind) (l : Line) : Line :=
  { l with inFlight := l.inFlight.map fun f => if f.kind = kind then { f with markedAgain := true } else f }

def markDemand (b : Block) : Block :=
  if b.lineTakes then b.onLine fun l => markFlight .demand { l with demandSlot := true } else b

def markCourse (b : Block) : Block :=
  if b.lineTakes then b.onLine fun l => markFlight .course { l with courseSlot := true } else b

/-- The head of the SHIFT queue is being transmitted (R56). -/
def Line.shiftInFlight (l : Line) : Bool := l.inFlight.any fun f => f.kind = .shift

/-- The new entry takes the place of the oldest entry of its tag (R56). Two waiting entries of one tag arise when the
second joined while the first was in flight and the first then collided; R56 names one to be replaced and not which
(DESIGN CHOICE, log 59). -/
def replaceShift (e : ShiftEntry) : List ShiftEntry → List ShiftEntry
  | [] => []
  | x :: rest => if x.tag = e.tag then e :: rest else x :: replaceShift e rest

/-- Place a SHIFT entry (R56): the queue after it, and whether an entry was dropped for it. -/
def placeShift (l : Line) (e : ShiftEntry) : List ShiftEntry × Bool :=
  let fixed := if l.shiftInFlight then l.shiftQueue.take 1 else []
  let free := if l.shiftInFlight then l.shiftQueue.drop 1 else l.shiftQueue
  if free.any fun x => x.tag = e.tag then
    (fixed ++ replaceShift e free, false)
  else if l.shiftQueue.length < Config.shiftPlaces then (l.shiftQueue ++ [e], false)
  else (fixed ++ free.drop 1 ++ [e], true)

/-- Queue a SHIFT entry (R56), not taken in LOCAL (R64). -/
def queueShift (e : ShiftEntry) (b : Block) : Block :=
  if b.lineTakes then
    let placed := placeShift b.line e
    let b := b.onLine fun l => { l with shiftQueue := placed.1 }
    if placed.2 then count .framesDropped b else b
  else b

/-- Queue a PAGE frame (R57). The answer is false when the full queue refused it: frames dropped and pages lost
advance (R57, R154). In LOCAL it is not taken and counts as queued (R64, R154). -/
def queuePage (f : PageFrame) (b : Block) : Bool × Block :=
  if b.lineTakes then
    if b.line.pageQueue.length < Config.pagePlaces then
      (true, b.onLine fun l => { l with pageQueue := l.pageQueue ++ [f] })
    else (false, count .pagesLost (count .framesDropped b))
  else (true, b)

/-! ## Generation memory (R149) -/

/-- The key of a cause in the generation memory. -/
def causeKey (c : Cause) : Nat := c.kind.code * 256 + c.subject

/-- What a cause without a listed record reads as: NEVER, generation 0, top level 0 (R149). -/
def memoryRead (m : List (Nat × MemRecord)) (key : Nat) : MemRecord :=
  match m with
  | [] => {}
  | (k, r) :: rest => if k = key then r else memoryRead rest key

/-- Write one record, keeping the keys rising and listing no record equal to what an unlisted key reads as. -/
def memoryWrite (m : List (Nat × MemRecord)) (key : Nat) (r : MemRecord) : List (Nat × MemRecord) :=
  match m with
  | [] => if r = {} then [] else [(key, r)]
  | (k, x) :: rest =>
    if key < k then (if r = {} then (k, x) :: rest else (key, r) :: (k, x) :: rest)
    else if key = k then (if r = {} then rest else (key, r) :: rest)
    else (k, x) :: memoryWrite rest key r

/-- The canonical form: keys strictly rising, no record equal to the unlisted one. -/
def memoryWf : List (Nat × MemRecord) → Bool
  | [] => true
  | [(_, r)] => decide (r ≠ {})
  | (k, r) :: (k', r') :: rest => decide (k < k') && decide (r ≠ {}) && memoryWf ((k', r') :: rest)

def Block.memory (b : Block) (c : Cause) : MemRecord := memoryRead b.pages.memory (causeKey c)

def setMemory (c : Cause) (r : MemRecord) (b : Block) : Block :=
  b.onPages fun p => { p with memory := memoryWrite p.memory (causeKey c) r }

/-! ## Election and send list (R159, R161) -/

/-- FRESH (R27). -/
def Peer.fresh (p : Peer) : Bool := decide (p.age < Config.staleAge)

/-- Counted in the division (R30). -/
def counted (signature : Word16) (p : Peer) : Bool :=
  p.fresh && decide (p.signature = signature) && decide (p.state = .active)

/-- The number of fresh peers (R30). -/
def Block.freshPeers (b : Block) : Nat :=
  (b.peers.filter fun p => p.fresh && decide (p.signature = b.station.signature)).length

def findPeer (id : Nat) (b : Block) : Option Peer := b.peers.find? fun p => p.id = id

/-- Index of the entry that holds a cause. -/
def pageIndex (c : Cause) (b : Block) : Option Nat :=
  b.pages.table.findIdx? fun e => e.any fun p => p.cause = c

def pageAt (i : Nat) (b : Block) : Option PageEntry := b.pages.table.getD i none

/-- The entry that holds a cause, whoever owns it. -/
def heldPage (c : Cause) (b : Block) : Option PageEntry := (pageIndex c b).bind fun i => pageAt i b

def setPage (i : Nat) (e : Option PageEntry) (b : Block) : Block :=
  b.onPages fun p => { p with table := p.table.set i e }

/-- `a` is older than `c`: earlier raised-at, then lower entry number (R151). -/
def olderPage (a c : Nat × PageEntry) : Bool :=
  decide (a.2.raisedAt < c.2.raisedAt) || (decide (a.2.raisedAt = c.2.raisedAt) && decide (a.1 < c.1))

/-- `a` goes before `c` on the send list: higher priority, then older (R161). -/
def sendsBefore (a c : Nat × PageEntry) : Bool :=
  decide (c.2.priority < a.2.priority) || (decide (c.2.priority = a.2.priority) && olderPage a c)

/-- Entry number and entry of a cause, if held. -/
def locatePage (c : Cause) (b : Block) : Option (Nat × PageEntry) :=
  (pageIndex c b).bind fun i => (pageAt i b).map fun e => (i, e)

/-- Put a located cause into a list in sending order, before the first cause it goes before; on a list that changed
priorities have left out of order that place is the model's (DESIGN CHOICE, log 72). -/
def insertSend (b : Block) (x : Nat × PageEntry) : List Cause → List Cause
  | [] => [x.2.cause]
  | c :: rest =>
    match locatePage c b with
    | some y => if sendsBefore x y then x.2.cause :: c :: rest else c :: insertSend b x rest
    | none => c :: insertSend b x rest

/-- Place a cause on the send list of the elected base: a RAISED entry, not clear due, at most once (R161). -/
def placeSend (c : Cause) (b : Block) : Block :=
  if b.pager.elected then
    match locatePage c b with
    | some x =>
      if x.2.state = .raised ∧ x.2.clearDue = false ∧ c ∉ b.pager.sendList then
        b.onPager fun g => { g with sendList := insertSend b x g.sendList }
      else b
    | none => b
  else b

/-- A cause leaves the send list (R161). -/
def unlist (c : Cause) (b : Block) : Block :=
  b.onPager fun g => { g with sendList := g.sendList.filter fun x => x ≠ c }

/-- R159's condition. -/
def electable (b : Block) : Bool :=
  decide (b.cfg.kind = .base) && b.station.state.transmits && decide (b.pager.radio = .up)
    && b.peers.all fun p => !(decide (p.kind = .base) && p.fresh && decide (p.base = some .up)) || decide (b.id < p.id)

/-- The causes of the table's entries, in entry order. -/
def heldCauses (b : Block) : List Cause := b.pages.table.filterMap fun e => e.map fun p => p.cause

/-- Decide the election afresh (R159): on becoming elected every RAISED entry joins the list; on ceasing, the
outstanding SEND is abandoned and the list emptied (R161). -/
def decideElection (b : Block) : Block :=
  if electable b then
    if b.pager.elected then b
    else (heldCauses b).foldl (fun acc c => placeSend c acc) (b.onPager fun g => { g with elected := true })
  else b.onPager fun g => { g with elected := false, sendList := [], outstanding := none }

/-! ## Station state (R34, R46) -/

/-- Entry to INIT (R34): every block to its reset values, the strap id read (R35 step 1). The settings store
keeps its block and a write that ran is given up (R175); the reset pin stays as it is. -/
def enterInit (reason : EntryReason) (straps : Nat) (b : Block) : Block :=
  { station := { reason := reason, strapId := straps, resetHeld := b.station.resetHeld },
    store := { block := b.store.block } }

/-- A change of station state with its event (R46); the election is decided afresh (R159). -/
def changeState (new : StationState) (reason : EntryReason) (b : Block) : Block :=
  let before := b.station.state
  decideElection
    (offer (.stateChange before new reason) (b.onStation fun s => { s with state := new, reason := reason }))

/-- The cut of the grant on entry to ISOLATED and LOCAL (R17). -/
def cutGrant (b : Block) : Block :=
  b.onShare fun s => { s with applied := min s.applied b.cfg.safeAllowance }

end Sys2Proof.Machine
end

