-- ==== Sys2Proof/Machine/Pages.lean ====
section
/-! DEFINITION. The Page Tracker (chapter 9): local raises and the retry queue, resolution reports and CLEARs,
heard PAGE frames, the ack timer, orphaned pages; and the withdrawal of superseded frames (R59). -/

namespace Sys2Proof.Machine

/-! ## Causes (R150) -/

/-- Priority of a kind; a STAFF_CALL takes the host's (R150). -/
def CauseKind.priority : CauseKind → Nat
  | .courseReady => 2 | .courseLate => 3 | .rackHold => 2 | .platesShort => 1 | .elementFault => 2 | .stationLost => 2
  | .overcommit => 3 | .configMismatch => 1 | .staffCall => 1

/-- Start level of a kind; a STAFF_CALL takes the host's (R150). -/
def CauseKind.startLevel : CauseKind → Nat
  | .courseReady => 0 | .courseLate => 2 | .rackHold => 0 | .platesShort => 0 | .elementFault => 1 | .stationLost => 1
  | .overcommit => 1 | .configMismatch => 1 | .staffCall => 0

/-- The one-shot kinds (R150). -/
def CauseKind.oneShot : CauseKind → Bool
  | .courseReady | .staffCall => true
  | _ => false

/-! ## Events and generation memory of one entry -/

/-- The PAGE_CHANGE event of an entry as it stands (R151). -/
def pageEvent (e : PageEntry) (b : Block) : Block :=
  offer (.pageChange e.cause e.generation e.owner e.level (some e.state)) b

/-- The PAGE_CHANGE event of a removal (R151). -/
def removedEvent (e : PageEntry) (b : Block) : Block :=
  offer (.pageChange e.cause e.generation e.owner e.level none) b

/-- The top level of a record that takes generation `g`: 0 when `g` is newer, as it stands otherwise (R149). -/
def topAfter (r : MemRecord) (g : Nat) : Nat := if r.state = .never ∨ newer g r.generation then 0 else r.topLevel

/-- The record of a cause when an entry of generation `g` is made or replaced at `level` (R149): OPEN with `g`. The level an
entry begins with counts as a rise of its level, so that a copy made again for `g` begins no lower (R157; DEDUCED, log 20). -/
def openedRecord (g level : Nat) : MemRecord := { state := .opened, generation := g, topLevel := level }

/-- The rise of an entry's level to `level` sets its cause's top level (R149), also where the record has gone on to a newer
generation than the entry's (DESIGN CHOICE, log 73). -/
def risenRecord (r : MemRecord) (level : Nat) : MemRecord := { r with topLevel := level }

/-- What a heard frame of generation `g` teaches the memory (R149). -/
def learnedRecord (r : MemRecord) (g : Nat) (isClear : Bool) : MemRecord :=
  if r.state = .never ∨ newer g r.generation then
    { state := if isClear then .cleared else .opened, generation := g, topLevel := 0 }
  else if isClear ∧ r.generation = g then { r with state := .cleared }
  else r

def learn (c : Cause) (g : Nat) (isClear : Bool) (b : Block) : Block :=
  setMemory c (learnedRecord (b.memory c) g isClear) b

/-- The generation of a new raising (R152). -/
def nextGeneration (r : MemRecord) : Nat := if r.state = .never then 0 else next8 r.generation

/-! ## Raising (R152, R153) -/

/-- Lowest free entry number (R151). -/
def freePage (b : Block) : Option Nat := b.pages.table.findIdx? fun e => e.isNone

/-- The RAISE frame of an entry (R152). -/
def raiseFrame (e : PageEntry) : PageFrame :=
  { sub := .raise, cause := e.cause, generation := e.generation, owner := e.owner, level := e.level,
    priority := e.priority, adopted := e.adopted }

def ackFrame (c : Cause) (g : Nat) : PageFrame := { sub := .ack, cause := c, generation := g }
def clearFrame (c : Cause) (g : Nat) : PageFrame := { sub := .clear, cause := c, generation := g }

/-- Make a new entry of this station's at entry number `i`, and queue its RAISE (R152). -/
def makeEntry (i : Nat) (w : Waiting) (b : Block) : Block :=
  let g := nextGeneration (b.memory w.cause)
  let e : PageEntry :=
    { cause := w.cause, generation := g, owner := b.id, level := w.level, state := .raised, priority := w.priority,
      merges := w.merges, raisedAt := b.now, deadline := some (b.now + b.cfg.ackTimeout),
      oneShot := w.cause.kind.oneShot, adopted := false, clearDue := false }
  let b := setPage i (some e) (setMemory w.cause (openedRecord g w.level) b)
  let b := count .pagesRaised (pageEvent e b)
  placeSend w.cause (queuePage (raiseFrame e) b).2

/-- A freed entry takes the head of the retry queue at once (R153). -/
def enterRetry (b : Block) : Block :=
  match b.pages.retry, freePage b with
  | w :: rest, some i => makeEntry i w (b.onPages fun p => { p with retry := rest })
  | _, _ => b

/-- Outcomes of a raise (10.3). -/
inductive RaiseOutcome
  | entered | merged | waiting | lost
  deriving DecidableEq, Repr

def RaiseOutcome.code : RaiseOutcome → Nat
  | .entered => 0 | .merged => 1 | .waiting => 2 | .lost => 3

def isWaiting (c : Cause) (b : Block) : Bool := b.pages.retry.any fun w => w.cause = c

/-- A raise that finds every entry in use goes to the retry queue (R153). -/
def joinRetry (c : Cause) (priority level : Nat) (b : Block) : Block × RaiseOutcome :=
  if isWaiting c b then
    (count .pagesMerged (b.onPages fun p =>
      { p with retry := p.retry.map fun w => if w.cause = c then { w with merges := satTo 255 (w.merges + 1) } else w }),
      .waiting)
  else if b.pages.retry.length < Config.retryPlaces then
    (b.onPages fun p => { p with retry := p.retry ++ [{ cause := c, priority, level, merges := 1 }] }, .waiting)
  else (offer (.pageLost c) (count .pagesLost b), .lost)

/-- A local raise with its priority and start level (R152). One that merges changes the merge count alone, which is no change
for which R161 lists the cause again while its SEND is outstanding (DESIGN CHOICE, log 71). -/
def raiseWith (c : Cause) (priority level : Nat) (b : Block) : Block × RaiseOutcome :=
  match locatePage c b with
  | some (i, e) =>
    (count .pagesMerged (setPage i (some { e with merges := satTo 255 (e.merges + 1) }) b), .merged)
  | none =>
    match freePage b with
    | some i => (makeEntry i { cause := c, priority, level, merges := 1 } b, .entered)
    | none => joinRetry c priority level b

/-- A local raise of a kind with its own priority and start level (R150, R152). -/
def raise (kind : CauseKind) (subject : Nat) (b : Block) : Block :=
  (raiseWith { kind, subject } kind.priority kind.startLevel b).1

/-! ## Resolving and clearing (R154) -/

/-- Remove an entry by a CLEAR of generation `g`, sent or heard: the memory becomes CLEARED at the newer of the
entry's generation and `g` (R149), and the freed entry takes the retry head (R153). -/
def removeEntry (i : Nat) (e : PageEntry) (g : Nat) (b : Block) : Block :=
  let cleared := if newer g e.generation then g else e.generation
  let r := b.memory e.cause
  let b := setMemory e.cause
    { state := .cleared, generation := cleared, topLevel := topAfter r cleared } b
  enterRetry (removedEvent e (unlist e.cause (setPage i none b)))

/-- Queue the CLEAR of an entry and remove it; when the full PAGE queue refuses, the entry becomes clear due (R154). -/
def offerClear (i : Nat) (e : PageEntry) (b : Block) : Block :=
  let queued := queuePage (clearFrame e.cause e.generation) b
  if queued.1 then removeEntry i e e.generation queued.2
  else unlist e.cause (setPage i (some { e with clearDue := true, offeredAt := b.now }) queued.2)

/-- A resolution report (R154): it acts on an entry this station owns, in either state. -/
def resolve (c : Cause) (b : Block) : Block :=
  match locatePage c b with
  | some (i, e) => if e.owner = b.id then offerClear i e b else b
  | none => b

/-- A resolution report of a kind and subject. -/
def resolved (kind : CauseKind) (subject : Nat) (b : Block) : Block := resolve { kind, subject } b

/-! ## Heard RAISE (R155, R164) -/

/-- Put a copy of a heard RAISE at entry number `i`; a waiting raise of the cause joins it (R153, R155). -/
def copyAt (i : Nat) (f : RaiseBody) (b : Block) : Block :=
  let r := b.memory f.cause
  let level := max f.level (if r.state ≠ .never ∧ r.generation = f.generation then r.topLevel else 0)
  let waiting := (b.pages.retry.find? fun w => w.cause = f.cause).elim 0 fun w => w.merges
  let e : PageEntry :=
    { cause := f.cause, generation := f.generation, owner := f.owner, level, state := .raised, priority := f.priority,
      merges := satTo 255 (1 + waiting), raisedAt := b.now,
      deadline := if f.owner = b.id then some (b.now + b.cfg.ackTimeout) else none,
      oneShot := f.cause.kind.oneShot || f.adopted, adopted := f.adopted, clearDue := false }
  let b := b.onPages fun p => { p with retry := p.retry.filter fun w => w.cause ≠ f.cause }
  let b := setPage i (some e) (setMemory f.cause (openedRecord f.generation level) b)
  placeSend f.cause (pageEvent e b)

/-- `a` is evicted before `c`: lower priority, then older (R155). -/
def evictsBefore (a c : Nat × PageEntry) : Bool :=
  decide (a.2.priority < c.2.priority) || (decide (a.2.priority = c.2.priority) && olderPage a c)

/-- The entries in use with their numbers, from entry `i` on. -/
def numbered : Nat → List (Option PageEntry) → List (Nat × PageEntry)
  | _, [] => []
  | i, some e :: rest => (i, e) :: numbered (i + 1) rest
  | i, none :: rest => numbered (i + 1) rest

/-- The entry of lowest priority, oldest among those, that this station does not own, when its priority is below
the frame's (R155). -/
def victim (priority : Nat) (b : Block) : Option (Nat × PageEntry) :=
  let others := (numbered 0 b.pages.table).filter fun x => decide (x.2.owner ≠ b.id)
  let pick := others.foldl (fun acc x => match acc with
    | none => some x
    | some y => if evictsBefore x y then some x else some y) none
  pick.filter fun x => decide (x.2.priority < priority)

/-- The owner and adopted flag after a merge: the adopted flags first, then the lower id (R155). -/
def settleOwner (e : PageEntry) (f : RaiseBody) : Nat × Bool :=
  if f.adopted ∧ e.adopted = false then (f.owner, true)
  else if e.adopted ∧ f.adopted = false then (e.owner, true)
  else (min e.owner f.owner, e.adopted)

/-- A heard RAISE of the entry's own generation merges into it (R155). In LOCAL nothing is queued (R164). Where an own RAISE
and an ACK are both due, the RAISE is queued first (DESIGN CHOICE, log 65: R155 orders neither first). A clear-due entry
whose ownership passes stays clear due (DESIGN CHOICE, log 70). -/
def mergeRaise (i : Nat) (e : PageEntry) (f : RaiseBody) (b : Block) : Block :=
  let own := settleOwner e f
  let e' : PageEntry :=
    { e with
      level := max e.level f.level,
      priority := if e.cause.kind = .staffCall then max e.priority f.priority else e.priority,
      owner := own.1, adopted := own.2, oneShot := e.oneShot || own.2,
      deadline :=
        if own.1 ≠ b.id then none
        else if e.owner ≠ b.id ∧ e.state = .raised then some (b.now + b.cfg.ackTimeout)
        else e.deadline }
  let b1 := setPage i (some e') b
  let b1 := if e.level < e'.level then setMemory e.cause (risenRecord (b.memory e.cause) e'.level) b1 else b1
  let b1 := if e.level ≠ e'.level ∨ e.owner ≠ e'.owner then pageEvent e' b1 else b1
  let b1 := placeSend e.cause b1
  let b1 :=
    if e.owner = b.id ∧ e'.owner = b.id ∧ b.id < f.owner ∧ b.isLocal = false then (queuePage (raiseFrame e') b1).2 else b1
  if e.state = .acked ∧ b.isLocal = false then (queuePage (ackFrame e.cause e.generation) b1).2 else b1

/-- A heard RAISE of a cause the table does not hold (R155). -/
def raiseAbsent (f : RaiseBody) (before : MemRecord) (b : Block) : Block :=
  if before.state ≠ .never ∧
      (newer before.generation f.generation ∨ (before.generation = f.generation ∧ before.state = .cleared)) then b
  else
    match freePage b with
    | some i => copyAt i f b
    | none =>
      match victim f.priority b with
      | some (i, e) =>
        copyAt i f (count .pagesDropped (removedEvent e (unlist e.cause (setPage i none b))))
      | none => count .pagesDropped b

/-- A heard RAISE (R155); in LOCAL an entry this station owns is left untouched (R164). -/
def heardRaise (f : RaiseBody) (b : Block) : Block :=
  let before := b.memory f.cause
  let b := learn f.cause f.generation false b
  match locatePage f.cause b with
  | none => raiseAbsent f before b
  | some (i, e) =>
    if b.isLocal ∧ e.owner = b.id then b
    else if newer f.generation e.generation then copyAt i f b
    else if f.generation = e.generation then mergeRaise i e f b
    else b

/-! ## Heard ACK and CLEAR (R156), the radio's ACK (R162) -/

/-- An entry becomes ACKED: its deadline becomes none and it leaves the send list (R156). -/
def ackEntry (i : Nat) (e : PageEntry) (b : Block) : Block :=
  let e' := { e with state := .acked, deadline := none }
  pageEvent e' (unlist e.cause (setPage i (some e') b))

/-- The owner clears a one-shot page on its acknowledgement (R156). -/
def clearIfOneShot (c : Cause) (b : Block) : Block :=
  match locatePage c b with
  | some (i, e) => if e.owner = b.id ∧ e.oneShot then offerClear i e b else b
  | none => b

def heardAck (c : Cause) (g : Nat) (b : Block) : Block :=
  let b := learn c g false b
  match locatePage c b with
  | some (i, e) =>
    if e.generation = g ∧ e.state = .raised ∧ ¬(b.isLocal ∧ e.owner = b.id) then clearIfOneShot c (ackEntry i e b) else b
  | none => b

/-- A heard CLEAR removes an entry of its generation or an older one (R156). Generations exactly 128 apart are each
older than the other (R1), so R156's two sentences both apply; the model keeps the entry (DESIGN CHOICE, log 17). -/
def heardClear (c : Cause) (g : Nat) (b : Block) : Block :=
  let b := learn c g true b
  match locatePage c b with
  | some (i, e) =>
    if (e.generation = g ∨ newer g e.generation) ∧ ¬(b.isLocal ∧ e.owner = b.id) then removeEntry i e g b else b
  | none => b

/-- An ACK record from the radio while the pager port is on (R162); in LOCAL it is counted as mismatched. -/
def radioAck (cause : Option Cause) (g : Nat) (b : Block) : Block :=
  if b.isLocal then count .radioAcksMismatched b
  else
    match cause.bind fun c => locatePage c b with
    | some (i, e) =>
      if e.generation ≠ g then count .radioAcksMismatched b
      else if e.state = .raised then
        clearIfOneShot e.cause (queuePage (ackFrame e.cause g) (ackEntry i e b)).2
      else b
    | none => count .radioAcksMismatched b

/-! ## The ack timer (R157) and the retry of a CLEAR (R154) -/

/-- The ack timer of entry `i` has reached its level deadline (R157). -/
def ackDue (i : Nat) (b : Block) : Option PageEntry :=
  (pageAt i b).filter fun e =>
    decide (e.state = .raised) && decide (e.owner = b.id) && !e.clearDue && e.deadline.any fun d => decide (d ≤ b.now)

/-- The expiry of the ack timer of entry `i`, when it is due (R157). -/
def expireAck (i : Nat) (b : Block) : Block :=
  match ackDue i b with
  | none => b
  | some e =>
    let e' := { e with level := if e.level < 2 then e.level + 1 else e.level,
                       deadline := some (b.now + b.cfg.ackTimeout) }
    let b := setPage i (some e') b
    let b := if e.level < e'.level then setMemory e.cause (risenRecord (b.memory e.cause) e'.level) b else b
    placeSend e.cause (count .escalations (pageEvent e' (queuePage (raiseFrame e') b).2))

/-- A clear-due entry whose CLEAR has not been offered in this second (R154), whoever owns it by now (DESIGN CHOICE,
log 70). -/
def clearRetryDue (i : Nat) (b : Block) : Option PageEntry :=
  (pageAt i b).filter fun e => e.clearDue && decide (e.offeredAt ≠ b.now)

def retryClear (i : Nat) (b : Block) : Block :=
  match clearRetryDue i b with
  | none => b
  | some e => offerClear i e b

/-! ## Orphaned pages (R158) -/

/-- The adopter: the lowest id among this station and the FRESH, counted peers, less an excluded id (R158). -/
def adopter (excluded : Option Nat) (b : Block) : Nat :=
  ((b.peers.filter fun p => counted b.station.signature p && decide (some p.id ≠ excluded)).map fun p => p.id).foldl min b.id

/-- The adopter takes one page of a lost owner (R158). -/
def adoptPage (lost : Nat) (c : Cause) (b : Block) : Block :=
  match locatePage c b with
  | some (i, e) =>
    if e.owner = lost then
      let e' := { e with owner := b.id, adopted := true, oneShot := true,
                         deadline := if e.state = .raised then some (b.now + b.cfg.ackTimeout) else none }
      let b1 := pageEvent e' (setPage i (some e') b)
      if e.state = .acked then offerClear i e' b1
      else
        let b2 := (queuePage (raiseFrame e') b1).2
        if b2.pager.outstanding.any fun r => r.cause = c then placeSend c b2 else b2
    else b
  | none => b

/-- The pages of a lost or restarted owner (R158), taken in entry order (DESIGN CHOICE, log 61: R158 gives none). In LOCAL no
adoption is made (R164). -/
def orphanPages (lost : Nat) (excluded : Option Nat) (b : Block) : Block :=
  if b.isLocal = false ∧ adopter excluded b = b.id then
    (heldCauses b).foldl (fun acc c => adoptPage lost c acc) b
  else b

/-! ## Withdrawal (R59) -/

/-- What a received frame says of a page: its form, cause and generation. -/
def Received.pageWord : Received → Option (PageSub × Cause × Nat)
  | .raise r => some (.raise, r.cause, r.generation)
  | .ack c g => some (.ack, c, g)
  | .clear c g => some (.clear, c, g)
  | .demand _ | .course _ | .shift _ => none

def reaches (heard pending : Nat) : Bool := decide (heard = pending) || newer heard pending

/-- A pending PAGE frame is superseded, as the page table stands after the received frame (R59). -/
def pageSuperseded (r : Received) (b : Block) (f : PageFrame) : Bool :=
  match f.sub with
  | .raise =>
    match heldPage f.cause b with
    | none => true
    | some e => decide (e.owner < f.owner) || newer e.generation f.generation
  | .ack =>
    match r.pageWord with
    | some (.ack, c, g) | some (.clear, c, g) => decide (c = f.cause) && reaches g f.generation
    | _ => false
  | .clear =>
    match r.pageWord with
    | some (.clear, c, g) => decide (c = f.cause) && reaches g f.generation
    | some (.raise, c, g) => decide (c = f.cause) && newer g f.generation
    | _ => false

/-- A pending SHIFT is superseded by an adopted newer version, or its tag is gone (R59). -/
def shiftSuperseded (b : Block) (x : ShiftEntry) : Bool :=
  match (b.plan.courses.filterMap id).find? fun c => c.tag = x.tag with
  | none => true
  | some c => c.adopted && newer c.version x.version

/-- Withdraw every superseded entry; the rest keep their order and nothing is counted (R59). -/
def withdraw (r : Received) (b : Block) : Block :=
  b.onLine fun l =>
    { l with shiftQueue := l.shiftQueue.filter fun x => !shiftSuperseded b x,
             pageQueue := l.pageQueue.filter fun f => !pageSuperseded r b f }

end Sys2Proof.Machine
end

