-- ==== Sys2Proof/Machine/Conveyor.lean ====
section
/-! DEFINITION. The Conveyor Tracker (chapter 8): zones, rinse and speed, the conveyor state with its wants and
holds, and the events of racks, encoder and dwell. Every function here acts in a working DISH station only. -/

namespace Sys2Proof.Machine

/-! ## Zones (R133) -/

/-- Zones of the tunnel. -/
inductive Zone
  | wash | rinse | final | dry | exit
  deriving DecidableEq, Repr

def Zone.code : Zone → Nat
  | .wash => 0 | .rinse => 1 | .final => 2 | .dry => 3 | .exit => 4

/-- The zone of a position (R36, R133). -/
def zoneOf (s : Settings) (position : Nat) : Zone :=
  if position < s.b1 then .wash
  else if position < s.b2 then .rinse
  else if position < s.b3 then .final
  else if position < s.tunnelLength then .dry
  else .exit

def rackInFinal (b : Block) : Bool := b.conveyor.queue.any fun r => zoneOf b.cfg r.position = .final

/-! ## Rinse and speed (R134, R135) -/

/-- The fitted channels of a role. -/
def channelsOf (role : Role) (b : Block) : List Channel :=
  b.drive.channels.filter fun c => c.fitted && decide (c.role = role)

def inputAt (i : Nat) (b : Block) : TempInput := b.drive.inputs.getD i {}

/-- The lowest of a list of readings, 0 for none. -/
def lowest : List Nat → Nat
  | [] => 0
  | x :: rest => rest.foldl min x

/-- The status of several inputs (R134): OK while every one is, else the detail of the first that is not, which is
the lowest-numbered faulted channel's (DESIGN CHOICE, log 52: R134 names no detail). -/
def jointStatus (inputs : List TempInput) : SensorStatus :=
  (inputs.find? fun t => t.status ≠ .ok).elim .ok fun t => t.status

/-- The final-rinse temperature and status (R134); the reading is not taken while an input is faulted (R83). -/
def readRinse (b : Block) : Block :=
  let inputs := (channelsOf .rinse b).map fun c => inputAt c.sensor b
  if jointStatus inputs = .ok then
    b.onConveyor fun c => { c with rinseTemp := lowest (inputs.map fun t => t.reading), rinseStatus := .ok }
  else b.onConveyor fun c => { c with rinseStatus := jointStatus inputs }

/-- The rinse is hot (R134). -/
def rinseHot (b : Block) : Bool :=
  decide (b.conveyor.rinseStatus = .ok) && decide (b.cfg.sanitizingMinimum ≤ b.conveyor.rinseTemp)

/-- A RINSE channel's allotment in the window in progress, 0 when it is OPEN or TRIPPED or was so earlier in the
window (R135, R72). -/
def Channel.rinseAllotment (c : Channel) : Nat :=
  if (c.health = .opened ∨ c.health = .tripped) ∨ c.faultedNow then 0 else c.allotment

/-- The speed fraction of allotments and ratings (R135). -/
def fractionOf (allotted rated : Nat) : Nat := min 1000 (1000 * allotted / rated)

/-- Compute speed fraction and speed (R135). -/
def computeSpeed (b : Block) : Block :=
  let rinse := channelsOf .rinse b
  let fraction := fractionOf ((rinse.map Channel.rinseAllotment).sum) ((rinse.map Channel.rated).sum)
  b.onConveyor fun c => { c with speedFraction := fraction, speed := b.cfg.vMax * fraction / 1000 }

/-! ## Wants (R138) -/

/-- The tank setpoint is 20 °C below the sanitizing minimum; one rating per 5 °C, clamped to the rating (R138). -/
def tankAmount (s : Settings) (c : Channel) (t : TempInput) : Nat :=
  if t.status = .ok then min c.rated (ceilDiv (c.rated * (s.sanitizingMinimum - 200 - t.reading)) 50) else 0

/-- Class of a held rinse's extra (R138). -/
def rinseClass (b : Block) : Nat :=
  if rackInFinal b then 2 else if b.conveyor.queue.isEmpty then 0 else 1

def ConveyorState.moves : ConveyorState → Bool
  | .running | .slowed => true
  | _ => false

/-- The want record of a TANK, RINSE or DRY channel (R138). -/
def dishWant (b : Block) (c : Channel) : Want :=
  match c.role with
  | .tank => { amount := tankAmount b.cfg c (inputAt c.sensor b), kind := .floor }
  | .rinse =>
    if b.conveyor.state.moves then { amount := c.rated, kind := .floor }
    else if b.conveyor.state = .stopped then {}
    else { amount := c.rated, kind := .extra, cls := rinseClass b }
  | .dry => if b.conveyor.state.moves then { amount := c.rated, kind := .extra, cls := 0 } else {}
  | .heat => c.want

/-- Set the want records of the fitted TANK, RINSE and DRY channels (R138). -/
def setDishWants (b : Block) : Block :=
  b.onDrive fun d =>
    { d with channels := d.channels.map fun c => if c.fitted ∧ c.role ≠ .heat then { c with want := dishWant b c } else c }

/-! ## The conveyor state (R136) and its holds (R146) -/

/-- R136's table. -/
def conveyorStateOf (b : Block) : ConveyorState :=
  let c := b.conveyor
  if 0 < c.untracked then .entryFault
  else if c.jammed then .jammed
  else if c.runRequest = false then .stopped
  else if rinseHot b = false ∧ (rackInFinal b ∨ b.cfg.vMin ≤ c.speed) then .tempHold
  else if c.queue.any fun r => decide (r.position + 1 = b.cfg.b3) && !r.sanitized then .dwellHold
  else if c.speed < b.cfg.vMin then .powerHold
  else if c.speed < b.cfg.vMax then .slowed
  else .running

/-- The hold code (R146). -/
def ConveyorState.holdCode : ConveyorState → Option Nat
  | .powerHold => some 1 | .tempHold => some 2 | .dwellHold => some 3 | .jammed => some 4 | .entryFault => some 5
  | _ => none

/-- POWER_HOLD, TEMP_HOLD and DWELL_HOLD: the timed holds (R146). -/
def ConveyorState.timedHold : ConveyorState → Bool
  | .powerHold | .tempHold | .dwellHold => true
  | _ => false

/-- Close a timed hold: hold seconds become 0 and a recorded page is reported resolved (R146). -/
def closeHold (b : Block) : Block :=
  let page := b.conveyor.holdPage
  let b := b.onConveyor fun c => { c with holdSeconds := 0, holdPage := none }
  match page with
  | some code => resolved .rackHold code b
  | none => b

/-- Raise RACK_HOLD with a code and record it as the hold page (R146). -/
def raiseHold (code : Nat) (b : Block) : Block :=
  raise .rackHold code (b.onConveyor fun c => { c with holdPage := some code })

/-- Settle the hold span at a change of state (R146). From a timed hold into JAMMED or ENTRY_FAULT the recorded code is
reported resolved before 4 or 5 is raised (DESIGN CHOICE, log 63: R146 orders neither first). -/
def settleHold (before after : ConveyorState) (b : Block) : Block :=
  let b :=
    if before.timedHold then
      if after.timedHold then
        match b.conveyor.holdPage, after.holdCode with
        | some old, some code => raiseHold code (resolved .rackHold old b)
        | _, _ => b
      else closeHold b
    else b
  match after with
  | .jammed => raiseHold 4 b
  | .entryFault => raiseHold 5 b
  | _ => if before = .jammed ∨ before = .entryFault then b.onConveyor fun c => { c with holdPage := none } else b

/-- End a manual advance with an outcome (R144). -/
def endAdvance (outcome : AdvanceOutcome) (b : Block) : Block :=
  if b.conveyor.advance.isSome then offer (.advanceDone outcome) (b.onConveyor fun c => { c with advance := none }) else b

/-- A change to RUNNING, SLOWED or ENTRY_FAULT supersedes a manual advance (R144); its ADVANCE_DONE event follows the
CONVEYOR_STATE event (DESIGN CHOICE, log 64). -/
def supersedeAdvance (after : ConveyorState) (b : Block) : Block :=
  if after.moves ∨ after = .entryFault then endAdvance .superseded b else b

/-- Derive the conveyor state (R136): at a change it is stored, the wants are set, the hold span is settled and a
CONVEYOR_STATE event is placed. -/
def deriveConveyor (b : Block) : Block :=
  let before := b.conveyor.state
  let after := conveyorStateOf b
  if after = before then b
  else
    let b := setDishWants (b.onConveyor fun c => { c with state := after })
    let b := settleHold before after b
    supersedeAdvance after (offer (.conveyorState before after b.conveyor.speed) b)

/-- The tunnel queue becoming empty during a timed hold closes it (R146), before the state is derived afresh. -/
def settleEmpty (b : Block) : Block :=
  if b.conveyor.queue.isEmpty ∧ b.conveyor.state.timedHold then closeHold b else b

/-- Hold seconds at a second (R146). -/
def countHold (b : Block) : Block :=
  if b.conveyor.state.timedHold ∧ b.conveyor.queue.isEmpty = false then
    b.onConveyor fun c => { c with holdSeconds := satTo 65535 (c.holdSeconds + 1) }
  else b

/-- The hold timeout (R146): hold seconds have reached it and no page is recorded for the span. -/
def holdDue (b : Block) : Bool :=
  b.conveyor.state.timedHold && !b.conveyor.queue.isEmpty && b.conveyor.holdPage.isNone
    && decide (b.cfg.holdTimeout ≤ b.conveyor.holdSeconds)

def timeoutHold (b : Block) : Block :=
  if holdDue b then
    match b.conveyor.state.holdCode with
    | some code => raiseHold code b
    | none => b
  else b

/-- A manual advance's seconds left fall at each second (R144). -/
def countAdvance (b : Block) : Block :=
  b.onConveyor fun c => { c with advance := c.advance.map fun n => n - 1 }

/-- A manual advance whose seconds left are 0 ends with NO_MOVEMENT (R144). -/
def timeoutAdvance (b : Block) : Block :=
  if b.conveyor.advance = some 0 then endAdvance .noMovement b else b

/-- A RINSE channel's health changed: speed and state follow (R135, R136). -/
def rinseHealthChanged (role : Role) (b : Block) : Block :=
  if b.dishRuns ∧ role = .rinse then deriveConveyor (computeSpeed b) else b

/-- The Tracker's work of a second (R134, R136, R138, R144, R146). Hold seconds count for the state in which the
second finds the conveyor (log 14). -/
def conveyorSecond (b : Block) : Block :=
  if b.dishRuns then
    countAdvance (setDishWants (deriveConveyor (readRinse (countHold b))))
  else b

/-! ## Racks (R139 to R143) -/

/-- The jam ends when the head rack leaves (R139), also where the next rack already stands at L + 1 (DESIGN CHOICE, log 75). -/
def endJam (b : Block) : Block :=
  if b.conveyor.jammed then resolved .rackHold 4 (b.onConveyor fun c => { c with jammed := false }) else b

/-- One position forward; a rack at L + 1 stays; leaving FINAL unsanitized sets rewash (R139). -/
def Rack.advance (s : Settings) (r : Rack) : Rack :=
  { r with position := if r.position = s.tunnelLength + 1 then r.position else r.position + 1,
           rewash := r.rewash || (decide (r.position + 1 = s.b3) && !r.sanitized) }

/-- An encoder pulse (R139); it ends a manual advance with MOVED (R144), whose ADVANCE_DONE event comes before a
CONVEYOR_STATE event of the same pulse (DESIGN CHOICE, log 64). Only the pulse that brings the head rack to L + 1 latches
the jam: a rack that stands there when it becomes the head latches none (DESIGN CHOICE, log 75). -/
def pulse (b : Block) : Block :=
  let jams := b.conveyor.queue.head?.any fun r => decide (r.position = b.cfg.tunnelLength)
  let b := b.onConveyor fun c =>
    { c with queue := c.queue.map (Rack.advance b.cfg), jammed := c.jammed || jams }
  deriveConveyor (endAdvance .moved b)

/-- One tenth of a second for one rack while the rinse is hot (R140). -/
def Rack.dwellTenth (s : Settings) (r : Rack) : Rack :=
  if zoneOf s r.position = .final then
    let dwell := satTo 65535 (r.dwell + 1)
    { r with dwell := dwell, sanitized := r.sanitized || decide (10 * s.requiredDwell ≤ dwell) }
  else r

/-- A tenth (R140). -/
def tenth (b : Block) : Block :=
  if rinseHot b then
    deriveConveyor (b.onConveyor fun c => { c with queue := c.queue.map (Rack.dwellTenth b.cfg) })
  else b

/-- The rack a tracked entry appends (R141). -/
def newRack (load : LoadKind) (plates : Nat) (b : Block) : Rack :=
  { number := b.conveyor.nextRack, load, plates,
    crowded := b.conveyor.queue.any fun r => decide (r.position < b.cfg.rackPitch) }

/-- Append a rack at the tail (R141, R143): it takes the next rack number, the loaded tally grows, a RACK_ENTRY
event is placed. -/
def appendRack (load : LoadKind) (plates : Nat) (b : Block) : Block :=
  let r := newRack load plates b
  offer (.rackEntry (some r.number) r.load r.plates r.crowded)
    (b.onConveyor fun c =>
      { c with queue := c.queue ++ [r], nextRack := next8 c.nextRack,
               loaded := (c.loaded + plates) % Config.tallyModulus })

/-- The load the next tracked rack takes (R141). -/
def Conveyor.nextLoad (c : Conveyor) : LoadKind × Nat := c.pendingLoad.getD (.plates, 0)

/-- The entry sensor (R141). -/
def rackEnters (b : Block) : Block :=
  let load := b.conveyor.nextLoad
  let taken := b.onConveyor fun c => { c with pendingLoad := none }
  if b.conveyor.untracked = 0 ∧ b.conveyor.queue.length < Config.tunnelPlaces then
    deriveConveyor (appendRack load.1 load.2 taken)
  else
    deriveConveyor (offer (.rackEntry none load.1 load.2 false)
      (taken.onConveyor fun c => { c with untracked := satTo 255 (c.untracked + 1) }))

/-- Clean: sanitized and not crowded (R142). -/
def Rack.outcome (r : Rack) : RackOutcome := if r.sanitized ∧ r.crowded = false then .clean else .rewash

/-- The exit sensor (R142). -/
def rackLeaves (b : Block) : Block :=
  match b.conveyor.queue with
  | [] => count .phantomExits b
  | r :: rest =>
    if b.cfg.tunnelLength ≤ r.position + 1 then
      let b1 := b.onConveyor fun c =>
        match r.outcome with
        | .clean => { c with queue := rest, clean := (c.clean + r.plates) % Config.tallyModulus }
        | .rewash => { c with queue := rest, rewash := (c.rewash + r.plates) % Config.tallyModulus }
      deriveConveyor (endJam (settleEmpty (offer (.rackExit r.number r.plates r.outcome) b1)))
    else count .phantomExits b

/-- One untracked rack fewer; at 0 the entry fault's page is reported resolved (R143). -/
def dropUntracked (b : Block) : Block :=
  let b := b.onConveyor fun c => { c with untracked := c.untracked - 1 }
  if b.conveyor.untracked = 0 then resolved .rackHold 5 b else b

/-- The head rack is removed by the operator (R143). -/
def removeHead (r : Rack) (rest : List Rack) (b : Block) : Block :=
  let b := endJam (b.onConveyor fun c =>
    { c with queue := rest, removed := (c.removed + r.plates) % Config.tallyModulus })
  let b := if 0 < b.conveyor.untracked then dropUntracked (appendRack .plates 0 b) else b
  deriveConveyor (settleEmpty b)

/-- The plates in the tunnel (R147). -/
def Conveyor.inTunnel (c : Conveyor) : Nat := (c.queue.map Rack.plates).sum

/-- The motor output (R137, R144): positions per minute, 0 for off. -/
def Block.motor (b : Block) : Nat :=
  if b.dishRuns then
    if b.conveyor.advance.isSome then b.cfg.vMin
    else if b.conveyor.state.moves then b.conveyor.speed
    else 0
  else 0

end Sys2Proof.Machine
end

