-- ==== Sys2Proof/Machine/Load.lean ====
section
/-! DEFINITION. The division procedure (R6 to R8), and the Load Share Unit's part of a round (R4, R5, R10 to R16). -/

namespace Sys2Proof.Machine

/-! ## The division procedure -/

/-- A claimant (R6): its number, floor, want and class. -/
structure Claimant where
  number : Nat
  floor : Nat
  want : Nat
  cls : Nat
  deriving DecidableEq, Repr

/-- The extra of a claimant (R7). -/
def Claimant.extra (x : Claimant) : Nat := x.want - x.floor

/-- The sum of the floors (R6). -/
def sumFloors (cs : List Claimant) : Nat := (cs.map Claimant.floor).sum

/-- The sum of the extras of the claimants of a class (R7). -/
def classExtra (cs : List Claimant) (c : Nat) : Nat := ((cs.filter fun x => x.cls = c).map Claimant.extra).sum

/-- The proportional parts of a class whose extras exceed `R` (R7). -/
def classParts (cs : List Claimant) (c R : Nat) : Nat :=
  ((cs.filter fun x => x.cls = c).map fun x => x.extra * R / classExtra cs c).sum

/-- How many claimants of the class with an extra come before `x` in ascending number (R7). -/
def rankIn (cs : List Claimant) (x : Claimant) : Nat :=
  (cs.filter fun y => decide (y.cls = x.cls) && decide (0 < y.extra) && decide (y.number < x.number)).length

/-- The part of `x` in its own class when the class is cut: its proportional part, and 1 LU of the leftover while
it lasts, in ascending number (R7; by R8 one pass places all of it). -/
def cutPart (cs : List Claimant) (R : Nat) (x : Claimant) : Nat :=
  x.extra * R / classExtra cs x.cls
    + if 0 < x.extra ∧ rankIn cs x < R - classParts cs x.cls R then 1 else 0

/-- The extra a claimant receives, taking the classes in the order given with the remainder `R` (R7). -/
def extraShare (cs : List Claimant) (x : Claimant) : List Nat → Nat → Nat
  | [], _ => 0
  | c :: rest, R =>
    if x.cls = c then (if classExtra cs c ≤ R then x.extra else cutPart cs R x)
    else extraShare cs x rest (if classExtra cs c ≤ R then R - classExtra cs c else 0)

/-- The floors exceed the amount (R6). -/
def overcommits (M : Nat) (cs : List Claimant) : Bool := decide (M < sumFloors cs)

/-- The share of one claimant in the division of `M` (R6, R7). -/
def shareOf (M : Nat) (cs : List Claimant) (x : Claimant) : Nat :=
  if overcommits M cs then x.floor * M / sumFloors cs
  else x.floor + extraShare cs x [3, 2, 1, 0] (M - sumFloors cs)

/-! ## Own inputs (R4, R5) -/

/-- Healthy (R66). -/
def Channel.healthy (c : Channel) : Bool := decide (c.health = .ok) || decide (c.health = .unverified)

/-- A channel's want as the Load Share Unit reads it: 0 when OPEN, TRIPPED or not fitted (R4, R36). -/
def Channel.presented (c : Channel) : Nat := if c.fitted && c.healthy then c.want.amount else 0

/-- The sum of the presented amounts of a kind. -/
def presentedOf (kind : WantKind) (chs : List Channel) : Nat :=
  ((chs.filter fun c => c.want.kind = kind).map Channel.presented).sum

/-- The highest class among extra wants above 0 (R5). -/
def highestClass (chs : List Channel) : Nat :=
  ((chs.filter fun c => decide (c.want.kind = .extra) && decide (0 < c.presented)).map fun c => c.want.cls).foldl max 0

/-- The page table holds a PLATES_SHORT entry (R5). -/
def platesShortHeld (b : Block) : Bool :=
  b.pages.table.any fun e => e.any fun p => p.cause.kind = .platesShort

/-- The unit forms its own floor, want and class (R5). -/
def formInputs (b : Block) : Block :=
  let chs := b.drive.channels
  let floor := presentedOf .floor chs
  let cls := highestClass chs
  b.onShare fun s =>
    { s with
      floorSelf := floor,
      wantSelf := min (floor + presentedOf .extra chs) b.cfg.ratedLoad,
      classSelf := if b.cfg.kind = .dish ∧ platesShortHeld b then max cls 2 else cls }

/-! ## Stages 0 to 3 (R10 to R16) -/

/-- The larger of an entry's applied grant and draw (R10, R15). -/
def Peer.held (p : Peer) : Nat := max p.applied p.draw

/-- The budget (R10). -/
def budgetOf (s : Settings) : Nat := s.feeder - ceilDiv (s.feeder * s.guardPercent) 100

/-- The fixed load (R10, R30). -/
def fixedLoad (b : Block) : Nat := ((b.peers.filter fun p => !counted b.station.signature p).map Peer.held).sum

/-- A counted entry as a claimant; a want below its floor is taken as the floor (R11). -/
def peerClaimant (p : Peer) : Claimant := { number := p.id, floor := p.floor, want := max p.want p.floor, cls := p.cls }

/-- The station itself as a claimant (R11). -/
def selfClaimant (b : Block) : Claimant :=
  { number := b.id, floor := b.share.floorSelf, want := b.share.wantSelf, cls := b.share.classSelf }

/-- The claimants of the round (R11). -/
def roundClaimants (b : Block) : List Claimant :=
  selfClaimant b :: (b.peers.filter (counted b.station.signature)).map peerClaimant

/-- Stages 0, 1 and 2 (R10 to R12). -/
def divideFeeder (b : Block) : Block :=
  let budget := budgetOf b.cfg
  let available := budget - fixedLoad b
  let cs := roundClaimants b
  b.onShare fun s =>
    { s with budget := budget, available := available, share := shareOf available cs (selfClaimant b),
             overcommitted := overcommits available cs }

/-- The target of stage 3 (R13). -/
def target (b : Block) : Nat :=
  if b.station.state = .active then min b.share.share b.cfg.ratedLoad
  else min b.share.wantSelf b.cfg.safeAllowance

/-- The headroom (R15), which can fall below 0. -/
def headroom (b : Block) : Int :=
  (b.share.budget : Int) - b.share.applied - ((b.peers.map Peer.held).sum : Nat)

/-- The rising count (R15). -/
def risingCount (b : Block) : Nat :=
  1 + (b.peers.filter fun p => counted b.station.signature p && p.rising).length

/-- The increase of the grant when the target is above it (R15). -/
def increase (b : Block) : Nat :=
  min (target b - b.share.applied) (min b.cfg.ramp ((headroom b).toNat / risingCount b))

/-- The applied grant after stage 3 (R14, R15). -/
def newGrant (b : Block) : Nat :=
  if target b ≤ b.share.applied then target b else b.share.applied + increase b

/-- Stage 3 with its counters (R13 to R16). -/
def applyGrant (b : Block) : Block :=
  let held := decide (b.share.applied < target b) && decide (increase b = 0)
  let grant := newGrant b
  let b' := b.onShare fun s => { s with applied := grant, rising := decide (grant < target b) }
  let b' := if grant < b.share.wantSelf then count .roundsCurtailed b' else b'
  if held then count .roundsHeld b' else b'

/-- The overcommit bookkeeping of a round (R20, R21, R22). -/
def bookOvercommit (b : Block) : Block :=
  if b.station.state ≠ .active then b
  else if b.share.overcommitted then
    raise .overcommit 0 (count .roundsOvercommitted (b.onShare fun s => { s with cleanRun := 0 }))
  else if b.share.cleanRun < Config.cleanRounds then
    let b' := b.onShare fun s => { s with cleanRun := s.cleanRun + 1 }
    if b'.share.cleanRun = Config.cleanRounds then resolved .overcommit 0 b' else b'
  else b

end Sys2Proof.Machine
end

