-- ==== Sys2Proof/Machine/Drive.lean ====
section
/-! DEFINITION. The Drive and Sense Unit (chapter 4): temperature inputs, burst windows, drive ticks, current
checks, element faults. -/

namespace Sys2Proof.Machine

/-! ## Temperature inputs (R82) -/

/-- How an input seen is judged: its record after the reading (R82). -/
def judgeInput (t : TempInput) : SensorInput → TempInput
  | .openCircuit => { t with status := .opened }
  | .shortCircuit => { t with status := .shorted }
  | .tenths x => if 0 ≤ x ∧ x ≤ 3000 then { reading := x.toNat, status := .ok } else { t with status := .range }

/-- Read input `i`; a change of status places a SENSOR_STATUS event (R82). -/
def readInput (i : Nat) (seen : SensorInput) (b : Block) : Block :=
  let before := inputAt i b
  let after := judgeInput before seen
  let b := b.onDrive fun d => { d with inputs := d.inputs.set i after }
  if after.status = before.status then b else offer (.sensorStatus i after.status) b

/-- Read inputs from number `i` on, ascending (DESIGN CHOICE, log 58: R82 orders their SENSOR_STATUS events in no way). -/
def readInputs : Nat → List SensorInput → Block → Block
  | _, [], b => b
  | i, x :: rest, b => readInputs (i + 1) rest (readInput i x b)

/-! ## The window (R68 to R71, R74, R78, R79) -/

def channelAt (k : Nat) (b : Block) : Channel := b.drive.channels.getD k {}

def setChannel (k : Nat) (c : Channel) (b : Block) : Block :=
  b.onDrive fun d => { d with channels := d.channels.set k c }

/-- Apply a function of the channel number to every channel. -/
def numberChannels (f : Nat → Channel → Channel) : Nat → List Channel → List Channel
  | _, [] => []
  | k, c :: rest => f k c :: numberChannels f (k + 1) rest

/-- The draw of the window just ended (R79). -/
def drawOf (chs : List Channel) : Nat := ((chs.map fun c => c.lastLoad * c.onTicks).sum) / 200

/-- The starved count of a channel after the window just ended (R78). -/
def Channel.starvedAfter (c : Channel) : Nat :=
  if c.checked then 0
  else if 0 < c.onTicks ∧ c.planned = none then min 30 (c.starved + 1)
  else c.starved

/-- Settle channel `k` (R78): at 30 an OK channel becomes UNVERIFIED, with its event. -/
def settleStarved (k : Nat) (b : Block) : Block :=
  let c := channelAt k b
  if c.fitted then
    let n := c.starvedAfter
    if c.starved ≠ n ∧ n = 30 ∧ c.health = .ok then
      offer (.channelHealth k .unverified none) (setChannel k { c with starved := n, health := .unverified } b)
    else setChannel k { c with starved := n } b
  else b

/-- A channel as a claimant in the division of the grant (R69). -/
def channelClaimant (k : Nat) (c : Channel) : Claimant :=
  let amount := min c.want.amount c.rated
  match c.want.kind with
  | .floor => { number := k, floor := amount, want := amount, cls := 0 }
  | .extra => { number := k, floor := 0, want := amount, cls := c.want.cls }

/-- The fitted healthy channels as claimants (R69). -/
def channelClaimants : Nat → List Channel → List Claimant
  | _, [] => []
  | k, c :: rest =>
    if c.fitted && c.healthy then channelClaimant k c :: channelClaimants (k + 1) rest
    else channelClaimants (k + 1) rest

/-- The allotment of channel `k` in the division of `grant` (R69). -/
def allotmentOf (grant : Nat) (chs : List Channel) (k : Nat) (c : Channel) : Nat :=
  if c.fitted && c.healthy then shareOf grant (channelClaimants 0 chs) (channelClaimant k c) else 0

/-- On-ticks and residue from the allotment (R70). -/
def Channel.layOut (c : Channel) (allotment : Nat) : Channel :=
  let q := 200 * allotment + c.residue
  if allotment = 0 then { c with allotment := 0, onTicks := 0, residue := 0 }
  else { c with allotment := allotment, onTicks := q / c.rated, residue := q % c.rated }

/-- The first tick of channel `k`'s on-period (R71). -/
def phaseOf (k : Nat) : Nat := (25 * k) % 200

/-- Channel `k` with `n` on-ticks is on at tick `t` (R71). -/
def onAt (k n t : Nat) : Bool :=
  (decide (phaseOf k ≤ t) && decide (t < phaseOf k + n)) || decide (t + 200 < phaseOf k + n)

/-- The sample tick of the check planned for a window, if one is (R74): `c.output` tells whether the channel was on
at tick 199 of the window just ended. -/
def planCheck (blanking k : Nat) (c : Channel) : Option Nat :=
  if c.fitted && c.healthy && decide (blanking + 2 ≤ c.onTicks) then
    if phaseOf k + blanking ≤ 199 then some (phaseOf k + blanking)
    else if c.output then some (phaseOf k + blanking - 200)
    else none
  else none

/-- Steps 3 to 5 of a window start for one channel (R68). -/
def Channel.startWindow (blanking grant : Nat) (chs : List Channel) (k : Nat) (c : Channel) : Channel :=
  let laid := c.layOut (allotmentOf grant chs k c)
  { laid with drivenTicks := 0, checked := false, planned := planCheck blanking k laid, cut := false,
              faultedNow := false }

/-- Step 1 of a window start (R68), the channels settled in ascending number (DESIGN CHOICE, log 58: R78 orders their
CHANNEL_HEALTH events in no way). -/
def completeWindow (b : Block) : Block :=
  (List.range Config.channels).foldl (fun acc k => settleStarved k acc)
    (b.onDrive fun d => { d with draw := drawOf d.channels })

/-- Steps 2 to 5 of a window start (R68), and the speed that follows the division in a DISH station (R135). -/
def openWindow (b : Block) : Block :=
  let grant := b.share.applied
  let b := b.onDrive fun d =>
    { d with channels := numberChannels (Channel.startWindow b.cfg.blanking grant d.channels) 0 d.channels,
             ticksDriven := 0 }
  if b.dishRuns then deriveConveyor (computeSpeed b) else b

/-- A window start within the four working states comes at the end of tick 199 (R67, R68). -/
def windowStart (b : Block) : Block :=
  if b.runs ∧ b.drive.ticksDriven = Config.windowTicks then openWindow (completeWindow b) else b

/-! ## Drive ticks (R71, R73) -/

/-- The line voltage held from a sample: whole volts, halves up, 0 to 300 (R73). -/
def voltsOf (milliVolts : Nat) : Nat := min 300 ((milliVolts + 500) / 1000)

/-- Sample the line voltage; a change of low line places LINE_STATUS, and going low zeroes the low count of every
channel (R73), an OPEN or TRIPPED one's too, whose counts R80 lets stand (DESIGN CHOICE, log 57). -/
def sampleLine (milliVolts : Nat) (b : Block) : Block :=
  let volts := voltsOf milliVolts
  let low := decide (volts < b.cfg.lowLine)
  let was := b.drive.lowLine
  let b := b.onDrive fun d =>
    { d with lineVoltage := volts, lowLine := low,
             channels := if low && !was then d.channels.map (fun c => { c with lowCount := 0 }) else d.channels }
  if low = was then b else offer (.lineStatus volts) b

/-- Switch channel `k` for tick `t` and count it if on (R71, R77). -/
def Channel.drive (t k : Nat) (c : Channel) : Channel :=
  let on := onAt k c.onTicks t && !c.cut
  { c with output := on, drivenTicks := if on then c.drivenTicks + 1 else c.drivenTicks }

/-! ## Current checks (R75 to R77, R80) -/

/-- The load of a sample (R75): volts × amperes / 100, halves up, at most 255. -/
def loadOf (volts milliAmps : Nat) : Nat := min 255 ((volts * milliAmps + 50000) / 100000)

/-- The subject of a channel's ELEMENT_FAULT page (R80). -/
def faultSubject (id k : Nat) : Nat := id * 8 + k

/-- A channel became OPEN or TRIPPED (R80). -/
def elementFault (k : Nat) (health : Health) (reading : Nat) (b : Block) : Block :=
  rinseHealthChanged (channelAt k b).role
    (offer (.channelHealth k health (some reading)) (raise .elementFault (faultSubject b.id k) b))

/-- A low reading: less than a quarter of the rating (R76). -/
def readsLow (m rated : Nat) : Bool := decide (4 * m < rated)

/-- A high reading: more than one and a half times the rating (R77). -/
def readsHigh (m rated : Nat) : Bool := decide (3 * rated < 2 * m)

/-- Complete the check of channel `k` with a sampled current (R75, R76, R77). -/
def completeCheck (k milliAmps : Nat) (b : Block) : Block :=
  let c := channelAt k b
  let m := loadOf b.drive.lineVoltage milliAmps
  let c := { c with lastLoad := m, checked := true, starved := 0 }
  if readsHigh m c.rated then
    elementFault k .tripped m
      (setChannel k { c with health := .tripped, onTicks := c.drivenTicks, cut := true, output := false, lowCount := 0,
                             faultedNow := true } b)
  else
    let low := if readsLow m c.rated then (if b.drive.lowLine then c.lowCount else c.lowCount + 1) else 0
    if low = 3 then
      elementFault k .opened m (setChannel k { c with health := .opened, lowCount := 3, faultedNow := true } b)
    else if c.health = .unverified then
      offer (.channelHealth k .ok (some m)) (setChannel k { c with health := .ok, lowCount := low } b)
    else setChannel k { c with lowCount := low } b

/-- The check of channel `k`, when this is its sample tick (R74). -/
def checkChannel (t : Nat) (milliAmps : List Nat) (k : Nat) (b : Block) : Block :=
  let c := channelAt k b
  if c.planned = some t ∧ c.healthy then completeCheck k (milliAmps.getD k 0) b else b

/-- One drive tick (R71, R73, R74), while the window still has one. -/
def tick (milliVolts : Nat) (milliAmps : List Nat) (b : Block) : Block :=
  if b.runs ∧ b.drive.ticksDriven < Config.windowTicks then
    let t := b.drive.ticksDriven
    let b := sampleLine milliVolts b
    let b := b.onDrive fun d =>
      { d with channels := numberChannels (Channel.drive t) 0 d.channels, ticksDriven := t + 1 }
    (List.range Config.channels).foldl (fun acc k => checkChannel t milliAmps k acc) b
  else b

/-- The tick of the current window (R84): the one being driven, 0 before the first. -/
def Drive.currentTick (d : Drive) : Nat := d.ticksDriven - 1

/-- The channel records as the settings image sets them at INIT (R66, R36). The sensor index of a channel not fitted is
0 whatever its byte in the block (DESIGN CHOICE, log 44). -/
def configuredChannel (c : ChannelSetting) : Channel :=
  match c.role with
  | some role => { fitted := true, rated := c.rated, role := role, sensor := c.sensor, lastLoad := c.rated }
  | none => {}

end Sys2Proof.Machine
end

