-- ==== Sys2Proof/Machine/Courses.lean ====
section
/-! DEFINITION. The Course Coordinator (chapter 7): the station course state, late due, all-ready, course changes,
versions adopted from the line, and pruning at a round. -/

namespace Sys2Proof.Machine

/-! ## The course table (R90) -/

def courseAt (i : Nat) (b : Block) : Option Course := b.plan.courses.getD i none

def setCourse (i : Nat) (c : Option Course) (b : Block) : Block :=
  b.onPlan fun p => { p with courses := p.courses.set i c }

/-- Index of the course entry with a tag. -/
def courseIndex (tag : Nat) (b : Block) : Option Nat :=
  b.plan.courses.findIdx? fun e => e.any fun c => c.tag = tag

/-- Index and record of the course with a tag. -/
def locateCourse (tag : Nat) (b : Block) : Option (Nat × Course) :=
  (courseIndex tag b).bind fun i => (courseAt i b).map fun c => (i, c)

/-- The indices of the course table, ascending. -/
def courseIndices : List Nat := List.range Config.courseEntries

/-! ## State, late due, all-ready (R120, R128, R129, R130) -/

/-- The states of the tasks of course entry `i` that are not CANCELLED (R120). -/
def courseTasks (i : Nat) (b : Block) : List Task :=
  (b.plan.tasks.filterMap id).filter fun t => decide (t.course = i) && decide (t.state ≠ .cancelled)

/-- R120's table. -/
def courseStateOf (c : Course) (tasks : List Task) (now : Nat) : CourseState :=
  if c.passed then .passed
  else if tasks.isEmpty then .empty
  else if tasks.any fun t => t.state = .faulted then .fault
  else if tasks.all fun t => decide (t.state = .ready) || decide (t.state = .passed) then .ready
  else if c.passTime ≤ now then .late
  else .pending

/-- R129's condition. -/
def lateDueOf (c : Course) (state : CourseState) (now : Nat) : Bool :=
  decide (state = .late) || (decide (state = .fault) && decide (c.passTime ≤ now))

/-- Store a derived state that differs from the one held, with its event; READY, PASSED and EMPTY report
COURSE_LATE resolved (R120, R130). -/
def storeCourseState (i : Nat) (new : CourseState) (b : Block) : Block :=
  match courseAt i b with
  | some c =>
    if new = c.state then b
    else
      let b := offer (.courseState c.tag c.state new c.version) (setCourse i (some { c with state := new }) b)
      if new = .ready ∨ new = .passed ∨ new = .empty then resolved .courseLate c.tag b else b
  | none => b

/-- Store late due; its passing from no to yes raises COURSE_LATE, and its second is remembered (R129). -/
def storeLateDue (i : Nat) (due : Bool) (b : Block) : Block :=
  match courseAt i b with
  | some c =>
    if due ∧ c.lateDue = false then
      raise .courseLate c.tag (setCourse i (some { c with lateDue := due, lateSince := b.now }) b)
    else setCourse i (some { c with lateDue := due }) b
  | none => b

/-- Derive the state of course entry `i` and its late due (R120, R129). -/
def deriveCourse (i : Nat) (b : Block) : Block :=
  match courseAt i b with
  | some c =>
    let state := courseStateOf c (courseTasks i b) b.now
    storeLateDue i (lateDueOf c state b.now) (storeCourseState i state b)
  | none => b

/-- R128's condition. -/
def allReadyOf (c : Course) (b : Block) : Bool :=
  (decide (c.state = .ready) || decide (c.state = .passed))
    && (members c.participants).all fun i => hasId c.readySet i && (findPeer i b).any Peer.fresh

/-- Evaluate all-ready of course entry `i`; its passing from no to yes raises COURSE_READY (R128). -/
def evalReady (i : Nat) (b : Block) : Block :=
  match courseAt i b with
  | some c =>
    let ready := allReadyOf c b
    let b' := setCourse i (some { c with allReady := ready }) b
    if ready ∧ c.allReady = false then raise .courseReady c.tag b' else b'
  | none => b

/-- Evaluate all-ready of every course (R123, R125, R128), in ascending entry index (DESIGN CHOICE, log 61: no rule orders
the COURSE_READY raises of one event). -/
def evalAllReady (b : Block) : Block := courseIndices.foldl (fun acc i => evalReady i acc) b

/-- A course change (R121). -/
def courseChange (i : Nat) (b : Block) : Block := markCourse (evalReady i (deriveCourse i b))

/-- The cause is held in the page table or waits in the retry queue (R129). -/
def causeHeld (c : Cause) (b : Block) : Bool := (pageIndex c b).isSome || isWaiting c b

/-- Late due stays yes at a second later than the one at which it became so (R129). -/
def Course.stillLate (c : Course) (now : Nat) : Bool := c.lateDue && decide (c.lateSince ≠ now)

/-- The Coordinator's second for one course (R120, R128, R129). -/
def courseSecond (i : Nat) (b : Block) : Block :=
  match courseAt i b with
  | some c =>
    let b := deriveCourse i b
    let still := (courseAt i b).any fun d => d.stillLate b.now
    let b :=
      if still ∧ causeHeld { kind := .courseLate, subject := c.tag } b = false then raise .courseLate c.tag b else b
    evalReady i b
  | none => b

def coursesSecond (b : Block) : Block := courseIndices.foldl (fun acc i => courseSecond i acc) b

/-! ## Versions from the line (R124, R127) -/

/-- Adopt a newer version for course entry `i`: version, pass time, hold; a course change, whose all-ready the frame's
end evaluates (R123); then the COURSE_SHIFT event (R124). R124 orders the event against those of the course change in
no words; the model keeps the order in which the rule names them (DESIGN CHOICE, log 53). -/
def adoptVersion (i version offset : Nat) (hold : Bool) (b : Block) : Block :=
  match courseAt i b with
  | some c =>
    if newer version c.version then
      let c' := { c with version := version, passTime := b.now + offset, hold := hold, adopted := true }
      offer (.courseShift c.tag c.version version (b.now + offset) hold)
        (markCourse (deriveCourse i (setCourse i (some c') b)))
    else b
  | none => b

/-- Take one entry of station `s`'s COURSE frame (R123). -/
def takeCourseItem (s : Nat) (b : Block) (x : CourseItem) : Block :=
  match locateCourse x.tag b with
  | some (i, c) =>
    let c' :=
      match x.state with
      | .empty => { c with participants := dropId s c.participants, readySet := dropId s c.readySet }
      | .ready | .passed => { c with participants := addId s c.participants, readySet := addId s c.readySet }
      | .pending | .late | .fault => { c with participants := addId s c.participants, readySet := dropId s c.readySet }
    adoptVersion i x.version x.offset x.hold (setCourse i (some c') b)
  | none => b

/-- Station `s` leaves the sets of a course (R123, R125, R28). -/
def Course.leave (s : Nat) (c : Course) : Course :=
  { c with participants := dropId s c.participants, readySet := dropId s c.readySet }

/-- Change every course entry in use. -/
def mapCourses (f : Course → Course) (b : Block) : Block :=
  b.onPlan fun p => { p with courses := p.courses.map fun e => e.map f }

/-- A COURSE frame of station `s` (R123). -/
def heardCourse (s : Nat) (items : List CourseItem) (b : Block) : Block :=
  let b := b.onCoord fun c => { c with heard := addId s c.heard }
  let b := items.foldl (takeCourseItem s) b
  evalAllReady (mapCourses (fun c => if items.any fun x => x.tag = c.tag then c else c.leave s) b)

/-- A SHIFT frame (R127). -/
def heardShift (x : ShiftBody) (b : Block) : Block :=
  match courseIndex x.tag b with
  | some i => evalReady i (adoptVersion i x.version x.offset x.hold b)
  | none => b

/-! ## Rounds (R28, R122, R125) -/

/-- A lost id leaves every course (R28). -/
def dropFromCourses (lost : Nat) (b : Block) : Block := mapCourses (Course.leave lost) b

/-- The ids of a set that have a Peer Table entry or are in the heard set (R125). -/
def present (b : Block) : IdSet :=
  b.peers.foldl (fun acc p => addId p.id acc) b.coord.heard

/-- Pruning at a round (R125). -/
def pruneParticipants (b : Block) : Block :=
  let keep := present b
  let b := mapCourses (fun c => { c with participants := c.participants &&& keep, readySet := c.readySet &&& keep }) b
  evalAllReady (b.onCoord fun c => { c with heard := 0 })

/-- The round parity; at 0 the COURSE slot is marked (R122). -/
def toggleParity (b : Block) : Block :=
  let b := b.onCoord fun c => { c with parity := !c.parity }
  if b.coord.parity then b else markCourse b

/-! ## Host commands of the Coordinator -/

/-- What an offset to a pass time is now (R47, R56, R122). -/
def passOffset (passTime now : Nat) : Nat := min 65535 (passTime - now)

/-- SHIFT COURSE accepted for entry `i` (R126). -/
def shiftCourse (i : Nat) (c : Course) (offset : Nat) (hold : Bool) (b : Block) : Block :=
  let version := next8 c.version
  let pass := b.now + offset
  let b := setCourse i (some { c with version := version, passTime := pass, hold := hold, adopted := false }) b
  courseChange i (queueShift { tag := c.tag, version := version, passTime := pass, hold, attempts := 0 } b)

end Sys2Proof.Machine
end

