-- ==== Sys2Proof/Machine/Plan.lean ====
section
/-! DEFINITION. The Plan Store (chapter 5): channel ownership, in-use counts, profile resolution, the checks of
R86, and what each of its commands does when it is taken. -/

namespace Sys2Proof.Machine

/-- What the owner of a command answers (R169 gate 4): a refusal, which changes nothing, or the part after the
command with the data of the ACCEPTED answer. -/
abbrev Answer := Except Reason (Block × List Byte)

/-- Checks in order, each with its reason: the first that fails refuses (R86). -/
def checked (fails : List (Bool × Reason)) (accept : Answer) : Answer :=
  match fails.find? fun f => f.1 with
  | some f => .error f.2
  | none => accept

/-! ## Tasks, channels, in-use counts (R89, R93) -/

def taskAt (t : Nat) (b : Block) : Option Task := b.plan.tasks.getD t none

def setTask (t : Nat) (k : Option Task) (b : Block) : Block :=
  b.onPlan fun p => { p with tasks := p.tasks.set t k }

/-- Run states (R89). -/
def TaskState.runs : TaskState → Bool
  | .heating | .holding | .finishing | .ready => true
  | .waiting | .passed | .faulted | .cancelled => false

/-- Live (R93): neither PASSED nor CANCELLED. -/
def TaskState.live : TaskState → Bool
  | .passed | .cancelled => false
  | _ => true

/-- The channels a task holds (R93): its mask and its pending edit's, while it is live. -/
def Task.holds (t : Task) : Mask8 :=
  if t.state.live then t.mask ||| (t.edit.elim 0 fun e => e.mask) else 0

/-- The channel map (R93): the task that holds channel `k`. -/
def holder (k : Nat) (b : Block) : Option Nat :=
  b.plan.tasks.findIdx? fun e => e.any fun t => t.holds.getLsbD k

/-- The in-use count of a profile entry (R89). -/
def inUse (r : Nat) (b : Block) : Nat :=
  ((b.plan.tasks.filterMap id).filter fun t => t.state.runs && decide (t.resolved = some r)).length

def profileAt (i : Nat) (b : Block) : Profile := b.plan.profiles.getD i .free

/-- Resolution of a profile index (R89). -/
def resolveProfile (i : Nat) (b : Block) : Option Nat :=
  match profileAt i b with
  | .direct _ => some i
  | .aliasTo j =>
    match profileAt j b with
    | .direct _ => some j
    | _ => none
  | .free => none

/-- The content a resolved task runs on (R89). -/
def contentOf (resolved : Option Nat) (b : Block) : Option Direct :=
  match resolved with
  | some r =>
    match profileAt r b with
    | .direct d => some d
    | _ => none
  | none => none

/-- The channels of a mask present want 0 (R93, R97), held as the record of kind floor and class 0 (DESIGN CHOICE, log 69: R4
and R113 name no kind and class for it). -/
def releaseWants (mask : Mask8) (b : Block) : Block :=
  (members mask).foldl (fun acc k =>
    acc.onDrive fun d => { d with channels := d.channels.set k { d.channels.getD k {} with want := {} } }) b

/-- The TASK_STATE event of task `t` that stood in `before` (R104). -/
def taskEvent (t : Nat) (before : TaskState) (b : Block) : Block :=
  match taskAt t b with
  | some k => offer (.taskState t ((courseAt k.course b).elim 0 fun c => c.tag) before k.state k.fault k.stageIndex) b
  | none => b

/-! ## The plate condition (R99) -/

def plateCondition (course : Nat) (b : Block) : Bool :=
  ((b.plan.tasks.filterMap id).filter fun t => decide (t.course = course) && t.state.live).all fun t =>
    decide (t.platesRequired ≤ t.platesLoaded)

/-- Test the plate condition of a course: holding in a WARMER station, it reports PLATES_SHORT resolved (R99). -/
def testPlates (course : Nat) (b : Block) : Block :=
  match courseAt course b with
  | some c => if b.cfg.kind = .warmer ∧ plateCondition course b then resolved .platesShort c.tag b else b
  | none => b

/-! ## Profiles (R87, R88) -/

/-- A stage of a record, when its fields are in range (R87); a HOLD's third field is given as 0 (R182). -/
def stageOf (f : StageFields) : Option Stage :=
  if f.setpoint.toNat ≤ 3000 then
    match StageKind.ofCode f.kind.toNat with
    | some .ramp => if within 1 f.arg.toNat 600 then some { kind := .ramp, setpoint := f.setpoint.toNat, arg := f.arg.toNat } else none
    | some .soak => if within 1 f.arg.toNat 7200 then some { kind := .soak, setpoint := f.setpoint.toNat, arg := f.arg.toNat } else none
    | some .hold => if f.arg = 0 then some { kind := .hold, setpoint := f.setpoint.toNat, arg := 0 } else none
    | none => none
  else none

/-- A DIRECT content, when it has the shape of a profile (R87). -/
def directOf (stages : List StageFields) (ready band : Word16) : Option Direct :=
  match allOf (stages.map stageOf) with
  | some ss =>
    if within 1 ss.length 6 && decide ((ss.filter fun s => s.kind = .hold).length ≤ 1) && decide (ready.toNat ≤ 3000)
        && within 10 band.toNat 200 then
      some { stages := ss, ready := ready.toNat, band := band.toNat }
    else none
  | none => none

/-- The entry a POST PROFILE gives, when its content is in range (R88). -/
def profileOf : ProfileFields → Option Profile
  | .direct stages ready band => (directOf stages ready band).map .direct
  | .aliasTo target => if target.toNat ≤ 31 then some (.aliasTo target.toNat) else none

/-- A task of a locked course names the index, as its profile index or its resolved profile (R91). The target of an alias that
such a task names is protected once the task has resolved to it, and not while it is WAITING (DEDUCED, log 77). -/
def profileLocked (i : Nat) (b : Block) : Bool :=
  b.plan.tasks.any fun e => e.any fun t =>
    (decide (t.profile = i) || decide (t.resolved = some i)) && (courseAt t.course b).any fun c => c.lock

/-- A DIRECT entry with an in-use count above 0 (R88). -/
def profileInUse (i : Nat) (b : Block) : Bool :=
  match profileAt i b with
  | .direct _ => decide (0 < inUse i b)
  | _ => false

def setProfile (i : Nat) (p : Profile) (b : Block) : Block :=
  b.onPlan fun x => { x with profiles := x.profiles.set i p }

def ownPostProfile (index : Byte) (content : ProfileFields) (b : Block) : Answer :=
  let i := index.toNat
  match profileOf content with
  | none => .error .badValue
  | some p =>
    checked [(decide (31 < i), .badValue), (profileLocked i b, .locked), (profileInUse i b, .inUse)]
      (.ok (setProfile i p b, [index]))

def ownDeleteProfile (index : Byte) (b : Block) : Answer :=
  let i := index.toNat
  checked [(decide (31 < i), .badValue), (decide (profileAt i b = .free), .badRef), (profileLocked i b, .locked),
      (profileInUse i b, .inUse)]
    (.ok (setProfile i .free b, [index]))

/-! ## Courses (R90, R91, R92, R98) -/

def freeCourse (b : Block) : Option Nat := b.plan.courses.findIdx? fun e => e.isNone

def ownPostCourse (tag version : Byte) (offset : Word16) (lead : Option Word16) (b : Block) : Answer :=
  let margin := (lead.map BitVec.toNat).getD 60
  if 900 < margin ∨ (courseIndex tag.toNat b).isSome then .error .badValue
  else
    match freeCourse b with
    | none => .error .tableFull
    | some i =>
      let c : Course :=
        { tag := tag.toNat, version := version.toNat, passTime := b.now + offset.toNat, leadMargin := margin }
      .ok (courseChange i (setCourse i (some c) b), [byteOf i])

/-- LOCK COURSE and UNLOCK COURSE (R91). -/
def ownSetLock (tag : Byte) (lock : Bool) (b : Block) : Answer :=
  match locateCourse tag.toNat b with
  | none => .error .badRef
  | some (i, c) => .ok (setCourse i (some { c with lock := lock }) b, [])

def ownDeleteCourse (tag : Byte) (b : Block) : Answer :=
  match locateCourse tag.toNat b with
  | none => .error .badRef
  | some (i, c) =>
    if c.state = .empty ∨ c.state = .passed then
      let b := b.onPlan fun p =>
        { p with courses := p.courses.set i none,
                 tasks := p.tasks.map fun e => if e.any fun t => t.course = i then none else e }
      .ok (markCourse (resolved .courseLate c.tag (resolved .platesShort c.tag b)), [])
    else .error .wrongState

/-- MARK PASSED of one task: PASSED, its edit gone, its channels released, its event (R98, R104). Its urgency record, the
class among it, stands as it was left (R103; DEDUCED, log 36, against R112's class 0). -/
def passTask (course t : Nat) (b : Block) : Block :=
  match taskAt t b with
  | some k =>
    if k.course = course ∧ k.state.live then
      taskEvent t k.state
        (releaseWants k.holds (setTask t (some { k with state := .passed, edit := none }) b))
    else b
  | none => b

/-- The indices of the task table, ascending. -/
def taskIndices : List Nat := List.range Config.taskEntries

/-- MARK PASSED (R98); the tasks, and so their TASK_STATE events, are taken in ascending index (DESIGN CHOICE, log 61: no
rule orders them). -/
def ownMarkPassed (tag : Byte) (b : Block) : Answer :=
  match locateCourse tag.toNat b with
  | none => .error .badRef
  | some (i, c) =>
    if c.passed then .ok (b, [])
    else
      let b := setCourse i (some { c with passed := true }) b
      let b := taskIndices.foldl (fun acc t => passTask i t acc) b
      .ok (courseChange i (testPlates i b), [])

/-- SHIFT COURSE (R126): the answer carries the new version and pass time. -/
def ownShiftCourse (tag : Byte) (offset : Word16) (hold : Byte) (b : Block) : Answer :=
  match flagOfByte hold, locateCourse tag.toNat b with
  | none, _ => .error .badValue
  | some _, none => .error .badRef
  | some h, some (i, c) =>
    .ok (shiftCourse i c offset.toNat h b, byteOf (next8 c.version) :: bytes4 (b.now + offset.toNat))

/-! ## Tasks (R94, R95, R97, R99) -/

/-- A mask of fitted HEAT channels, not empty (R94). -/
def maskOk (mask : Mask8) (b : Block) : Bool :=
  decide (mask ≠ 0) && (members mask).all fun k =>
    (b.drive.channels.getD k {}).fitted && decide ((b.drive.channels.getD k {}).role = .heat)

/-- The field faults of R94. -/
def taskFieldsBad (profile : Byte) (mask : Mask8) (sensor : Byte) (plates : Word16) (b : Block) : Bool :=
  decide (31 < profile.toNat) || !maskOk mask b || decide (7 < sensor.toNat) || decide (999 < plates.toNat)

/-- A channel of the mask is held by a task other than `self` (R94, R95). -/
def maskBusy (mask : Mask8) (self : Option Nat) (b : Block) : Bool :=
  (members mask).any fun k => (holder k b).any fun t => decide (some t ≠ self)

/-- The entry a new task takes: the lowest free one, else the lowest CANCELLED one (R94). -/
def taskPlace (b : Block) : Option Nat :=
  (b.plan.tasks.findIdx? fun e => e.isNone).or
    (b.plan.tasks.findIdx? fun e => e.any fun t => t.state = .cancelled)

def ownPostTask (tag profile : Byte) (mask : Mask8) (sensor : Byte) (plates : Word16) (b : Block) : Answer :=
  let course := locateCourse tag.toNat b
  checked
    [(taskFieldsBad profile mask sensor plates b, .badValue),
     (decide (0 < plates.toNat) && decide (b.cfg.kind ≠ .warmer), .wrongKind),
     (course.isNone, .badRef),
     (course.any fun x => x.2.lock, .locked),
     (course.any fun x => x.2.passed, .wrongState),
     (maskBusy mask none b, .channelBusy)]
    (match course, taskPlace b with
     | some (i, _), some t =>
       let k : Task :=
         { course := i, profile := profile.toNat, mask, sensor := sensor.toNat, platesRequired := plates.toNat }
       .ok (courseChange i (setTask t (some k) b), [byteOf t])
     | _, _ => .error .tableFull)

/-- The named task entry, when the index is in range and in use. -/
def namedTask (index : Byte) (b : Block) : Option Task := taskAt index.toNat b

def taskLocked (k : Task) (b : Block) : Bool := (courseAt k.course b).any fun c => c.lock

def ownEditTask (index profile : Byte) (mask : Mask8) (sensor : Byte) (plates : Word16) (b : Block) : Answer :=
  let t := index.toNat
  let k := namedTask index b
  checked
    [(decide (23 < t) || taskFieldsBad profile mask sensor plates b, .badValue),
     (decide (0 < plates.toNat) && decide (b.cfg.kind ≠ .warmer), .wrongKind),
     (k.isNone, .badRef),
     (k.any fun x => taskLocked x b, .locked),
     (k.any fun x => decide (x.state = .passed) || decide (x.state = .faulted) || decide (x.state = .cancelled), .wrongState),
     (maskBusy mask (some t) b, .channelBusy)]
    (match k with
     | some x =>
       let e : Edit := { profile := profile.toNat, mask, sensor := sensor.toNat, plates := plates.toNat }
       .ok (setTask t (some { x with edit := some e }) b, [])
     | none => .error .badRef)

/-- CANCEL TASK (R97). The urgency record, the class among it, stands as it was left (R103; DEDUCED, log 36, against R112's
class 0). -/
def ownCancelTask (index : Byte) (b : Block) : Answer :=
  let t := index.toNat
  let k := namedTask index b
  checked
    [(decide (23 < t), .badValue), (k.isNone, .badRef), (k.any fun x => taskLocked x b, .locked),
     (k.any fun x => !x.state.live, .wrongState)]
    (match k with
     | some x =>
       let b := releaseWants x.holds (setTask t (some { x with state := .cancelled, edit := none }) b)
       .ok (testPlates x.course (courseChange x.course (taskEvent t x.state b)), [])
     | none => .error .badRef)

def ownSetPlates (index : Byte) (loaded : Word16) (b : Block) : Answer :=
  let t := index.toNat
  let k := namedTask index b
  checked
    [(decide (23 < t) || decide (999 < loaded.toNat), .badValue), (decide (b.cfg.kind ≠ .warmer), .wrongKind),
     (k.isNone, .badRef), (k.any fun x => decide (x.state = .cancelled), .wrongState)]
    (match k with
     | some x => .ok (testPlates x.course (setTask t (some { x with platesLoaded := loaded.toNat }) b), [])
     | none => .error .badRef)

/-! ## A pending edit applies (R96) -/

/-- A task restarted at stage 0 of a profile (R96, R107). -/
def Task.startAt (k : Task) (r now : Nat) : Task :=
  { k with resolved := some r, state := .heating, stageIndex := 0, stageStart := now,
           urgency := { k.urgency with plateTest := false } }

/-- The task after a fault (R115, R96): latched, class 0, the rest of its record as it stood. -/
def Task.toFault (k : Task) (why : TaskFault) : Task :=
  { k with state := .faulted, fault := why, urgency := { k.urgency with cls := 0 } }

/-- The task after its pending edit has replaced its fields (R96), before any resolution. -/
def Task.edited (k : Task) (e : Edit) : Task :=
  { k with profile := e.profile, mask := e.mask, sensor := e.sensor, platesRequired := e.plates, edit := none }

/-- A running task whose edit changed the profile index resolves it at once (R96). -/
def reresolve (k : Task) (r : Option Nat) (now : Nat) : Task :=
  match r with
  | some x => if k.resolved = some x then k else k.startAt x now
  | none => { k.toFault .badProfile with resolved := none }

/-- Apply the pending edit of task `t` (R96): the new fields, the channels given up released, a changed profile of a
running task resolved; the plate condition is tested after each applied edit (R99, log 21). -/
def applyEdit (t : Nat) (b : Block) : Block :=
  match taskAt t b with
  | some k =>
    match k.edit with
    | some e =>
      let k' := k.edited e
      let k' := if k.state.runs ∧ k.profile ≠ e.profile then reresolve k' (resolveProfile e.profile b) b.now else k'
      let b := setTask t (some k') b
      let b := releaseWants (k.mask &&& ~~~ e.mask) b
      let b := if k'.state = .faulted then releaseWants e.mask b else b
      testPlates k.course b
    | none => b
  | none => b

/-! ## Plan clear (R100) -/

/-- The causes of the entries this station owns (R154). -/
def ownedCauses (b : Block) : List Cause :=
  b.pages.table.filterMap fun e => (e.filter fun p => p.owner = b.id).map fun p => p.cause

/-- PLAN CLEAR (R100, R154). It queues the CLEARs of the owned pages and marks the COURSE slot (R121, R175), where R49 and the
last lines of R100 have it leave the line's slots and queues, the events and the counters (DEDUCED, log 76). -/
def planClear (b : Block) : Block :=
  let b := b.onPlan fun p =>
    { p with profiles := List.replicate 32 .free, courses := List.replicate 8 none, tasks := List.replicate 24 none }
  let b := b.onDrive fun d =>
    { d with channels := d.channels.map fun c => if c.role = .heat then { c with want := {} } else c }
  markCourse ((ownedCauses b).foldl (fun acc c => resolve c acc) b)

end Sys2Proof.Machine
end

