-- ==== Sys2Proof/Machine/Engine.lean ====
section
/-! DEFINITION. The Task Engine (chapter 6): the power fraction, the estimates, the advance of stages, urgency, channel
wants, faults and the plate test, as one second of the service clock takes them. -/

namespace Sys2Proof.Machine

/-! ## Power fraction and estimates (R105, R106) -/

/-- The power fraction of an applied grant and a station rated load (R105). -/
def powerFraction (applied rated : Nat) : Nat :=
  if rated = 0 then Config.leastFraction else max Config.leastFraction (1000 * applied / rated)

/-- The estimate of a RAMP that starts at `from_` (R106). -/
def rampEstimate (phi setpoint start rate : Nat) : Nat := ceilDiv (60000 * (setpoint - start)) (rate * phi)

/-- A stage not yet started, after a stage of setpoint `prev` (R106). -/
def Stage.freshEstimate (phi prev : Nat) (x : Stage) : Nat :=
  match x.kind with
  | .ramp => rampEstimate phi x.setpoint prev x.arg
  | .soak => x.arg
  | .hold => 0

/-- The stage being run, at reading `t`, `elapsed` seconds after its start (R106). -/
def Stage.runningEstimate (phi t elapsed : Nat) (x : Stage) : Nat :=
  match x.kind with
  | .ramp => rampEstimate phi x.setpoint t x.arg
  | .soak => x.arg - elapsed
  | .hold => 0

/-- The sum of the estimates of stages not yet started (R106). -/
def laterEstimates (phi : Nat) : Nat → List Stage → Nat
  | _, [] => 0
  | prev, x :: rest => x.freshEstimate phi prev + laterEstimates phi x.setpoint rest

/-- Index of the HOLD stage, if the profile has one (R87). -/
def Direct.holdIndex (d : Direct) : Option Nat := d.stages.findIdx? fun x => x.kind = .hold

/-- The finish-run estimate of a task before or in HOLD (R106). -/
def finishRunEstimate (phi : Nat) (d : Direct) : Nat :=
  match d.holdIndex with
  | some h => laterEstimates phi ((d.stages.getD h ⟨.hold, 0, 0⟩).setpoint) (d.stages.drop (h + 1))
  | none => 0

/-- The estimate of the stage being run and the later ones up to stage `stop` (R111). -/
def runEstimate (phi t elapsed : Nat) (d : Direct) (index stop : Nat) : Nat :=
  match (d.stages.take stop).drop index with
  | x :: rest => x.runningEstimate phi t elapsed + laterEstimates phi x.setpoint rest
  | [] => 0

/-! ## Stages (R107 to R110) -/

/-- What a task second reads (R103). -/
structure TaskView where
  now : Nat
  reading : Nat
  phi : Nat
  profile : Direct
  passTime : Nat
  leadMargin : Nat
  hold : Bool

/-- The state that goes with stage `i` (R108); READY beyond the last. -/
def Direct.stateAt (d : Direct) (i : Nat) : TaskState :=
  if d.stages.length ≤ i then .ready
  else
    match d.holdIndex with
    | some h => if i < h then .heating else if i = h then .holding else .finishing
    | none => .heating

/-- The next stage begins (R108); after the last the task enters READY and its stage index stays. -/
def Task.nextStage (v : TaskView) (k : Task) : Task :=
  let i := k.stageIndex + 1
  { k with state := v.profile.stateAt i,
           stageIndex := if i < v.profile.stages.length then i else k.stageIndex,
           stageStart := if i < v.profile.stages.length then v.now else k.stageStart }

/-- The stage being run has ended (R108, R109). -/
def Task.stageEnds (v : TaskView) (k : Task) : Bool :=
  match k.state, v.profile.stages[k.stageIndex]? with
  | .heating, some x | .finishing, some x =>
    match x.kind with
    | .ramp => decide (x.setpoint ≤ v.reading)
    | .soak => decide (x.arg ≤ v.now - k.stageStart)
    | .hold => false
  | .holding, some _ =>
    !v.hold && decide (v.passTime ≤ v.now + finishRunEstimate v.phi v.profile + v.leadMargin)
  | _, _ => false

/-- A task in HEATING whose current stage is the HOLD stage, which is a task begun at a first stage of that kind,
enters HOLDING (R87, R107). -/
def Task.enterHold (v : TaskView) (k : Task) : Task :=
  if k.state = .heating ∧ (v.profile.stages[k.stageIndex]?).any fun x => x.kind = .hold then
    { k with state := .holding }
  else k

/-- Advance the stages as far as this second takes them (R108, R109); a profile has at most six. -/
def Task.advance (v : TaskView) : Nat → Task → Task
  | 0, k => k
  | n + 1, k => if k.stageEnds v then Task.advance v n (k.nextStage v) else k

/-- The point of the plate test has been reached (R117): the finish start, or READY in a profile without HOLD. -/
def Task.platesDue (v : TaskView) (k : Task) : Bool :=
  !k.urgency.plateTest
    && (decide (k.state = .ready) || (decide (k.state = .finishing) && v.profile.holdIndex.isSome))

/-! ## Urgency (R111, R112) -/

/-- The class of a slack (R112). -/
def classOf (slack : Int) : Nat :=
  if slack < 0 then 3 else if slack ≤ 120 then 2 else if slack ≤ 600 then 1 else 0

/-- The finish start estimate (R111). A pass time nearer to 0 than the margin and the finish run gives a figure below 0,
held as it is and shown in two's complement (DESIGN CHOICE, log 54: R111 gives no floor). -/
def TaskView.finishStart (v : TaskView) : Int :=
  (v.passTime : Int) - v.leadMargin - finishRunEstimate v.phi v.profile

/-- The current setpoint of a task in a run state (R102, R110). -/
def Task.setpoint (v : TaskView) (k : Task) : Nat :=
  if k.state = .ready then v.profile.ready
  else (v.profile.stages[k.stageIndex]?).elim 0 fun x => x.setpoint

/-- The estimates, deadline, slack and class after the stages have advanced (R106, R111, R112). -/
def Task.judged (v : TaskView) (k : Task) : Task :=
  let hold := v.profile.holdIndex
  let before := decide (k.state = .holding) || (decide (k.state = .heating) && hold.isSome)
  let deadline : Option Int :=
    if before then some v.finishStart
    else if k.state = .heating ∨ k.state = .finishing then some v.passTime
    else none
  let stop := if before then hold.getD 0 else v.profile.stages.length
  let estimate :=
    if k.state = .heating ∨ k.state = .finishing then
      runEstimate v.phi v.reading (v.now - k.stageStart) v.profile k.stageIndex stop
    else 0
  let slack : Int := deadline.elim 0 fun x => x - v.now - estimate
  { k with urgency :=
    { setpoint := some (k.setpoint v), stageEstimate := estimate,
      finishEstimate := if before then finishRunEstimate v.phi v.profile else 0,
      finishStart := if before then some v.finishStart else none,
      deadline := deadline, slack := slack,
      cls := if k.state = .heating ∨ k.state = .finishing then classOf slack else 0,
      plateTest := k.urgency.plateTest } }

/-! ## Channel wants and curtailed seconds (R113, R114) -/

/-- The control law (R113). -/
def controlAmount (rated setpoint reading band : Nat) : Nat := min rated (ceilDiv (rated * (setpoint - reading)) band)

/-- The want record of a channel of the task's mask (R113). -/
def Task.wantOf (v : TaskView) (k : Task) (c : Channel) : Want :=
  let amount := controlAmount c.rated (k.setpoint v) v.reading v.profile.band
  match k.state with
  | .holding | .ready => { amount := amount, kind := .floor }
  | .heating | .finishing => { amount := amount, kind := .extra, cls := k.urgency.cls }
  | .waiting | .passed | .faulted | .cancelled => {}

/-- Set the want records of the channels of the mask. -/
def presentWants (v : TaskView) (k : Task) (b : Block) : Block :=
  (members k.mask).foldl (fun acc i =>
    acc.onDrive fun d =>
      { d with channels := d.channels.set i { d.channels.getD i {} with want := k.wantOf v (d.channels.getD i {}) } }) b

/-- The healthy channels of a mask (R114, R115). -/
def healthyOf (mask : Mask8) (b : Block) : List Channel :=
  ((members mask).map fun i => b.drive.channels.getD i {}).filter fun c => c.fitted && c.healthy

/-- The allotments of the task's healthy channels sum to less than their wants (R114). -/
def curtails (mask : Mask8) (b : Block) : Bool :=
  decide (((healthyOf mask b).map Channel.allotment).sum < ((healthyOf mask b).map fun c => c.want.amount).sum)

/-! ## Faults (R115) -/

/-- The fault tests of R115, in order. -/
def faultTest (k : Task) (b : Block) : Option TaskFault :=
  if (inputAt k.sensor b).status ≠ .ok then some .sensor
  else if (healthyOf k.mask b).isEmpty then some .noChannel
  else none

/-- Task `t` enters FAULTED; its channels present want 0 (R113, R115). -/
def faultTask (t : Nat) (k : Task) (why : TaskFault) (b : Block) : Block :=
  releaseWants k.mask (setTask t (some (k.toFault why)) b)

/-! ## The task second (R103) -/

/-- What the second of a task on profile content `d` reads. -/
def viewOf (k : Task) (d : Direct) (b : Block) : TaskView :=
  let course := courseAt k.course b
  { now := b.now, reading := (inputAt k.sensor b).reading, phi := b.plan.powerFraction, profile := d,
    passTime := course.elim 0 fun c => c.passTime, leadMargin := course.elim 0 fun c => c.leadMargin,
    hold := course.any fun c => c.hold }

/-- The plate test of a WARMER task, when its point has been reached (R117). -/
def plateTest (v : TaskView) (k : Task) (b : Block) : Task × Block :=
  if b.cfg.kind = .warmer ∧ k.platesDue v then
    ({ k with urgency := { k.urgency with plateTest := true } },
     if k.platesLoaded < k.platesRequired then raise .platesShort ((courseAt k.course b).elim 0 fun c => c.tag) b else b)
  else (k, b)

/-- Steps 4 to 7 of the second of a task in a run state (R103). -/
def runTask (t : Nat) (k : Task) (d : Direct) (b : Block) : Block :=
  let v := viewOf k d b
  let tested := plateTest v (Task.advance v (d.stages.length + 1) (k.enterHold v)) b
  let k := tested.1.judged v
  let b := presentWants v k tested.2
  setTask t (some { k with curtailed := if curtails k.mask b then satTo 65535 (k.curtailed + 1) else k.curtailed }) b

/-- Steps 3 to 7 for a task in a run state: a fault test that fails ends its second (R115). -/
def testAndRun (t : Nat) (k : Task) (b : Block) : Block :=
  match faultTest k b with
  | some why => faultTask t k why b
  | none =>
    match contentOf k.resolved b with
    | some d => runTask t k d b
    | none => b

/-- A task in WAITING resolves its profile and is tested before it enters HEATING (R107). -/
def resolveTask (t : Nat) (k : Task) (b : Block) : Block :=
  match resolveProfile k.profile b with
  | none => faultTask t { k with resolved := none } .badProfile b
  | some r =>
    let k := { k with resolved := some r }
    match faultTest k b with
    | some why => faultTask t k why b
    | none => testAndRun t (k.startAt r b.now) b

/-- Steps 2 to 7 (R103). -/
def taskWork (t : Nat) (b : Block) : Block :=
  match taskAt t b with
  | some k =>
    match k.state with
    | .waiting => resolveTask t k b
    | .heating | .holding | .finishing | .ready => testAndRun t k b
    | .passed | .faulted | .cancelled => b
  | none => b

/-- A task with a second: WAITING or a run state (R103). -/
def TaskState.hasSecond (s : TaskState) : Bool := s.runs || decide (s = .waiting)

/-- Task `t` stands in another state than `before`. -/
def leftState (t : Nat) (before : TaskState) (b : Block) : Bool := (taskAt t b).any fun k => decide (k.state ≠ before)

/-- The TASK_STATE event of task `t`, when its state differs from `before` (R104). -/
def noteTask (t : Nat) (before : TaskState) (b : Block) : Block :=
  if leftState t before b then taskEvent t before b else b

/-- One task second (R103). A second that changes the task's state, be it by way of other states back to the first,
places one event with the state before the second and the state after it (R104): the edit moves it, or the steps after
the edit do. -/
def taskSecond (t : Nat) (b : Block) : Block :=
  match taskAt t b with
  | some k =>
    if k.state.hasSecond then
      let edited := applyEdit t b
      let done := taskWork t edited
      if leftState t k.state edited || leftState t k.state done then taskEvent t k.state done else done
    else b
  | none => b

/-- Hand the course change of task `t` on, when its state changed or an edit applied (R104, R121). -/
def handOn (tasks : List (Option Task)) (t : Nat) (b : Block) : Block :=
  match tasks.getD t none, taskAt t b with
  | some k, some k' => if k.state ≠ k'.state ∨ (k.edit.isSome ∧ k'.edit = none) then courseChange k'.course b else b
  | _, _ => b

/-- The Task Engine's second (R103): the power fraction, the task seconds, then their course changes (log 22). -/
def engineSecond (b : Block) : Block :=
  let tasks := b.plan.tasks
  let b := b.onPlan fun p => { p with powerFraction := powerFraction b.share.applied b.cfg.ratedLoad }
  let b := taskIndices.foldl (fun acc t => taskSecond t acc) b
  taskIndices.foldl (fun acc t => handOn tasks t acc) b

/-- TASK_EDIT_APPLY of task `t` (R96): the opening act of its next second, which stands at the next value of the
clock; its event and course change at once (log 23). -/
def editApplies (t : Nat) (b : Block) : Block :=
  match taskAt t b with
  | some k =>
    if k.edit.isSome ∧ k.state.hasSecond then
      let ahead := b.onStation fun s => { s with clock := (s.clock + 1) % Config.clockModulus }
      let done := courseChange k.course (noteTask t k.state (applyEdit t ahead))
      done.onStation fun s => { s with clock := b.now }
    else b
  | none => b

end Sys2Proof.Machine
end

