-- ==== Sys2Proof/Machine/Line.lean ====
section
/-! DEFINITION. The Line Interface (chapter 3) and the Peer Table's part of a received frame (chapter 2): slots,
transmission, collision, reception. -/

namespace Sys2Proof.Machine

/-! ## Which frame, at which slot (R48, R51) -/

/-- Priority of a kind (R48). -/
def FrameKind.priority : FrameKind → Nat
  | .page => 0 | .shift => 1 | .course => 2 | .demand => 3

/-- The slot of priority `p` for station `own` (R51). -/
def slotOf (own : Nat) (last : Option Nat) (p : Nat) : Nat :=
  match last with
  | some l => p * 32 + (own + 31 - l) % 32
  | none => p * 32 + own

/-- The pending frame of highest priority (R51). -/
def Line.offered (l : Line) : Option FrameKind :=
  if !l.pageQueue.isEmpty then some .page
  else if !l.shiftQueue.isEmpty then some .shift
  else if l.courseSlot then some .course
  else if l.demandSlot then some .demand
  else none

/-! ## What this station sends (R18, R55, R56, R122, R179) -/

/-- The body of this station's DEMAND as its owners stand (R18, R55). -/
def ownDemand (b : Block) : Demand :=
  { signature := b.station.signature, kind := b.cfg.kind,
    state := if b.station.state = .active then .active else .isolated,
    floor := b.share.floorSelf, want := b.share.wantSelf, cls := b.share.classSelf, applied := b.share.applied,
    rising := b.share.rising, draw := b.drive.draw, rated := b.cfg.ratedLoad,
    dish := if b.cfg.kind = .dish then some { cleanTally := b.conveyor.clean, conveyor := b.conveyor.state } else none,
    base := if b.cfg.kind = .base then some b.pager.radio else none }

/-- The entries of this station's COURSE frame (R122). -/
def ownItems (b : Block) : List CourseItem :=
  (b.plan.courses.filterMap id).map fun c =>
    { tag := c.tag, version := c.version, offset := passOffset c.passTime b.now, state := c.state, hold := c.hold }

/-- Kind byte and body of the frame of a kind, built as its transmission starts. -/
def buildFrame (kind : FrameKind) (b : Block) : Byte × List Byte :=
  match kind with
  | .page =>
    match b.line.pageQueue with
    | f :: _ => (f.form.kindByte, pageBytes f)
    | [] => (0, [])
  | .shift =>
    match b.line.shiftQueue with
    | x :: _ =>
      (FrameForm.shift.kindByte,
        shiftBytes { tag := x.tag, version := x.version, offset := passOffset x.passTime b.now, hold := x.hold })
    | [] => (0, [])
  | .course => (FrameForm.course.kindByte, courseBytes (ownItems b))
  | .demand => (FrameForm.demand.kindByte, demandBytes (ownDemand b))

/-- The sequence counter of a kind (R58). -/
def Line.sequence (l : Line) : FrameKind → Nat
  | .page => l.seqPage | .shift => l.seqShift | .course => l.seqCourse | .demand => l.seqDemand

/-- The frame of a kind as it would start now. -/
def newFlight (kind : FrameKind) (b : Block) : Flight :=
  let built := buildFrame kind b
  let seq := b.line.sequence kind
  { kind := kind, sequence := seq, bytes := frameBytes b.id built.1 seq built.2 }

/-! ## The life of the line (R50, R52) -/

def setPosition (p : Position) (b : Block) : Block := b.onLine fun l => { l with position := p }

/-- Sixteen idle bit times in SEEKING or GAP begin an access cycle (R50). -/
def beginCycle (b : Block) : Block :=
  if b.runs ∧ (b.line.position = .seeking ∨ b.line.position = .gap) then
    b.onLine fun l => { l with position := .cycle, slot := 0, slotBegun := false }
  else b

/-- The slot that a slot start begins (R50): slot 0 after a gap, then one on, 127 being followed by 0. -/
def Line.nextSlot (l : Line) : Nat := if l.slotBegun then (l.slot + 1) % Config.cycleSlots else l.slot

/-- The frame this station starts at slot `n`, if its line is at rest (R51, R52). -/
def startsAt (n : Nat) (b : Block) : Option FrameKind :=
  b.line.offered.filter fun k => b.station.state.transmits && decide (slotOf b.id b.line.lastSender k.priority = n)

/-- The start of a slot (R52). -/
def slotStart (lineAtRest : Bool) (b : Block) : Block :=
  if b.runs ∧ b.line.position = .cycle then
    let n := b.line.nextSlot
    let b := b.onLine fun l => { l with slot := n, slotBegun := true }
    if lineAtRest then
      match startsAt n b with
      | some k => b.onLine fun l => { l with position := .transmitting, inFlight := some (newFlight k b) }
      | none => b
    else setPosition .receiving b
  else b

/-- Activity of another station in GAP or CYCLE (R50, R52). -/
def activitySeen (b : Block) : Block :=
  if b.runs ∧ (b.line.position = .gap ∨ b.line.position = .cycle) then setPosition .receiving b else b

/-! ## Completion and collision (R53, R54) -/

/-- The counter of the kind one on (R53, R58). -/
def Line.bump (l : Line) : FrameKind → Line
  | .page => { l with seqPage := next8 l.seqPage }
  | .shift => { l with seqShift := next8 l.seqShift }
  | .course => { l with seqCourse := next8 l.seqCourse }
  | .demand => { l with seqDemand := next8 l.seqDemand }

/-- The sent frame leaves its slot or queue; a slot marked again stays pending (R53). -/
def Line.sent (l : Line) (f : Flight) : Line :=
  match f.kind with
  | .page => { l with pageQueue := l.pageQueue.drop 1 }
  | .shift => { l with shiftQueue := l.shiftQueue.drop 1 }
  | .course => { l with courseSlot := f.markedAgain }
  | .demand => { l with demandSlot := f.markedAgain }

/-- The frame in flight, while TRANSMITTING. -/
def flying (b : Block) : Option Flight :=
  if b.runs ∧ b.line.position = .transmitting then b.line.inFlight else none

/-- The last half-bit was read back equal (R53). -/
def complete (b : Block) : Block :=
  match flying b with
  | some f =>
    count .framesSent (b.onLine fun l =>
      { (l.sent f).bump f.kind with lastSender := some b.id, inFlight := none, position := .gap })
  | none => b

/-- What a collision does to the colliding frame: the line after it, and whether a frame was dropped (R54). -/
def Line.collided (l : Line) (f : Flight) : Line × Bool :=
  match f.kind with
  | .page =>
    match l.pageQueue with
    | x :: rest =>
      if Config.maxAttempts ≤ x.attempts + 1 then ({ l with pageQueue := rest }, true)
      else ({ l with pageQueue := { x with attempts := x.attempts + 1 } :: rest }, false)
    | [] => (l, false)
  | .shift =>
    match l.shiftQueue with
    | x :: rest =>
      if Config.maxAttempts ≤ x.attempts + 1 then ({ l with shiftQueue := rest }, true)
      else ({ l with shiftQueue := { x with attempts := x.attempts + 1 } :: rest }, false)
    | [] => (l, false)
  | .course => ({ l with courseSlot := f.markedAgain }, false)
  | .demand => ({ l with demandSlot := f.markedAgain }, false)

/-- A half-bit was read back different (R54). -/
def collide (b : Block) : Block :=
  match flying b with
  | some f =>
    let after := b.line.collided f
    let b := count .collisions (b.onLine fun _ =>
      { after.1 with lastSender := none, inFlight := none, position := .gap })
    if after.2 then count .framesDropped b else b
  | none => b

/-! ## Receiving (R60 to R63) -/

/-- The positions in which activity on the line is received: in GAP and CYCLE its start has moved the interface to
RECEIVING (R50). -/
def listening (b : Block) : Bool :=
  b.runs && (decide (b.line.position = .gap) || decide (b.line.position = .cycle) || decide (b.line.position = .receiving))

/-- A corrupt frame (R60). -/
def corrupt (b : Block) : Block :=
  if listening b then count .checkErrors (b.onLine fun l => { l with lastSender := none, position := .gap }) else b

/-- Entry to LOCAL on a duplicate (R43, R44). -/
def enterLocal (b : Block) : Block :=
  cutGrant (changeState .localOnly .duplicateId (b.onLine fun l =>
    { l with demandSlot := false, courseSlot := false, shiftQueue := [], pageQueue := [] }))

/-- A frame that bears this station's own id (R43). -/
def duplicate (b : Block) : Block := if b.isLocal then b else enterLocal b

/-- Frames missed between two sequence numbers (R63). -/
def sequenceGap (last sequence : Nat) : Nat := (sequence + 256 - last % 256) % 256 - 1

/-- The Peer Table entry a DEMAND gives (R25, R26). -/
def peerOf (id sequence missed : Nat) (d : Demand) : Peer :=
  { id := id, kind := d.kind, signature := d.signature, state := d.state, floor := min 800 d.floor, want := min 800 d.want,
    cls := d.cls, applied := min 800 d.applied, rising := d.rising, draw := min 2040 d.draw, rated := min 800 d.rated,
    lastSequence := sequence, missed := missed, age := 0, dish := d.dish, base := d.base }

/-- Put an entry in ascending id, in place of one with its id (R24, R26). -/
def putPeer (p : Peer) : List Peer → List Peer
  | [] => [p]
  | x :: rest => if p.id < x.id then p :: x :: rest else if p.id = x.id then p :: rest else x :: putPeer p rest

/-- CONFIG_MISMATCH of a sender (R31). -/
def judgeSignature (id : Nat) (signature : Word16) (b : Block) : Block :=
  if signature = b.station.signature then resolved .configMismatch id b else raise .configMismatch id b

/-- An accepted DEMAND (R25, R26, R29, R31, R63), with what follows it: the election (R159) and all-ready (R128). No rule orders
the report of STATION_LOST (R29), CONFIG_MISMATCH (R31) and the restart (R63) among themselves; they are taken in that
order (DESIGN CHOICE, log 56). -/
def heardDemand (id sequence : Nat) (d : Demand) (b : Block) : Block :=
  let old := findPeer id b
  let gap := old.elim 0 fun p => sequenceGap p.lastSequence sequence
  let missed := satTo 65535 ((old.elim 0 fun p => p.missed) + gap)
  let restarted := decide (sequence = 0) && old.any fun p => !p.fresh
  let b := countBy .sequenceGaps gap b
  let b := b.onPeers (putPeer (peerOf id sequence missed d))
  let b := judgeSignature id d.signature (resolved .stationLost id b)
  let b := if restarted then orphanPages id (some id) b else b
  let b := if d.kind = .base then decideElection b else b
  evalAllReady b

/-- An accepted frame reaches the block that owns its kind (R62). -/
def handle (source sequence : Nat) (r : Received) (b : Block) : Block :=
  match r with
  | .demand d => heardDemand source sequence d b
  | .course items => heardCourse source items b
  | .shift x => heardShift x b
  | .raise f => heardRaise f b
  | .ack c g => heardAck c g b
  | .clear c g => heardClear c g b

/-- A frame of another station: discarded with a check error, or accepted, processed and followed by the withdrawal
(R59, R61, R62, R180). -/
def acceptFrame (source sequence : Nat) (form : Option FrameForm) (body : List Byte) (b : Block) : Block :=
  match form with
  | some f =>
    if f.admits body.length then
      match parseBody f body with
      | some r => withdraw r (handle source sequence r (count .framesReceived b))
      | none => count .checkErrors b
    else count .checkErrors b
  | none => count .checkErrors b

/-- A frame whose check word held, received to its end (R43, R60, R61). -/
def receive (source sequence : Byte) (form : Option FrameForm) (body : List Byte) (b : Block) : Block :=
  if listening b then
    if 31 < source.toNat ∨ 56 < body.length then corrupt b
    else if source.toNat = b.id then setPosition .gap (duplicate b)
    else
      setPosition .gap
        (acceptFrame source.toNat sequence.toNat form body (b.onLine fun l => { l with lastSender := some source.toNat }))
  else b

end Sys2Proof.Machine
end

