-- ==== Sys2Proof/Machine/Control.lean ====
section
/-! DEFINITION. Station Control and the Pager Port's records (chapters 2 and 9): the steps of INIT, the round, the
second of the service clock, the reset pin, and what the radio sends. -/

namespace Sys2Proof.Machine

/-! ## The steps of INIT (R35, R36, R37, R45) -/

/-- Entry to HALTED (R45): no event; everything else stands at its INIT values. -/
def halt (reason : EntryReason) (b : Block) : Block :=
  b.onStation fun s => { s with state := .halted, reason := reason, announceTimer := none, initStep := .finished }

/-- The settings come into force: image, signature and the channel records (R35, R36, R37, R66). -/
def takeSettings (s : Settings) (signature : Word16) (b : Block) : Block :=
  (b.onStation fun x => { x with image := some s, signature := signature, initStep := .loopback }).onDrive fun d =>
    { d with channels := s.channels.map configuredChannel }

/-- INIT stands at a step and the part is out of reset. -/
def initAt (step : InitStep) (b : Block) : Bool :=
  !b.station.resetHeld && decide (b.station.state = .initial) && decide (b.station.initStep = step)

/-- The block is read into the image before it is checked (R35). -/
def readImage (b : Block) : Block := b.onStation fun s => { s with imageBytes := b.store.block }

/-- Step 2 of INIT; it does not read the store while a write runs (R35, R175). The fields of a block that fails its
checks are not decoded (log 27). -/
def checkSettings (b : Block) : Block :=
  if initAt .settings b ∧ b.store.writing = none then
    match settingsOfBlock b.store.block with
    | some s => takeSettings s (signatureOfBlock b.store.block) (readImage b)
    | none => halt .settings (readImage b)
  else b

/-- Entry to LISTEN (R3, R39, R50, R67, R82). -/
def enterListen (inputs : List SensorInput) (b : Block) : Block :=
  let b := b.onStation fun s =>
    { s with listenRounds := 0, announceTimer := some b.cfg.period, initStep := .finished }
  let b := b.onLine fun l => { l with position := .seeking, lastSender := none }
  openWindow (readInputs 0 (inputs.take Config.channels) (changeState .listen .checksPassed b))

/-- Step 3 of INIT has ended (R35). -/
def loopbackDone (passed : Bool) (inputs : List SensorInput) (b : Block) : Block :=
  if initAt .loopback b then (if passed then enterListen inputs b else halt .loopback b) else b

/-- The reset pin is taken (R34): all outputs off, the frame in flight stops, a write of the store is given up (R175). -/
def holdReset (b : Block) : Block :=
  (((b.onStation fun s => { s with resetHeld := true }).onDrive fun d =>
      { d with channels := d.channels.map fun c => { c with output := false } }).onLine fun l =>
    { l with inFlight := none }).onStore fun s => { s with writing := none }

/-- The reset pin is released (R34). -/
def releaseReset (straps : Nat) (b : Block) : Block :=
  (enterInit .resetPin straps b).onStation fun s => { s with resetHeld := false }

/-! ## Aging and removal (R27, R28) -/

/-- What a lost id means to the other blocks (R28), in the order in which R28 names them (DESIGN CHOICE, log 67). -/
def losePeer (b : Block) (id : Nat) : Block :=
  dropFromCourses id (resolved .configMismatch id (orphanPages id none (raise .stationLost id b)))

/-- Every entry one older; those that reach age 8 are removed, then handed on in ascending id (R27, R28). -/
def agePeers (b : Block) : Block :=
  let aged := b.peers.map fun p => { p with age := p.age + 1 }
  let lost := (aged.filter fun p => decide (Config.removeAge ≤ p.age)).map fun p => p.id
  lost.foldl losePeer (b.onPeers fun _ => aged.filter fun p => decide (p.age < Config.removeAge))

/-! ## Changes of state at a round (R40, R41, R42) -/

/-- Entry to ACTIVE (R40, R42). -/
def enterActive (reason : EntryReason) (b : Block) : Block :=
  changeState .active reason (b.onStation fun s => { s with shortRun := 0, goodRun := 0 })

/-- Entry to ISOLATED, with the cut of the grant (R17, R40, R41). -/
def enterIsolated (reason : EntryReason) (b : Block) : Block :=
  cutGrant (changeState .isolated reason (b.onStation fun s => { s with shortRun := 0, goodRun := 0 }))

/-- The fresh peers reach min_peers. -/
def enoughPeers (b : Block) : Bool := decide (b.cfg.minPeers ≤ b.freshPeers)

/-- The change of state a round decides (R40, R41, R42). -/
def controlRound (b : Block) : Block :=
  match b.station.state with
  | .listen =>
    let n := b.station.listenRounds + 1
    let b := b.onStation fun s => { s with listenRounds := n }
    if n = 4 then (if enoughPeers b then enterActive .peersPresent b else enterIsolated .peersAbsent b) else b
  | .active =>
    let n := if enoughPeers b then 0 else b.station.shortRun + 1
    let b := b.onStation fun s => { s with shortRun := n }
    if n = 3 then enterIsolated .peersLost b else b
  | .isolated =>
    let n := if enoughPeers b then b.station.goodRun + 1 else 0
    let b := b.onStation fun s => { s with goodRun := n }
    if n = 2 then enterActive .peersRegained b else b
  | .initial | .localOnly | .halted => b

/-- A round of the Load Share Unit (R5, R10 to R16, R20 to R22). -/
def shareRound (b : Block) : Block := bookOvercommit (applyGrant (divideFeeder (formInputs b)))

/-- The DEMAND slot at the end of a round (R18). -/
def handOnDemand (b : Block) : Block := if b.station.state.transmits then markDemand b else b

/-- A round (R9): aging and removal, the change of state, the election (R159), pruning (R125), the Load Share Unit,
the round parity (R122), the DEMAND slot. -/
def runRound (b : Block) : Block :=
  if b.runs ∧ b.station.announceTimer.isSome then
    handOnDemand (toggleParity (shareRound (pruneParticipants (decideElection (controlRound (agePeers b))))))
  else b

/-! ## The second (R33, R103) -/

/-- The numbers of the page table's entries. -/
def pageIndices : List Nat := List.range Config.pageEntries

/-- What the closing second still owes when its own commands have not come (log 24): ack timers (R157), CLEARs of
clear-due entries (R154), the hold timeout (R146), the end of a manual advance (R144), in that order, entries in
ascending number (DESIGN CHOICE, log 66: no rule orders them). -/
def settleSecond (b : Block) : Block :=
  let b := pageIndices.foldl (fun acc i => expireAck i acc) b
  let b := pageIndices.foldl (fun acc i => retryClear i acc) b
  if b.dishRuns then timeoutAdvance (timeoutHold b) else b

def tickClock (b : Block) : Block := b.onStation fun s => { s with clock := (s.clock + 1) % Config.clockModulus }

/-- A second of the service clock (R33, R82, R103, R120, R134, R146); in INIT and HALTED the clock alone counts. -/
def runSecond (inputs : List SensorInput) (b : Block) : Block :=
  if b.station.resetHeld then b
  else if b.station.state.works then
    conveyorSecond (coursesSecond (engineSecond
      (readInputs 0 (inputs.take Config.channels) (tickClock (settleSecond b)))))
  else tickClock b

/-! ## The radio (R160, R161, R162, R184) -/

/-- A new radio state, with its event and the election when it changes (R159, R160). -/
def setRadio (r : Radio) (b : Block) : Block :=
  if b.pager.radio = r then b
  else decideElection (offer (.radioState r) (b.onPager fun g => { g with radio := r }))

/-- A STATUS record, or five seconds without one (R160). -/
def radioStatus (r : Radio) (b : Block) : Block := if b.pagerOn then setRadio r b else b

/-- What the SEND record of a cause carries (R161). -/
def sendOf (c : Cause) (b : Block) : Option SendRecord :=
  (heldPage c b).map fun e =>
    { cause := c, generation := e.generation, level := e.level, priority := e.priority, owner := e.owner }

/-- The elected base sends for the head of its list, while the radio is UP and no SEND is outstanding (R161). -/
def sendHead (b : Block) : Block :=
  if b.pagerOn ∧ b.pager.elected ∧ b.pager.radio = .up ∧ b.pager.outstanding = none then
    match b.pager.sendList with
    | c :: rest => b.onPager fun g => { g with sendList := rest, outstanding := sendOf c b }
    | [] => b
  else b

/-- A TAKEN record ends the outstanding SEND of its cause and generation (R161, R184). -/
def taken (cause : Option Cause) (g : Nat) (b : Block) : Block :=
  if b.pagerOn ∧ (b.pager.outstanding.any fun r => decide (some r.cause = cause) && decide (r.generation = g)) then
    b.onPager fun x => { x with outstanding := none }
  else b

/-- Two seconds without an answer to the outstanding SEND: its cause goes back on the list, the radio becomes DOWN
(R160, R161). -/
def sendExpired (b : Block) : Block :=
  match b.pager.outstanding with
  | some r =>
    if b.pagerOn then setRadio .down (placeSend r.cause (b.onPager fun g => { g with outstanding := none })) else b
  | none => b

/-- An ACK record (R162). -/
def radioAcks (cause : Option Cause) (g : Nat) (b : Block) : Block := if b.pagerOn then radioAck cause g b else b

end Sys2Proof.Machine
end

