-- ==== Sys2Proof/Machine/Flags.lean ====
section
/-! DEFINITION. The outputs and shown flags that follow from the state: the page lamp (R163), the interrupt (R172),
the element drives (R71), the pager port (R160), whether the appliance port answers (R34, R175). The conveyor
motor is `Block.motor` of Machine/Conveyor.lean (R137). -/

namespace Sys2Proof.Machine

/-- The kitchen may not be hearing this station's pages (R163). -/
def StationState.apart : StationState → Bool
  | .isolated | .localOnly => true
  | .initial | .listen | .active | .halted => false

/-- One entry lights the page lamp (R163). -/
def PageEntry.lights (apart : Bool) (e : PageEntry) : Bool :=
  !e.clearDue && (apart || (decide (e.state = .raised) && decide (1 ≤ e.level)))

/-- The page lamp (R163). -/
def Block.lamp (b : Block) : Bool :=
  b.runs && b.pages.table.any fun e => e.any (PageEntry.lights b.station.state.apart)

/-- The interrupt output (R172); off while the reset pin is held (R167). -/
def Block.interrupt (b : Block) : Bool := !b.station.resetHeld && !b.port.events.isEmpty

/-- The element drive outputs (R71). -/
def Block.elementDrives (b : Block) : List Bool := b.drive.channels.map fun c => b.runs && c.output

/-- The appliance port answers: the reset pin is not held and no write of the store runs (R34, R175). -/
def Block.portAnswers (b : Block) : Bool := !b.station.resetHeld && b.store.writing.isNone

/-- Page-table entries in use (R166). -/
def Block.pagesInUse (b : Block) : Nat := (b.pages.table.filter fun e => e.isSome).length

end Sys2Proof.Machine
end

