-- ==== Sys2Proof/Machine/Port.lean ====
section
/-! DEFINITION. The Appliance Port (chapter 10): the discipline of transfers, the gates, what the reads return, the
events and counters, and the commands no other chapter's file holds. -/

namespace Sys2Proof.Machine

/-! ## Transfers and gates (R168, R169) -/

/-- A complete transfer delivers the slot's response and empties the slot (R168). -/
def deliver (b : Block) : Block := b.onPort fun p => { p with delivered := p.slot, slot := none }

/-- Place an answer in the slot. -/
def answer (r : Response) (b : Block) : Block := b.onPort fun p => { p with slot := some r }

/-- The command number advances at every command taken (R169). -/
def numbered8 (b : Block) : Block := b.onPort fun p => { p with commandNumber := next8 p.commandNumber }

/-- In which states a command passes gate 2 (R169). -/
inductive StateGate
  | always | working | atRest
  deriving DecidableEq, Repr

def StateGate.passes (g : StateGate) (s : StationState) : Bool :=
  match g with
  | .always => true
  | .working => s.works
  | .atRest => !s.works

/-- Gates 1 to 3 and then the owner (R169): `bad` is a record that fails gate 1. -/
def gates (bad : Bool) (gate : StateGate) (dishOnly : Bool) (own : Block → Answer) (b : Block) : Answer :=
  if bad then .error .badValue
  else if gate.passes b.station.state = false then .error .wrongState
  else if dishOnly ∧ b.cfg.kind ≠ .dish then .error .wrongKind
  else own b

/-- The answer placed for what the gates and the owner gave; a refusal changes nothing else. -/
def conclude (code : Nat) (result : Answer) (b : Block) : Block :=
  match result with
  | .error r => answer { code := code, number := b.port.commandNumber, refused := some r, data := [] } (numbered8 b)
  | .ok (after, data) =>
    answer { code := code, number := b.port.commandNumber, refused := none, data := data } (numbered8 after)

/-- A complete transfer that carries a command (R168, R169). -/
def transfer (code : Nat) (bad : Bool) (gate : StateGate) (dishOnly : Bool) (own : Block → Answer) (b : Block) : Block :=
  if b.portAnswers then
    let b := deliver b
    conclude code (gates bad gate dishOnly own b) b
  else b

/-- A complete transfer that carries no command (R168). -/
def emptyTransfer (b : Block) : Block := if b.portAnswers then deliver b else b

/-! ## READ STATUS (R170) -/

def byte1 (n : Nat) : List Byte := [byteOf n]
def flag1 (x : Bool) : List Byte := [flagByte x]

/-- The Station group (R46). -/
def stationStatus (b : Block) : List Byte :=
  let s := b.station
  byte1 s.state.code ++ byte1 s.reason.code ++ byte1 s.strapId ++ bytes2 s.signature.toNat ++ byte1 s.listenRounds
    ++ byte1 s.shortRun ++ byte1 s.goodRun ++ bytes4 s.clock ++ byte1 b.freshPeers

/-- The Load share group (R23). -/
def shareStatus (s : LoadShare) : List Byte :=
  bytes2 s.floorSelf ++ bytes2 s.wantSelf ++ byte1 s.classSelf ++ bytes2 s.budget ++ bytes2 s.available ++ bytes2 s.share
    ++ flag1 s.overcommitted ++ bytes2 s.applied ++ flag1 s.rising ++ byte1 s.cleanRun

/-- The Line group (R65); the attempts of an empty queue's head are absent. R65 gives the four sequence counters no
order; the model shows them as PAGE, SHIFT, COURSE, DEMAND, the order of R48's kinds (DESIGN CHOICE, log 30). -/
def lineStatus (l : Line) : List Byte :=
  byte1 l.position.code ++ optional 1 (l.lastSender.map byte1) ++ flag1 l.demandSlot ++ flag1 l.courseSlot
    ++ byte1 l.shiftQueue.length ++ byte1 l.pageQueue.length
    ++ optional 1 (l.shiftQueue.head?.map fun x => byte1 x.attempts)
    ++ optional 1 (l.pageQueue.head?.map fun x => byte1 x.attempts)
    ++ byte1 l.seqPage ++ byte1 l.seqShift ++ byte1 l.seqCourse ++ byte1 l.seqDemand

/-- The Drive group (R84). -/
def driveStatus (d : Drive) : List Byte := bytes2 d.lineVoltage ++ flag1 d.lowLine ++ bytes2 d.draw ++ byte1 d.currentTick

/-- The Conveyor group (R148). -/
def conveyorStatus (c : Conveyor) : List Byte :=
  byte1 c.state.code ++ bytes2 c.speedFraction ++ byte1 c.speed ++ bytes2 c.holdSeconds ++ optional 1 (c.holdPage.map byte1)

/-- The Pages group (R166). -/
def pagesStatus (b : Block) : List Byte :=
  byte1 b.pagesInUse ++ byte1 b.pages.retry.length ++ flag1 b.pager.elected ++ byte1 b.pager.radio.code ++ flag1 b.lamp

/-- The Port group (R170). -/
def portStatus (p : Port) : List Byte :=
  byte1 p.events.length ++ flag1 p.overflow ++ byte1 p.commandNumber ++ byte1 p.eventNumber

/-- The status record (R170). -/
def statusRecord (b : Block) : List Byte :=
  stationStatus b ++ shareStatus b.share ++ lineStatus b.line ++ driveStatus b.drive ++ bytes2 b.plan.powerFraction
    ++ flag1 b.coord.parity ++ bytes4 b.coord.heard.toNat ++ conveyorStatus b.conveyor ++ pagesStatus b ++ portStatus b.port

/-! ## READ TABLE (R171) -/

/-- A list whose length varies: its count in one byte, then its entries (log 30). -/
def listed {α : Type} (entry : α → List Byte) (xs : List α) : List Byte := byte1 xs.length ++ xs.flatMap entry

/-- A peer entry (R24, R32). -/
def peerRow (p : Peer) : List Byte :=
  byte1 p.id ++ byte1 p.kind.code ++ bytes2 p.signature.toNat ++ byte1 p.state.code ++ bytes2 p.floor ++ bytes2 p.want
    ++ byte1 p.cls ++ bytes2 p.applied ++ flag1 p.rising ++ bytes2 p.draw ++ bytes2 p.rated ++ byte1 p.lastSequence
    ++ bytes2 p.missed ++ byte1 p.age ++ flag1 (!p.fresh)
    ++ optional 3 (p.dish.map fun d => bytes2 d.cleanTally ++ byte1 d.conveyor.code)
    ++ optional 1 (p.base.map fun r => byte1 r.code)

/-- A course entry (R90, R119). -/
def courseRow (c : Course) : List Byte :=
  byte1 c.tag ++ byte1 c.version ++ bytes4 c.passTime ++ bytes2 c.leadMargin ++ flag1 c.lock ++ flag1 c.hold ++ flag1 c.passed
    ++ byte1 c.state.code ++ bytes4 c.participants.toNat ++ bytes4 c.readySet.toNat ++ flag1 c.allReady ++ flag1 c.lateDue

def editRow (e : Edit) : List Byte := byte1 e.profile ++ [e.mask] ++ byte1 e.sensor ++ bytes2 e.plates

/-- The urgency record (R102, R118). -/
def urgencyRow (u : Urgency) : List Byte :=
  optional 2 (u.setpoint.map bytes2) ++ bytes4 u.stageEstimate ++ bytes4 u.finishEstimate
    ++ optional 4 (u.finishStart.map bytes4Signed) ++ optional 4 (u.deadline.map bytes4Signed) ++ bytes4Signed u.slack
    ++ byte1 u.cls ++ flag1 u.plateTest

/-- A task entry with its urgency record (R93, R101, R118). -/
def taskRow (t : Task) : List Byte :=
  byte1 t.course ++ byte1 t.profile ++ optional 1 (t.resolved.map byte1) ++ [t.mask] ++ byte1 t.sensor
    ++ bytes2 t.platesRequired ++ bytes2 t.platesLoaded ++ byte1 t.state.code ++ byte1 t.stageIndex ++ bytes4 t.stageStart
    ++ bytes2 t.curtailed ++ byte1 t.fault.code ++ optional 5 (t.edit.map editRow) ++ urgencyRow t.urgency

/-- A stage of a profile entry (R87, R101); a HOLD shows 0 as its third field, as POST PROFILE gives it (R182; DESIGN
CHOICE, log 30: no rule says it of READ TABLE). -/
def stageRow (s : Stage) : List Byte := byte1 s.kind.code ++ bytes2 s.setpoint ++ bytes2 s.arg

/-- Profile entry `i` (R87, R101). -/
def profileRow (i : Nat) (b : Block) : List Byte :=
  match profileAt i b with
  | .free => byte1 0
  | .direct d => byte1 1 ++ listed stageRow d.stages ++ bytes2 d.ready ++ bytes2 d.band ++ byte1 (inUse i b)
  | .aliasTo j => byte1 2 ++ byte1 j

/-- A page entry (R151). -/
def pageRow (e : PageEntry) : List Byte :=
  causeBytes e.cause ++ byte1 e.generation ++ byte1 e.owner ++ byte1 e.level ++ byte1 (pageStateCode (some e.state))
    ++ byte1 e.priority ++ byte1 e.merges ++ bytes4 e.raisedAt ++ optional 4 (e.deadline.map bytes4) ++ flag1 e.oneShot
    ++ flag1 e.adopted ++ flag1 e.clearDue

/-- A waiting raise (R153). -/
def waitingRow (w : Waiting) : List Byte := causeBytes w.cause ++ byte1 w.priority ++ byte1 w.level ++ byte1 w.merges

/-- An outstanding SEND (R161). -/
def outstandingRow (r : SendRecord) : List Byte :=
  causeBytes r.cause ++ byte1 r.generation ++ byte1 r.level ++ byte1 r.priority ++ byte1 r.owner

/-- A rack of the tunnel queue (R133). -/
def rackRow (s : Settings) (r : Rack) : List Byte :=
  byte1 r.number ++ byte1 r.load.code ++ byte1 r.plates ++ byte1 r.position ++ byte1 (zoneOf s r.position).code
    ++ bytes2 r.dwell ++ flag1 r.sanitized ++ flag1 r.crowded ++ flag1 r.rewash

/-- The four tallies and the in-tunnel plates (R147, R148). -/
def tallyRow (c : Conveyor) : List Byte :=
  bytes4 c.loaded ++ bytes4 c.clean ++ bytes4 c.rewash ++ bytes4 c.removed ++ bytes2 c.inTunnel

/-- The Conveyor Tracker's record in the order of R132, the tunnel queue before the tallies (R148). The speed and a manual
advance's seconds left take one byte, the width of their ranges (DESIGN CHOICE, log 30: R182 also gives rates and
durations two). -/
def conveyorRow (s : Settings) (c : Conveyor) : List Byte :=
  byte1 c.state.code ++ flag1 c.runRequest ++ bytes2 c.speedFraction ++ byte1 c.speed ++ flag1 c.jammed ++ byte1 c.untracked
    ++ bytes2 c.rinseTemp ++ byte1 c.rinseStatus.code ++ bytes2 c.holdSeconds ++ optional 1 (c.holdPage.map byte1)
    ++ optional 1 (c.advance.map byte1) ++ optional 2 (c.pendingLoad.map fun x => byte1 x.1.code ++ byte1 x.2)
    ++ byte1 c.nextRack ++ listed (rackRow s) c.queue ++ tallyRow c

def wantRow (w : Want) : List Byte := bytes2 w.amount ++ byte1 w.kind.code ++ byte1 w.cls

/-- A channel record with its want record as set and, beside it, the amount the Load Share Unit reads (R66, R84); the
role of a channel not fitted is shown as 0, and the place of that amount is the model's (DESIGN CHOICE, log 30). -/
def channelRow (c : Channel) : List Byte :=
  flag1 c.fitted ++ bytes2 c.rated ++ byte1 (if c.fitted then c.role.code else 0) ++ byte1 c.sensor ++ byte1 c.health.code
    ++ bytes2 c.allotment ++ byte1 c.residue ++ byte1 c.onTicks ++ byte1 c.drivenTicks ++ byte1 c.lowCount
    ++ byte1 c.starved ++ bytes2 c.lastLoad ++ flag1 c.checked ++ wantRow c.want ++ bytes2 c.presented

def inputRow (t : TempInput) : List Byte := bytes2 t.reading ++ byte1 t.status.code

/-- The seven selectors of READ TABLE (R171, R181). -/
inductive Selector
  | peer | course | task | profile | page | rack | channel
  deriving DecidableEq, Repr

def Selector.ofCode : Nat → Option Selector
  | 0 => some .peer | 1 => some .course | 2 => some .task | 3 => some .profile | 4 => some .page | 5 => some .rack
  | 6 => some .channel | _ => none

/-- An entry that is free or in use: a presence byte and a record of fixed width. -/
def entryRow {α : Type} (width : Nat) (row : α → List Byte) (e : Option α) : List Byte := optional width (e.map row)

/-- Lengths of the fixed records. -/
def courseWidth : Nat := 22
def taskWidth : Nat := 52
def pageWidth : Nat := 20

/-- The content of a table (R32, R84, R101, R118, R131, R148, R166). -/
def tableRecord (s : Selector) (b : Block) : List Byte :=
  match s with
  | .peer => listed peerRow b.peers
  | .course => b.plan.courses.flatMap (entryRow courseWidth courseRow)
  | .task =>
    b.plan.tasks.flatMap (entryRow taskWidth taskRow)
      ++ (List.range Config.channels).flatMap fun k => optional 1 ((holder k b).map byte1)
  | .profile => (List.range Config.profileEntries).flatMap fun i => profileRow i b
  | .page =>
    b.pages.table.flatMap (entryRow pageWidth pageRow) ++ listed waitingRow b.pages.retry
      ++ listed causeBytes b.pager.sendList ++ optional 6 (b.pager.outstanding.map outstandingRow) ++ byte1 b.pager.radio.code
  | .rack => conveyorRow b.cfg b.conveyor
  | .channel => b.drive.channels.flatMap channelRow ++ b.drive.inputs.flatMap inputRow

/-! ## Events and counters (R173, R174) -/

/-- READ EVENT (R173). -/
def ownReadEvent (b : Block) : Answer :=
  match b.port.events with
  | [] => .ok (b, eventBytes none ++ byte1 0 ++ flag1 b.port.overflow)
  | e :: rest =>
    .ok (b.onPort fun p => { p with events := rest, overflow := p.overflow && !rest.isEmpty },
      eventBytes (some e) ++ byte1 rest.length ++ flag1 b.port.overflow)

/-- The sixteen counters, left column of R174 first (log 30). -/
def countersRow (c : Counters) : List Byte :=
  [c.framesSent, c.framesReceived, c.checkErrors, c.collisions, c.framesDropped, c.sequenceGaps, c.phantomExits,
    c.radioAcksMismatched, c.roundsCurtailed, c.roundsOvercommitted, c.roundsHeld, c.pagesRaised, c.pagesMerged,
    c.pagesDropped, c.pagesLost, c.escalations].flatMap bytes2

/-! ## Owners that read -/

def ownReadStatus (b : Block) : Answer := .ok (b, statusRecord b)

def ownReadTable (selector : Nat) (b : Block) : Answer :=
  match Selector.ofCode selector with
  | some s => .ok (b, tableRecord s b)
  | none => .error .badValue

def ownReadCounters (b : Block) : Answer := .ok (b, countersRow b.port.counters)

def ownClearCounters (b : Block) : Answer :=
  .ok (b.onPort fun p => { p with counters := {} }, countersRow b.port.counters)

/-! ## Staff calls (R165) -/

def staffCause (subject : Byte) : Cause := { kind := .staffCall, subject := subject.toNat }

def ownRaiseStaffCall (subject priority level : Byte) (b : Block) : Answer :=
  if within 1 priority.toNat 3 && within 0 level.toNat 2 then
    let raised := raiseWith (staffCause subject) priority.toNat level.toNat b
    .ok (raised.1, byte1 raised.2.code)
  else .error .badValue

def ownClearStaffCall (subject : Byte) (b : Block) : Answer :=
  match heldPage (staffCause subject) b with
  | none => .error .badRef
  | some e => if e.owner = b.id then .ok (resolve (staffCause subject) b, []) else .error .wrongState

/-! ## CLEAR FAULT (R81) -/

/-- A faulted channel returns to OK (R81). One that became OPEN in this same window and is mended in it goes on with
the on-period fixed at the window's start; R72 also says it stays off until the next one (DESIGN CHOICE, log 28). -/
def mendChannel (k : Nat) (c : Channel) (b : Block) : Block :=
  rinseHealthChanged c.role
    (resolved .elementFault (faultSubject b.id k)
      (offer (.channelHealth k .ok none)
        (setChannel k { c with health := .ok, lowCount := 0, starved := 0, lastLoad := c.rated } b)))

def ownClearFault (channel : Byte) (b : Block) : Answer :=
  let k := channel.toNat
  let c := channelAt k b
  if k ≤ 7 ∧ c.fitted then .ok (if c.healthy then b else mendChannel k c b, []) else .error .badValue

/-! ## The conveyor's commands (R143, R144, R145) -/

def ownRackLoaded (kind plates : Byte) (b : Block) : Answer :=
  match LoadKind.ofCode kind.toNat with
  | some load =>
    if plates.toNat ≤ 60 ∧ (plates.toNat = 0 ∨ load = .plates) then
      .ok (b.onConveyor fun c => { c with pendingLoad := some (load, plates.toNat) }, [])
    else .error .badValue
  | none => .error .badValue

/-- RACK REMOVED with a rack number (R143). -/
def removeNumbered (n : Nat) (b : Block) : Answer :=
  if b.conveyor.queue.any fun r => r.number = n then
    match b.conveyor.queue with
    | r :: rest => if r.number = n then .ok (removeHead r rest b, []) else .error .wrongState
    | [] => .error .badRef
  else .error .badRef

/-- RACK REMOVED with NONE (R143). -/
def removeUntracked (b : Block) : Answer :=
  if b.conveyor.untracked = 0 then .error .wrongState else .ok (deriveConveyor (dropUntracked b), [])

/-- RACK REMOVED (R143): the presence byte of its field (R182), then the rack number. A presence byte of neither code
is a field out of range (DESIGN CHOICE, log 19). -/
def ownRackRemoved (rack : RackField) (b : Block) : Answer :=
  if rack.presence = 0 then removeUntracked b
  else if rack.presence = 1 then removeNumbered rack.number.toNat b
  else .error .badValue

def ownManualAdvance (b : Block) : Answer :=
  if (b.conveyor.state = .stopped ∨ b.conveyor.state = .jammed ∨ b.conveyor.state.timedHold) ∧ b.conveyor.advance = none then
    .ok (b.onConveyor fun c => { c with advance := some 10 }, [])
  else .error .wrongState

/-- CONVEYOR START and CONVEYOR STOP (R145). -/
def ownRunRequest (run : Bool) (b : Block) : Answer :=
  .ok (deriveConveyor (b.onConveyor fun c => { c with runRequest := run }), [])

def ownResetTallies (b : Block) : Answer :=
  .ok (b.onConveyor fun c => { c with loaded := c.inTunnel, clean := 0, rewash := 0, removed := 0 }, [])

def ownPlanClear (b : Block) : Answer := .ok (planClear b, [])

/-! ## Settings and restart (R34, R175) -/

/-- WRITE SETTINGS (R38, R175): once accepted the port stops answering and the answer waits for the write's end. -/
def writeSettings (block : List Byte) (b : Block) : Block :=
  if b.portAnswers then
    let b := deliver b
    match gates (decide (block.length ≠ Config.blockBytes)) .atRest false (fun x => .ok (x, [])) b with
    | .error r => conclude 27 (.error r) b
    | .ok _ =>
      numbered8 (b.onStore fun s => { s with writing := some { block := block, number := b.port.commandNumber } })
  else b

/-- The write of the store ends (R175). -/
def writeDone (b : Block) : Block :=
  match b.store.writing with
  | some w =>
    answer { code := 27, number := w.number, refused := none, data := [] }
      (b.onStore fun _ => { block := w.block, writing := none })
  | none => b

/-- RESTART (R34, R175): the slot keeps its answer through the entry to INIT. -/
def restartPart (straps : Nat) (b : Block) : Block :=
  if b.portAnswers then
    let b := deliver b
    (enterInit .restart straps b).onPort fun p =>
      { p with slot := some { code := 29, number := b.port.commandNumber, refused := none, data := [] },
               delivered := b.port.delivered }
  else b

end Sys2Proof.Machine
end

