-- ==== Sys2Proof/Machine/Timed.lean ====
section
/-! DEFINITION. Meanings of the commands that power, the reset pin, timers and sensors give: starts, rounds, windows,
seconds, the conveyor's sensors. -/

namespace Sys2Proof.Machine

/-- A command acts on the part and leaves the queue alone; none of them stops the part. -/
def onBlock (f : Block → Block) (s : State) : Host.Outcome State Fault Refusal := .next { s with block := f s.block }

/-- Run a function of the block while the part is out of reset and works. -/
def whenRuns (f : Block → Block) (b : Block) : Block := if b.runs then f b else b

/-- Run a function of the block while the Conveyor Tracker works (R132). -/
def whenDish (f : Block → Block) (b : Block) : Block := if b.dishRuns then f b else b

/-- POWER_ON (R34, R35); the store's write, if any, is given up (R175). -/
def execPowerOn (straps : BitVec 5) (s : State) : Host.Outcome State Fault Refusal :=
  onBlock (enterInit .powerOn straps.toNat) s

/-- RESET_PIN_HELD (R34, R167). -/
def execResetPinHeld (s : State) : Host.Outcome State Fault Refusal :=
  onBlock holdReset s

/-- RESET_PIN_RELEASED (R34, R35). -/
def execResetPinReleased (straps : BitVec 5) (s : State) : Host.Outcome State Fault Refusal :=
  onBlock (releaseReset straps.toNat) s

/-- SETTINGS_CHECK (R35 step 2). -/
def execSettingsCheck (s : State) : Host.Outcome State Fault Refusal :=
  onBlock checkSettings s

/-- LOOPBACK_TEST_DONE (R35 step 3, R39). -/
def execLoopbackTestDone (passed : Bool) (inputs : List SensorInput) (s : State) : Host.Outcome State Fault Refusal :=
  onBlock (loopbackDone passed inputs) s

/-- ROUND (R9). -/
def execRound (s : State) : Host.Outcome State Fault Refusal :=
  onBlock runRound s

/-- DRIVE_TICK (R71, R73, R74). -/
def execDriveTick (milliVolts : Nat) (milliAmps : List Nat) (s : State) : Host.Outcome State Fault Refusal :=
  onBlock (tick milliVolts milliAmps) s

/-- BURST_WINDOW_START (R68). -/
def execBurstWindowStart (s : State) : Host.Outcome State Fault Refusal :=
  onBlock windowStart s

/-- SECOND (R103). -/
def execSecond (inputs : List SensorInput) (s : State) : Host.Outcome State Fault Refusal :=
  onBlock (runSecond inputs) s

/-- HOLD_TIMEOUT (R146). -/
def execHoldTimeout (s : State) : Host.Outcome State Fault Refusal :=
  onBlock (whenDish timeoutHold) s

/-- TASK_EDIT_APPLY (R96). -/
def execTaskEditApply (task : Nat) (s : State) : Host.Outcome State Fault Refusal :=
  onBlock (whenRuns (editApplies task)) s

/-- ACK_TIMER_EXPIRY (R157). -/
def execAckTimerExpiry (entry : Nat) (s : State) : Host.Outcome State Fault Refusal :=
  onBlock (whenRuns (expireAck entry)) s

/-- CLEAR_RETRY (R154). -/
def execClearRetry (entry : Nat) (s : State) : Host.Outcome State Fault Refusal :=
  onBlock (whenRuns (retryClear entry)) s

/-- MANUAL_ADVANCE_TIMEOUT (R144). -/
def execManualAdvanceTimeout (s : State) : Host.Outcome State Fault Refusal :=
  onBlock (whenDish timeoutAdvance) s

/-- DWELL_TENTH (R140). -/
def execDwellTenth (s : State) : Host.Outcome State Fault Refusal :=
  onBlock (whenDish tenth) s

/-- ENCODER_PULSE (R139, R144). -/
def execEncoderPulse (s : State) : Host.Outcome State Fault Refusal :=
  onBlock (whenDish pulse) s

/-- ENTRY_SENSOR (R141). -/
def execEntrySensor (s : State) : Host.Outcome State Fault Refusal :=
  onBlock (whenDish rackEnters) s

/-- EXIT_SENSOR (R142). -/
def execExitSensor (s : State) : Host.Outcome State Fault Refusal :=
  onBlock (whenDish rackLeaves) s

end Sys2Proof.Machine
end

