-- ==== Sys2Proof/Machine/Frames.lean ====
section
/-! DEFINITION. Meanings of the service line's commands (chapter 3). -/

namespace Sys2Proof.Machine

/-- GAP_END (R50). -/
def execGapEnd (s : State) : Host.Outcome State Fault Refusal :=
  onBlock beginCycle s

/-- SLOT_START (R51, R52). -/
def execSlotStart (lineAtRest : Bool) (s : State) : Host.Outcome State Fault Refusal :=
  onBlock (slotStart lineAtRest) s

/-- LINE_ACTIVITY_SEEN (R50, R52). -/
def execLineActivitySeen (s : State) : Host.Outcome State Fault Refusal :=
  onBlock activitySeen s

/-- LINE_SEEN_ACTIVE_WHILE_SEEKING (R50): nothing is received; the count of idle bit times that starts again is
the line's own, whose end comes as GAP_END (log 25). -/
def execLineSeenActiveWhileSeeking (s : State) : Host.Outcome State Fault Refusal :=
  onBlock id s

/-- TRANSMISSION_COMPLETE (R53). -/
def execTransmissionComplete (s : State) : Host.Outcome State Fault Refusal :=
  onBlock complete s

/-- COLLISION (R54). -/
def execCollision (s : State) : Host.Outcome State Fault Refusal :=
  onBlock collide s

/-- CORRUPT_FRAME (R60): its six grounds have one effect. -/
def execCorruptFrame (_cause : CorruptCause) (s : State) : Host.Outcome State Fault Refusal :=
  onBlock corrupt s

/-- UNKNOWN_FRAME (R61): the kind byte is read as R177 codes it. -/
def execUnknownFrame (source kind sequence : Byte) (body : List Byte) (s : State) : Host.Outcome State Fault Refusal :=
  onBlock (receive source sequence (FrameForm.ofByte kind) body) s

/-- DEMAND_FRAME (R25, R26, R62, R63). -/
def execDemandFrame (source sequence : Byte) (body : List Byte) (s : State) : Host.Outcome State Fault Refusal :=
  onBlock (receive source sequence (some .demand) body) s

/-- COURSE_FRAME (R123). -/
def execCourseFrame (source sequence : Byte) (body : List Byte) (s : State) : Host.Outcome State Fault Refusal :=
  onBlock (receive source sequence (some .course) body) s

/-- SHIFT_FRAME (R127). -/
def execShiftFrame (source sequence : Byte) (body : List Byte) (s : State) : Host.Outcome State Fault Refusal :=
  onBlock (receive source sequence (some .shift) body) s

/-- PAGE_RAISE_FRAME (R155). -/
def execPageRaiseFrame (source sequence : Byte) (body : List Byte) (s : State) : Host.Outcome State Fault Refusal :=
  onBlock (receive source sequence (some .raise) body) s

/-- PAGE_ACK_FRAME (R156). -/
def execPageAckFrame (source sequence : Byte) (body : List Byte) (s : State) : Host.Outcome State Fault Refusal :=
  onBlock (receive source sequence (some .ack) body) s

/-- PAGE_CLEAR_FRAME (R156). -/
def execPageClearFrame (source sequence : Byte) (body : List Byte) (s : State) : Host.Outcome State Fault Refusal :=
  onBlock (receive source sequence (some .clear) body) s

end Sys2Proof.Machine
end

