-- ==== Sys2Proof/Machine/HostCommands.lean ====
section
/-! DEFINITION. Meanings of the appliance port's commands (chapter 10). -/

namespace Sys2Proof.Machine

/-- NONE (R168). -/
def execNoneTransfer (s : State) : Host.Outcome State Fault Refusal :=
  onBlock emptyTransfer s

/-- TRANSFER_CUT_SHORT (R168): nothing is taken, the slot keeps its response. -/
def execTransferCutShort (s : State) : Host.Outcome State Fault Refusal :=
  onBlock id s

/-- UNKNOWN_COMMAND (R169 gate 1). -/
def execUnknownCommand (code : Byte) (s : State) : Host.Outcome State Fault Refusal :=
  onBlock (transfer code.toNat true .always false fun b => .ok (b, [])) s

/-- READ_STATUS (R170). -/
def execReadStatus (s : State) : Host.Outcome State Fault Refusal :=
  onBlock (transfer 1 false .always false ownReadStatus) s

/-- READ_EVENT (R173). -/
def execReadEvent (s : State) : Host.Outcome State Fault Refusal :=
  onBlock (transfer 2 false .working false ownReadEvent) s

/-- READ_TABLE (R171); an unknown selector fails gate 1. -/
def execReadTable (selector : Byte) (s : State) : Host.Outcome State Fault Refusal :=
  onBlock (transfer 3 (Selector.ofCode selector.toNat).isNone .working false (ownReadTable selector.toNat)) s

/-- READ_COUNTERS (R174). -/
def execReadCounters (s : State) : Host.Outcome State Fault Refusal :=
  onBlock (transfer 4 false .working false ownReadCounters) s

/-- READ_AND_CLEAR_COUNTERS (R174). -/
def execReadAndClearCounters (s : State) : Host.Outcome State Fault Refusal :=
  onBlock (transfer 5 false .working false ownClearCounters) s

/-- POST_PROFILE (R88). -/
def execPostProfile (index : Byte) (content : ProfileFields) (s : State) : Host.Outcome State Fault Refusal :=
  onBlock (transfer 6 false .working false (ownPostProfile index content)) s

/-- DELETE_PROFILE (R88). -/
def execDeleteProfile (index : Byte) (s : State) : Host.Outcome State Fault Refusal :=
  onBlock (transfer 7 false .working false (ownDeleteProfile index)) s

/-- POST_COURSE (R90). -/
def execPostCourse (tag version : Byte) (offset : Word16) (lead : Option Word16) (s : State) : Host.Outcome State Fault Refusal :=
  onBlock (transfer 8 false .working false (ownPostCourse tag version offset lead)) s

/-- DELETE_COURSE (R92). -/
def execDeleteCourse (tag : Byte) (s : State) : Host.Outcome State Fault Refusal :=
  onBlock (transfer 9 false .working false (ownDeleteCourse tag)) s

/-- LOCK_COURSE (R91). -/
def execLockCourse (tag : Byte) (s : State) : Host.Outcome State Fault Refusal :=
  onBlock (transfer 10 false .working false (ownSetLock tag true)) s

/-- UNLOCK_COURSE (R91). -/
def execUnlockCourse (tag : Byte) (s : State) : Host.Outcome State Fault Refusal :=
  onBlock (transfer 11 false .working false (ownSetLock tag false)) s

/-- SHIFT_COURSE (R126). -/
def execShiftCourse (tag : Byte) (offset : Word16) (hold : Byte) (s : State) : Host.Outcome State Fault Refusal :=
  onBlock (transfer 12 false .working false (ownShiftCourse tag offset hold)) s

/-- MARK_PASSED (R98). -/
def execMarkPassed (tag : Byte) (s : State) : Host.Outcome State Fault Refusal :=
  onBlock (transfer 13 false .working false (ownMarkPassed tag)) s

/-- POST_TASK (R94). -/
def execPostTask (tag profile : Byte) (mask : Mask8) (sensor : Byte) (plates : Word16) (s : State) : Host.Outcome State Fault Refusal :=
  onBlock (transfer 14 false .working false (ownPostTask tag profile mask sensor plates)) s

/-- EDIT_TASK (R95). -/
def execEditTask (index profile : Byte) (mask : Mask8) (sensor : Byte) (plates : Word16) (s : State) : Host.Outcome State Fault Refusal :=
  onBlock (transfer 15 false .working false (ownEditTask index profile mask sensor plates)) s

/-- CANCEL_TASK (R97). -/
def execCancelTask (index : Byte) (s : State) : Host.Outcome State Fault Refusal :=
  onBlock (transfer 16 false .working false (ownCancelTask index)) s

/-- SET_PLATES (R99). -/
def execSetPlates (index : Byte) (loaded : Word16) (s : State) : Host.Outcome State Fault Refusal :=
  onBlock (transfer 17 false .working false (ownSetPlates index loaded)) s

/-- RAISE_STAFF_CALL (R165). -/
def execRaiseStaffCall (subject priority level : Byte) (s : State) : Host.Outcome State Fault Refusal :=
  onBlock (transfer 18 false .working false (ownRaiseStaffCall subject priority level)) s

/-- CLEAR_STAFF_CALL (R165). -/
def execClearStaffCall (subject : Byte) (s : State) : Host.Outcome State Fault Refusal :=
  onBlock (transfer 19 false .working false (ownClearStaffCall subject)) s

/-- CLEAR_FAULT (R81). -/
def execClearFault (channel : Byte) (s : State) : Host.Outcome State Fault Refusal :=
  onBlock (transfer 20 false .working false (ownClearFault channel)) s

/-- RACK_LOADED (R143). -/
def execRackLoaded (kind plates : Byte) (s : State) : Host.Outcome State Fault Refusal :=
  onBlock (transfer 21 false .working true (ownRackLoaded kind plates)) s

/-- RACK_REMOVED (R143). -/
def execRackRemoved (rack : RackField) (s : State) : Host.Outcome State Fault Refusal :=
  onBlock (transfer 22 false .working true (ownRackRemoved rack)) s

/-- MANUAL_ADVANCE (R144). -/
def execManualAdvance (s : State) : Host.Outcome State Fault Refusal :=
  onBlock (transfer 23 false .working true ownManualAdvance) s

/-- CONVEYOR_START (R145). -/
def execConveyorStart (s : State) : Host.Outcome State Fault Refusal :=
  onBlock (transfer 24 false .working true (ownRunRequest true)) s

/-- CONVEYOR_STOP (R145). -/
def execConveyorStop (s : State) : Host.Outcome State Fault Refusal :=
  onBlock (transfer 25 false .working true (ownRunRequest false)) s

/-- RESET_TALLIES (R145, R147). -/
def execResetTallies (s : State) : Host.Outcome State Fault Refusal :=
  onBlock (transfer 26 false .working true ownResetTallies) s

/-- WRITE_SETTINGS (R38, R175). -/
def execWriteSettings (block : List Byte) (s : State) : Host.Outcome State Fault Refusal :=
  onBlock (writeSettings block) s

/-- SETTINGS_WRITE_DONE (R175). -/
def execSettingsWriteDone (s : State) : Host.Outcome State Fault Refusal :=
  onBlock writeDone s

/-- PLAN_CLEAR (R100). -/
def execPlanClear (s : State) : Host.Outcome State Fault Refusal :=
  onBlock (transfer 28 false .working false ownPlanClear) s

/-- RESTART (R34, R175). -/
def execRestart (straps : BitVec 5) (s : State) : Host.Outcome State Fault Refusal :=
  onBlock (restartPart straps.toNat) s

end Sys2Proof.Machine
end

