-- ==== Sys2Proof/Machine/Radio.lean ====
section
/-! DEFINITION. Meanings of the pager port's commands (R160 to R162, R184). -/

namespace Sys2Proof.Machine

/-- RADIO_STATUS_RECORD (R160). -/
def execRadioStatusRecord (ready : Bool) (s : State) : Host.Outcome State Fault Refusal :=
  onBlock (radioStatus (if ready then .up else .down)) s

/-- RADIO_STATUS_TIMEOUT (R160). -/
def execRadioStatusTimeout (s : State) : Host.Outcome State Fault Refusal :=
  onBlock (radioStatus .down) s

/-- SEND_RECORD (R161). -/
def execSendRecord (s : State) : Host.Outcome State Fault Refusal :=
  onBlock sendHead s

/-- TAKEN_RECORD (R161, R184). -/
def execTakenRecord (kind subject generation : Byte) (s : State) : Host.Outcome State Fault Refusal :=
  onBlock (taken (causeOf kind subject) generation.toNat) s

/-- SEND_TIMEOUT (R160, R161). -/
def execSendTimeout (s : State) : Host.Outcome State Fault Refusal :=
  onBlock sendExpired s

/-- RADIO_ACK_RECORD (R162). -/
def execRadioAckRecord (kind subject generation : Byte) (s : State) : Host.Outcome State Fault Refusal :=
  onBlock (radioAcks (causeOf kind subject) generation.toNat) s

/-- BAD_RADIO_RECORD (R184): discarded, no record at all. -/
def execBadRadioRecord (s : State) : Host.Outcome State Fault Refusal :=
  onBlock id s

end Sys2Proof.Machine
end

