-- ==== Sys2Proof/Machine/Dispatch.lean ====
section
/-! DEFINITION. One arm for each command. -/

namespace Sys2Proof.Machine

def exec (i : Instr) (s : State) : Host.Outcome State Fault Refusal :=
  match i with
  | .powerOn straps => Sys2Proof.Machine.execPowerOn straps s
  | .resetPinHeld => Sys2Proof.Machine.execResetPinHeld s
  | .resetPinReleased straps => Sys2Proof.Machine.execResetPinReleased straps s
  | .settingsCheck => Sys2Proof.Machine.execSettingsCheck s
  | .loopbackTestDone passed inputs => Sys2Proof.Machine.execLoopbackTestDone passed inputs s
  | .round => Sys2Proof.Machine.execRound s
  | .driveTick milliVolts milliAmps => Sys2Proof.Machine.execDriveTick milliVolts milliAmps s
  | .burstWindowStart => Sys2Proof.Machine.execBurstWindowStart s
  | .second inputs => Sys2Proof.Machine.execSecond inputs s
  | .holdTimeout => Sys2Proof.Machine.execHoldTimeout s
  | .taskEditApply task => Sys2Proof.Machine.execTaskEditApply task s
  | .ackTimerExpiry entry => Sys2Proof.Machine.execAckTimerExpiry entry s
  | .clearRetry entry => Sys2Proof.Machine.execClearRetry entry s
  | .manualAdvanceTimeout => Sys2Proof.Machine.execManualAdvanceTimeout s
  | .dwellTenth => Sys2Proof.Machine.execDwellTenth s
  | .encoderPulse => Sys2Proof.Machine.execEncoderPulse s
  | .entrySensor => Sys2Proof.Machine.execEntrySensor s
  | .exitSensor => Sys2Proof.Machine.execExitSensor s
  | .radioStatusRecord ready => Sys2Proof.Machine.execRadioStatusRecord ready s
  | .radioStatusTimeout => Sys2Proof.Machine.execRadioStatusTimeout s
  | .sendRecord => Sys2Proof.Machine.execSendRecord s
  | .takenRecord kind subject generation => Sys2Proof.Machine.execTakenRecord kind subject generation s
  | .sendTimeout => Sys2Proof.Machine.execSendTimeout s
  | .radioAckRecord kind subject generation => Sys2Proof.Machine.execRadioAckRecord kind subject generation s
  | .badRadioRecord => Sys2Proof.Machine.execBadRadioRecord s
  | .gapEnd => Sys2Proof.Machine.execGapEnd s
  | .slotStart lineAtRest => Sys2Proof.Machine.execSlotStart lineAtRest s
  | .lineActivitySeen => Sys2Proof.Machine.execLineActivitySeen s
  | .transmissionComplete => Sys2Proof.Machine.execTransmissionComplete s
  | .collision => Sys2Proof.Machine.execCollision s
  | .corruptFrame cause => Sys2Proof.Machine.execCorruptFrame cause s
  | .unknownFrame source kind sequence body => Sys2Proof.Machine.execUnknownFrame source kind sequence body s
  | .demandFrame source sequence body => Sys2Proof.Machine.execDemandFrame source sequence body s
  | .courseFrame source sequence body => Sys2Proof.Machine.execCourseFrame source sequence body s
  | .shiftFrame source sequence body => Sys2Proof.Machine.execShiftFrame source sequence body s
  | .pageRaiseFrame source sequence body => Sys2Proof.Machine.execPageRaiseFrame source sequence body s
  | .pageAckFrame source sequence body => Sys2Proof.Machine.execPageAckFrame source sequence body s
  | .pageClearFrame source sequence body => Sys2Proof.Machine.execPageClearFrame source sequence body s
  | .noneTransfer => Sys2Proof.Machine.execNoneTransfer s
  | .transferCutShort => Sys2Proof.Machine.execTransferCutShort s
  | .unknownCommand code => Sys2Proof.Machine.execUnknownCommand code s
  | .readStatus => Sys2Proof.Machine.execReadStatus s
  | .readEvent => Sys2Proof.Machine.execReadEvent s
  | .readTable selector => Sys2Proof.Machine.execReadTable selector s
  | .readCounters => Sys2Proof.Machine.execReadCounters s
  | .readAndClearCounters => Sys2Proof.Machine.execReadAndClearCounters s
  | .postProfile index content => Sys2Proof.Machine.execPostProfile index content s
  | .deleteProfile index => Sys2Proof.Machine.execDeleteProfile index s
  | .postCourse tag version passOffset leadMargin => Sys2Proof.Machine.execPostCourse tag version passOffset leadMargin s
  | .deleteCourse tag => Sys2Proof.Machine.execDeleteCourse tag s
  | .lockCourse tag => Sys2Proof.Machine.execLockCourse tag s
  | .unlockCourse tag => Sys2Proof.Machine.execUnlockCourse tag s
  | .shiftCourse tag passOffset hold => Sys2Proof.Machine.execShiftCourse tag passOffset hold s
  | .markPassed tag => Sys2Proof.Machine.execMarkPassed tag s
  | .postTask tag profile mask sensor plates => Sys2Proof.Machine.execPostTask tag profile mask sensor plates s
  | .editTask index profile mask sensor plates => Sys2Proof.Machine.execEditTask index profile mask sensor plates s
  | .cancelTask index => Sys2Proof.Machine.execCancelTask index s
  | .setPlates index loaded => Sys2Proof.Machine.execSetPlates index loaded s
  | .raiseStaffCall subject priority level => Sys2Proof.Machine.execRaiseStaffCall subject priority level s
  | .clearStaffCall subject => Sys2Proof.Machine.execClearStaffCall subject s
  | .clearFault channel => Sys2Proof.Machine.execClearFault channel s
  | .rackLoaded kind plates => Sys2Proof.Machine.execRackLoaded kind plates s
  | .rackRemoved rack => Sys2Proof.Machine.execRackRemoved rack s
  | .manualAdvance => Sys2Proof.Machine.execManualAdvance s
  | .conveyorStart => Sys2Proof.Machine.execConveyorStart s
  | .conveyorStop => Sys2Proof.Machine.execConveyorStop s
  | .resetTallies => Sys2Proof.Machine.execResetTallies s
  | .writeSettings block => Sys2Proof.Machine.execWriteSettings block s
  | .settingsWriteDone => Sys2Proof.Machine.execSettingsWriteDone s
  | .planClear => Sys2Proof.Machine.execPlanClear s
  | .restart straps => Sys2Proof.Machine.execRestart straps s
  | .lineSeenActiveWhileSeeking => Sys2Proof.Machine.execLineSeenActiveWhileSeeking s

end Sys2Proof.Machine
end

