-- ==== Sys2Proof/Safety.lean ====
section
/-! DEFINITION. What counts as a safe part: the bounds and relations the manual gives the state, as checks that can be
computed. Each is kept by every command from every state that has it. -/

namespace Sys2Proof.Machine

/-- The queues stay within their places (R56, R57, R133, R149, R172). -/
def queuesBounded (b : Block) : Bool :=
  decide (b.port.events.length ≤ Config.eventPlaces) && decide (b.line.shiftQueue.length ≤ Config.shiftPlaces)
    && decide (b.line.pageQueue.length ≤ Config.pagePlaces) && decide (b.pages.retry.length ≤ Config.retryPlaces)
    && decide (b.conveyor.queue.length ≤ Config.tunnelPlaces)

/-- The tables have the manual's number of entries (R66, R82, R85, R149). -/
def tablesSized (b : Block) : Bool :=
  decide (b.plan.profiles.length = Config.profileEntries) && decide (b.plan.courses.length = Config.courseEntries)
    && decide (b.plan.tasks.length = Config.taskEntries) && decide (b.pages.table.length = Config.pageEntries)
    && decide (b.drive.channels.length = Config.channels) && decide (b.drive.inputs.length = Config.channels)

/-- The bound of R17 on the applied grant, state by state. -/
def grantWithin (b : Block) : Bool :=
  match b.station.state with
  | .initial | .halted => decide (b.share.applied = 0)
  | .listen | .isolated | .localOnly => decide (b.share.applied ≤ b.cfg.safeAllowance)
  | .active => decide (b.share.applied ≤ b.cfg.ratedLoad) && decide (b.share.applied ≤ b.share.share)

/-- The generation memory keeps its canonical form. -/
def memoryCanonical (b : Block) : Bool := memoryWf b.pages.memory

/-- Loaded plates equal clean plus rewash plus removed plus the plates in the tunnel, modulo 2^32 (R147). -/
def talliesBalance (c : Conveyor) : Bool :=
  decide (c.loaded % Config.tallyModulus = (c.clean + c.rewash + c.removed + c.inTunnel) % Config.tallyModulus)

/-- The channels task `t` holds; none for a free entry. -/
def holdsAt (t : Nat) (b : Block) : Mask8 := (taskAt t b).elim 0 Task.holds

/-- No channel is held by two tasks (R93). -/
def channelsOwned (b : Block) : Bool :=
  (List.range Config.taskEntries).all fun t => (List.range Config.taskEntries).all fun u =>
    decide (t = u) || decide (holdsAt t b &&& holdsAt u b = 0)

/-- Peer entries stand in strictly ascending id. -/
def idsRise : List Peer → Bool
  | [] => true
  | [_] => true
  | p :: q :: rest => decide (p.id < q.id) && idsRise (q :: rest)

/-- The Peer Table holds each id at most once, in ascending order, ids 0 to 31, and never this station's (R24). -/
def peersOrdered (b : Block) : Bool :=
  idsRise b.peers && b.peers.all fun p => decide (p.id ≤ 31) && decide (p.id ≠ b.id)

/-- At most one page entry for each cause, no cause both held and waiting nor waiting twice (R149), and no raise waiting while
an entry is free (R153). -/
def pagesDistinct (b : Block) : Bool :=
  decide (heldCauses b).Nodup && decide (b.pages.retry.map fun w => w.cause).Nodup
    && (b.pages.retry.all fun w => decide (w.cause ∉ heldCauses b)) && (b.pages.retry.isEmpty || (freePage b).isNone)

/-! ## Words the statements use -/

/-- The twelve records of the part. -/
inductive Part
  | station | share | peers | line | drive | plan | coord | conveyor | pages | pager | port | store
  deriving DecidableEq, Repr

/-- One record stands as it was. -/
def Part.same (b b' : Block) : Part → Prop
  | .station => b'.station = b.station
  | .share => b'.share = b.share
  | .peers => b'.peers = b.peers
  | .line => b'.line = b.line
  | .drive => b'.drive = b.drive
  | .plan => b'.plan = b.plan
  | .coord => b'.coord = b.coord
  | .conveyor => b'.conveyor = b.conveyor
  | .pages => b'.pages = b.pages
  | .pager => b'.pager = b.pager
  | .port => b'.port = b.port
  | .store => b'.store = b.store

/-- Every record but those named stands as it was: the frame of a command. -/
def changesOnly (parts : List Part) (b b' : Block) : Prop := ∀ p : Part, p ∉ parts → p.same b b'

/-- `exec` answers a next state for `c` from `s`: the waiting commands stand, and the part after it has `P`. -/
def completes (c : Instr) (s : State) (P : Block → Prop) : Prop :=
  ∃ t : State, exec c s = .next t ∧ t.pending = s.pending ∧ P t.block

/-- The port after a complete transfer whose command was answered at once, its event queue and counters apart:
the old response delivered, the answer in the slot with the command number, the number one on (R168, R169). -/
def answeredWith (code : Nat) (refused : Option Reason) (data : List Byte) (b b' : Block) : Prop :=
  b'.port.slot = some { code := code, number := b.port.commandNumber, refused := refused, data := data } ∧
    b'.port.delivered = b.port.slot ∧ b'.port.commandNumber = next8 b.port.commandNumber

/-- The port's events and counters stand. -/
def eventsStand (b b' : Block) : Prop :=
  b'.port.events = b.port.events ∧ b'.port.overflow = b.port.overflow ∧ b'.port.eventNumber = b.port.eventNumber ∧
    b'.port.counters = b.port.counters

/-- A new start (R34): every record at its reset value, the store's block as it stood. -/
def startsFresh (reason : EntryReason) (straps : BitVec 5) (b b' : Block) : Prop :=
  b'.station = { reason := reason, strapId := straps.toNat, resetHeld := b'.station.resetHeld } ∧ b'.share = {} ∧
    b'.peers = [] ∧ b'.line = {} ∧ b'.drive = {} ∧ b'.plan = {} ∧ b'.coord = {} ∧ b'.conveyor = {} ∧ b'.pages = {} ∧
    b'.pager = {} ∧ b'.store = { block := b.store.block }

end Sys2Proof.Machine
end

