-- ==== Sys2Proof/Certificates/Slice0/Obligations.lean ====
section
/-! DEFINITION. The statements for the provers. -/

open Sys2Proof Sys2Proof.Machine

/-! ## The step -/

/-- One step takes the command at the front of the queue and runs it with the queue's rest. The queue is the model's
own (log 4). -/
def Obligations.StepTakesFrontCommand : Prop :=
  ∀ (c : Instr) (b : Block) (rest : List Instr),
    step { block := b, pending := c :: rest } = exec c { block := b, pending := rest }

/-- A record from the radio that is discarded (R184), a transfer cut short (R168) and activity seen in SEEKING leave the part
as it stands. In SEEKING R50 has the activity restart the count of idle bit times: the model keeps no such count, the end of
its 16 being a command of its own, so that this activity changes nothing is the model's choice (DESIGN CHOICE, log 25). -/
def Obligations.DiscardedInputsChangeNothing : Prop :=
  ∀ s : State, exec .badRadioRecord s = .next s ∧ exec .transferCutShort s = .next s ∧
    exec .lineSeenActiveWhileSeeking s = .next s

/-- The command offered an event of this body at a second (R172): it stands among those that joined the queue, or the queue
was full and overflow is set. -/
def offeredAt (second : Nat) (body : EventBody) (s b : Block) : Prop :=
  (∃ x ∈ b.port.events.drop s.port.events.length, x.body = body ∧ x.second = second) ∨
    (32 ≤ b.port.events.length ∧ b.port.overflow = true)

/-- The command offered an event of this body at the second it leaves (R172). -/
def offered (body : EventBody) (s b : Block) : Prop := offeredAt b.station.clock body s b

/-- PAGE_CHANGE of an entry made, replaced or changed, with the entry as it then stands (R151). -/
def pageChanged (e : PageEntry) (s b : Block) : Prop :=
  offered (.pageChange e.cause e.generation e.owner e.level (some e.state)) s b

/-- PAGE_CHANGE of an entry removed (R151). -/
def pageRemoved (e : PageEntry) (s b : Block) : Prop := offered (.pageChange e.cause e.generation e.owner e.level none) s b

/-- A command of the host is refused with a reason, and nothing changes but what the port shows of it (R86, R169). -/
def refusedWith (code : Nat) (why : Reason) (s b : Block) : Prop :=
  answeredWith code (some why) [] s b ∧ eventsStand s b ∧ changesOnly [.port] s b

/-- Checks made in order give the reason of the first that fails, and none where all pass (R86). -/
def firstReason : List (Prop × Reason) → Option Reason → Prop
  | [], why => why = none
  | (fails, reason) :: rest, why => (fails ∧ why = some reason) ∨ (¬ fails ∧ firstReason rest why)

/-- A command whose checks give `why` is refused with it, or accepted. -/
def answers (code : Nat) (why : Option Reason) (s b : Block) (accepted : Prop) : Prop :=
  (∀ reason, why = some reason → refusedWith code reason s b) ∧ (why = none → accepted)

/-- The command raised the cause here (R152, R153): the page table holds it or it waits, or the raise was lost with a
PAGE_LOST event. -/
def raiseMade (c : Cause) (s b : Block) : Prop := causeHeld c b = true ∨ offered (.pageLost c) s b

/-- The CLEAR of entry `i` was queued and the entry removed with its PAGE_CHANGE, at the level it then had (what is due of
the second that ends may come before), its place free or taken by another raising; or the full PAGE queue refused it and the
entry is clear due (R151, R154). -/
def clearTaken (i : Nat) (e : PageEntry) (s b : Block) : Prop :=
  (clearFrame e.cause e.generation ∈ b.line.pageQueue ∧
      (∃ level second, e.level ≤ level ∧ (second = s.station.clock ∨ second = b.station.clock) ∧
        offeredAt second (.pageChange e.cause e.generation e.owner level none) s b) ∧
      ∀ x, pageAt i b = some x → x.cause = e.cause → x.generation ≠ e.generation) ∨
    (8 ≤ b.line.pageQueue.length ∧ ∃ x, pageAt i b = some x ∧ x.cause = e.cause ∧ x.clearDue = true)

/-- A command reported a cause resolved (R154): where this station owned its page, and none of the cause waited, its CLEAR
was taken. LOCAL queues nothing and is left to other statements. -/
def resolveMade (c : Cause) (s b : Block) : Prop :=
  ∀ i e, locatePage c s = some (i, e) → e.owner = s.station.strapId → s.lineTakes = true → isWaiting c s = false →
    memoryCanonical s = true → clearTaken i e s b

/-- R136's table, line by line: a rack is in FINAL from the larger of b1 and b2 up to b3 (R133), the rinse is hot while its
status is OK and its temperature at least the sanitizing minimum (R134). -/
def conveyorTable (b : Block) : ConveyorState :=
  let c := b.conveyor
  let cold := c.rinseStatus ≠ .ok ∨ c.rinseTemp < b.cfg.sanitizingMinimum
  let inFinal := ∃ r ∈ c.queue, b.cfg.b1 ≤ r.position ∧ b.cfg.b2 ≤ r.position ∧ r.position < b.cfg.b3
  if 0 < c.untracked then .entryFault
  else if c.jammed = true then .jammed
  else if c.runRequest = false then .stopped
  else if cold ∧ (inFinal ∨ b.cfg.vMin ≤ c.speed) then .tempHold
  else if ∃ r ∈ c.queue, r.position + 1 = b.cfg.b3 ∧ r.sanitized = false then .dwellHold
  else if c.speed < b.cfg.vMin then .powerHold
  else if c.speed < b.cfg.vMax then .slowed
  else .running

/-- R135's speed fraction, over the fitted RINSE channels of a window just opened. -/
def rinseFraction (b : Block) : Nat :=
  let rinse := b.drive.channels.filter fun x => x.fitted && decide (x.role = .rinse)
  min 1000 (1000 * ((rinse.map fun x => if x.healthy then x.allotment else 0).sum) / (rinse.map Channel.rated).sum)

/-- A manual advance is superseded where the conveyor state becomes RUNNING, SLOWED or ENTRY_FAULT, and goes on otherwise
(R141, R144). -/
def advanceFollows (s b : Block) : Prop :=
  if b.conveyor.state ≠ s.conveyor.state ∧
      (b.conveyor.state = .running ∨ b.conveyor.state = .slowed ∨ b.conveyor.state = .entryFault) then
    b.conveyor.advance = none ∧ (s.conveyor.advance ≠ none → offered (.advanceDone .superseded) s b)
  else b.conveyor.advance = s.conveyor.advance

/-! ## Outputs -/

/-- The page lamp is lit exactly in the working states, out of reset, while a page that is not clear due is RAISED at level
1 or 2, and in ISOLATED and LOCAL while any page that is not clear due stands (R163). The interrupt stands while the event
queue holds a record, and not while the reset pin is held (R167, R172). The motor of a DISH station runs at v_min during a
manual advance, else at the speed in RUNNING and SLOWED, and is off otherwise (R137, R144). -/
def Obligations.OutputsFollowTheState : Prop :=
  ∀ b : Block,
    (b.lamp = true ↔ b.station.resetHeld = false ∧ b.station.state ≠ .initial ∧ b.station.state ≠ .halted ∧
      ∃ i e, pageAt i b = some e ∧ e.clearDue = false ∧
        ((e.state = .raised ∧ 1 ≤ e.level) ∨ b.station.state = .isolated ∨ b.station.state = .localOnly)) ∧
    (b.interrupt = true ↔ b.station.resetHeld = false ∧ b.port.events ≠ []) ∧
    b.motor =
      (if b.station.resetHeld = false ∧ b.station.state ≠ .initial ∧ b.station.state ≠ .halted ∧ b.cfg.kind = .dish then
        if b.conveyor.advance ≠ none then b.cfg.vMin
        else if b.conveyor.state = .running ∨ b.conveyor.state = .slowed then b.conveyor.speed
        else 0
      else 0)

/-! ## Starts (R34, R35) -/

/-- Power-on, the release of the reset pin and RESTART give every record its reset value, in INIT with the cause's reason
and the strap id of the pins; the settings store keeps its block (R33, R34). RESTART, while the port answers, keeps its
ACCEPTED answer in the slot with the number it was given (R175); the others leave the port empty. The model's own choices
here: power-on leaves the reset pin as it is (log 7), the channels are unfitted and rated 0 until the settings are read
(DESIGN CHOICE, log 44), what was delivered before RESTART's answer is kept as for every command (log 35), and the progress
of INIT is a field of the model's (log 38). While the pin is held every output is off, the port does not answer, and a write
of the store is given up with the store's block whole (R34, R167, R175); that every other record stands until the release is
the model's reading of R34 (DEDUCED, log 37). -/
def Obligations.StartsAndHeldReset : Prop :=
  ∀ (straps : BitVec 5) (s : State),
    completes (.powerOn straps) s (fun b =>
      startsFresh .powerOn straps s.block b ∧ b.port = {} ∧ b.station.resetHeld = s.block.station.resetHeld) ∧
    completes (.resetPinReleased straps) s (fun b =>
      startsFresh .resetPin straps s.block b ∧ b.port = {} ∧ b.station.resetHeld = false) ∧
    (s.block.portAnswers = true → completes (.restart straps) s (fun b =>
      startsFresh .restart straps s.block b ∧
        b.port = {
          slot := some { code := 29, number := s.block.port.commandNumber, refused := none, data := [] },
          delivered := s.block.port.slot })) ∧
    completes .resetPinHeld s (fun b =>
      b.portAnswers = false ∧ b.interrupt = false ∧ b.lamp = false ∧ b.motor = 0 ∧ b.pagerOn = false ∧
        (∀ x ∈ b.elementDrives, x = false) ∧ b.line.inFlight = none ∧ b.store = { block := s.block.store.block } ∧
        changesOnly [.station, .drive, .line, .store] s.block b)

/-- Step 2 of INIT, once no write runs, reads the block's bytes into the image: a block that passes puts its settings and
signature in force, and the channels follow it; a block that fails halts the station with reason SETTINGS, its bytes in the
image and its fields not decoded (R35, R37, R45; the form of the image is DEDUCED, log 27, the progress of INIT is the
model's own field, log 38, and a channel the image leaves not fitted has sensor index 0: DESIGN CHOICE, log 44). Step 3: a
failed comparison halts it with reason LOOPBACK; a good one enters LISTEN with the announce timer loaded, in a station of
every kind the line SEEKING with last sender NONE, the inputs read, and a burst window at its first tick, with the
STATE_CHANGE event (R3, R39, R46, R82); a DISH station's tracker, at its reset values in INIT (R132), takes its speed from
that window and stays STOPPED, no page moving (R135, R136). -/
def Obligations.InitStepsLoadListenOrHalt : Prop :=
  (∀ s : State, initAt .settings s.block = true → s.block.store.writing = none →
    (∀ x, settingsOfBlock s.block.store.block = some x →
      completes .settingsCheck s (fun b =>
        b.station = { s.block.station with
          imageBytes := s.block.store.block, image := some x,
          signature := checkWord (s.block.store.block.take 7), initStep := .loopback } ∧
        b.drive = { s.block.drive with channels := x.channels.map configuredChannel } ∧
        changesOnly [.station, .drive] s.block b)) ∧
    (settingsOfBlock s.block.store.block = none →
      completes .settingsCheck s (fun b =>
        b.station = { s.block.station with
          imageBytes := s.block.store.block, state := .halted, reason := .settings, announceTimer := none,
          initStep := .finished } ∧
        changesOnly [.station] s.block b))) ∧
  (∀ (s : State) (inputs : List SensorInput), initAt .loopback s.block = true → inputs.length = 8 →
    s.block.drive.inputs.length = 8 →
    completes (.loopbackTestDone false inputs) s (fun b =>
      b.station = { s.block.station with
        state := .halted, reason := .loopback, announceTimer := none, initStep := .finished } ∧
      changesOnly [.station] s.block b) ∧
    completes (.loopbackTestDone true inputs) s (fun b =>
      b.station = { s.block.station with
        state := .listen, reason := .checksPassed, listenRounds := 0,
        announceTimer := some s.block.cfg.period, initStep := .finished } ∧
      b.drive.ticksDriven = 0 ∧ offered (.stateChange .initial .listen .checksPassed) s.block b ∧
      (∀ i x, inputs[i]? = some x → inputAt i b = judgeInput (inputAt i s.block) x ∧
        ((inputAt i b).status ≠ (inputAt i s.block).status → offered (.sensorStatus i (inputAt i b).status) s.block b)) ∧
      b.line = { s.block.line with position := .seeking, lastSender := none, pageQueue := b.line.pageQueue } ∧
      (s.block.cfg.kind ≠ .dish →
        b.line.pageQueue = s.block.line.pageQueue ∧ b.pages = s.block.pages ∧ b.conveyor = s.block.conveyor) ∧
      (s.block.cfg.kind = .dish → s.block.conveyor = {} →
        b.line.pageQueue = s.block.line.pageQueue ∧ b.pages = s.block.pages ∧
        b.conveyor = { speedFraction := rinseFraction b, speed := s.block.cfg.vMax * rinseFraction b / 1000 }) ∧
      changesOnly [.station, .line, .drive, .conveyor, .pages, .pager, .port] s.block b))

/-! ## The round (chapter 1, chapter 2) -/

/-- The target of stage 3 for the station state and figures a round leaves (R13). -/
def targetAfter (b : Block) : Nat :=
  if b.station.state = .active then min b.share.share b.cfg.ratedLoad else min b.share.wantSelf b.cfg.safeAllowance

/-- The applied grant that stage 3 starts from: the grant as it stood, cut to the safe allowance where this round enters
ISOLATED (R17, R40, R41). -/
def grantBefore (s b : Block) : Nat :=
  if b.station.state = .isolated ∧ s.station.state ≠ .isolated then min s.share.applied s.cfg.safeAllowance
  else s.share.applied

/-- The headroom of R15, over the entries a round leaves. -/
def headroomAfter (s b : Block) : Int :=
  (b.share.budget : Int) - grantBefore s b - ((b.peers.map fun p => max p.applied p.draw).sum : Nat)

/-- A counted entry (R30). -/
def countedIn (b : Block) (p : Peer) : Bool :=
  decide (p.age < 3) && decide (p.signature = b.station.signature) && decide (p.state = .active)

/-- The increase of R15, where the target is above the grant. -/
def increaseAfter (s b : Block) : Nat :=
  if headroomAfter s b ≤ 0 then 0
  else
    min (targetAfter b - grantBefore s b)
      (min s.cfg.ramp ((headroomAfter s b).toNat / (1 + (b.peers.filter fun p => countedIn b p && p.rising).length)))

/-- The highest class among the extra wants above 0, and 0 when there is none (R5). -/
def highestExtra (cs : List Channel) (n : Nat) : Prop :=
  (∀ c ∈ cs, c.want.kind = .extra → 0 < c.presented → c.want.cls ≤ n) ∧
    (n = 0 ∨ ∃ c ∈ cs, c.want.kind = .extra ∧ 0 < c.presented ∧ c.want.cls = n)

/-- A round forms the station's floor, want and class from its channels (R5), keeps its own share of the division and
whether it was overcommitted (R12), and moves the grant: to the target at once when the target is not above it (R14), else
up by the increase that the target, the ramp limit and the headroom over the rising count allow (R15). Rising is set exactly
when the target is above the new grant; rounds curtailed and rounds held advance as R16 says. The conveyor, the channels and
the store stand. The class of a DISH station is raised to at least 2 by a PLATES_SHORT entry in the page table, RAISED or
ACKED, and not by one that waits (R5). Where this round removes peers, the table it finds is the one their removal leaves:
an ACKED PLATES_SHORT page of a removed id, and one that waits then, are left to other statements. -/
def Obligations.RoundHoldsGrantToTarget : Prop :=
  ∀ s : State, s.block.runs = true → s.block.station.announceTimer.isSome = true →
    completes .round s (fun b =>
      b.share.floorSelf =
        ((s.block.drive.channels.filter fun c => decide (c.want.kind = .floor)).map Channel.presented).sum ∧
      b.share.wantSelf = min
        (b.share.floorSelf +
          ((s.block.drive.channels.filter fun c => decide (c.want.kind = .extra)).map Channel.presented).sum)
        s.block.cfg.ratedLoad ∧
      (∃ own, highestExtra s.block.drive.channels own ∧
        (s.block.cfg.kind ≠ .dish → b.share.classSelf = own) ∧
        (s.block.cfg.kind = .dish →
          (∀ i e, pageAt i s.block = some e → e.cause.kind = .platesShort →
            e.state = .raised ∨ (∀ p ∈ s.block.peers, 7 ≤ p.age → p.id ≠ e.owner) → b.share.classSelf = max own 2) ∧
          ((∀ i e, pageAt i s.block = some e → e.cause.kind ≠ .platesShort) →
            (∀ p ∈ s.block.peers, p.age < 7) ∨ (∀ w ∈ s.block.pages.retry, w.cause.kind ≠ .platesShort) →
            b.share.classSelf = own))) ∧
      b.share.share = shareOf b.share.available (roundClaimants b) (selfClaimant b) ∧
      b.share.overcommitted = decide (b.share.available < ((roundClaimants b).map Claimant.floor).sum) ∧
      b.share.applied =
        (if targetAfter b ≤ grantBefore s.block b then targetAfter b
        else grantBefore s.block b + increaseAfter s.block b) ∧
      b.share.applied ≤ targetAfter b ∧ b.share.applied ≤ s.block.share.applied + s.block.cfg.ramp ∧
      b.share.rising = decide (b.share.applied < targetAfter b) ∧
      b.port.counters.roundsCurtailed =
        (if b.share.applied < b.share.wantSelf then min 65535 (s.block.port.counters.roundsCurtailed + 1)
        else s.block.port.counters.roundsCurtailed) ∧
      b.port.counters.roundsHeld =
        (if grantBefore s.block b < targetAfter b ∧ increaseAfter s.block b = 0 then
          min 65535 (s.block.port.counters.roundsHeld + 1)
        else s.block.port.counters.roundsHeld) ∧
      b.cfg = s.block.cfg ∧
      changesOnly [.station, .share, .peers, .line, .plan, .coord, .pages, .pager, .port] s.block b)

/-- The cause of an overcommitted feeder (R20). -/
def overcommitCause : Cause := { kind := .overcommit, subject := 0 }

/-- A local raise has found its place: the cause is held in the page table or waits, or both were full (R152, R153). -/
def raiseTaken (c : Cause) (b : Block) : Prop :=
  causeHeld c b = true ∨ (freePage b = none ∧ 4 ≤ b.pages.retry.length)

/-- A round that ends in ACTIVE: overcommitted, it advances rounds overcommitted, sets the clean run to 0 and raises OVERCOMMIT
with subject 0 (R20); otherwise the clean run advances by 1 below 5, and at 5 the page this station owns is cleared (R21). A
round that ends in another state books nothing (R22). -/
def Obligations.OvercommitIsBooked : Prop :=
  ∀ s : State, s.block.runs = true → s.block.station.announceTimer.isSome = true →
    completes .round s (fun b =>
      (b.station.state = .active → b.share.overcommitted = true →
        b.share.cleanRun = 0 ∧
          b.port.counters.roundsOvercommitted = min 65535 (s.block.port.counters.roundsOvercommitted + 1) ∧
          raiseTaken overcommitCause b) ∧
      (b.station.state = .active → b.share.overcommitted = false →
        b.share.cleanRun = (if s.block.share.cleanRun < 5 then s.block.share.cleanRun + 1 else s.block.share.cleanRun) ∧
          b.port.counters.roundsOvercommitted = s.block.port.counters.roundsOvercommitted ∧
          ∀ i e, s.block.share.cleanRun = 4 → (∀ p ∈ s.block.peers, p.age < 7) →
            isWaiting overcommitCause s.block = false → locatePage overcommitCause s.block = some (i, e) →
            e.owner = s.block.station.strapId → clearTaken i e s.block b) ∧
      (b.station.state ≠ .active →
        b.share.cleanRun = s.block.share.cleanRun ∧
          b.port.counters.roundsOvercommitted = s.block.port.counters.roundsOvercommitted))

/-- R159's conditions of the elected base. -/
def baseElected (b : Block) : Prop :=
  b.cfg.kind = .base ∧ (b.station.state = .active ∨ b.station.state = .isolated) ∧ b.pager.radio = .up ∧
    ∀ p ∈ b.peers, p.kind = .base → p.age < 3 → p.base = some .up → b.station.strapId < p.id

/-- The pager's election stands as R159 decides it; a station that is not elected lists nothing and has no SEND outstanding
(R161). -/
def electionStands (b : Block) : Prop :=
  (b.pager.elected = true ↔ baseElected b) ∧
    (b.pager.elected = false → b.pager.sendList = [] ∧ b.pager.outstanding = none)

/-- The election is decided afresh at each round and at each accepted DEMAND of a BASE station, and no other DEMAND moves it
(R159). A station that ceases to be elected has nothing listed or outstanding; one that becomes elected lists every RAISED
entry that is not clear due (R161), OVERCOMMIT too, which the same round may raise or clear: of that cause this is said
where no two entries hold one cause, as every step keeps it. -/
def Obligations.ElectionIsDecidedAfresh : Prop :=
  (∀ s : State, s.block.runs = true → s.block.station.announceTimer.isSome = true →
    completes .round s (fun b =>
      electionStands b ∧ b.pager.radio = s.block.pager.radio ∧
      (b.pager.elected = true → s.block.pager.elected = false → ∀ c i e,
        c.kind ≠ .overcommit ∨ pagesDistinct s.block = true → locatePage c b = some (i, e) →
        e.state = .raised → e.clearDue = false → c ∈ b.pager.sendList))) ∧
  (∀ (s : State) (source sequence : Byte) (body : List Byte) (d : Demand), listening s.block = true →
    source.toNat ≤ 31 → source.toNat ≠ s.block.station.strapId → FrameForm.demand.admits body.length = true →
    parseDemand body = some d →
    completes (.demandFrame source sequence body) s (fun b =>
      (d.kind = .base →
        electionStands b ∧
        (b.pager.elected = true → s.block.pager.elected = false → ∀ c i e, locatePage c b = some (i, e) →
          e.state = .raised → e.clearDue = false → c ∈ b.pager.sendList)) ∧
      (d.kind ≠ .base →
        b.pager.elected = s.block.pager.elected ∧ b.pager.outstanding = s.block.pager.outstanding) ∧
      b.pager.radio = s.block.pager.radio))

/-- What an orphaned page of entry `i` becomes at its adopter (R158): a RAISED page is this station's, adopted, one-shot, with
its level and generation kept and a new ack timer, its RAISE queued; an ACKED one is cleared. -/
def adopted (i : Nat) (e : PageEntry) (s b : Block) : Prop :=
  (e.state = .raised → ∃ x, pageAt i b = some x ∧
    { x with merges := e.merges } = { e with
      owner := s.station.strapId, adopted := true, oneShot := true,
      deadline := some (s.station.clock + s.cfg.ackTimeout) } ∧
    (raiseFrame x ∈ b.line.pageQueue ∨ 8 ≤ b.line.pageQueue.length) ∧ pageChanged x s b) ∧
  (e.state = .acked → clearTaken i { e with owner := s.station.strapId } s b)

/-- The entry is the one it was but for merges. -/
def leftAlone (i : Nat) (e : PageEntry) (b : Block) : Prop :=
  ∃ x, pageAt i b = some x ∧ { x with merges := e.merges } = e

/-- At a round that removes a peer, and at a DEMAND that reports the restart of a STALE one (R63), the pages that id owned are
taken over by the adopter: the lowest id among this station and the FRESH, counted peers, without the restarted id (R158). A
station that is not the adopter, or is LOCAL (R164), leaves them. A page whose cause that same event reports resolved, and one
whose cause also waits in the retry queue, are left to other statements. -/
def Obligations.OrphanedPagesAreAdopted : Prop :=
  (∀ (s : State) (lost : Peer) (i : Nat) (e : PageEntry), s.block.runs = true →
    s.block.station.announceTimer.isSome = true → lost ∈ s.block.peers → 7 ≤ lost.age →
    locatePage e.cause s.block = some (i, e) → e.owner = lost.id → lost.id ≠ s.block.station.strapId →
    isWaiting e.cause s.block = false → e.cause.kind ≠ .configMismatch → e.cause.kind ≠ .overcommit →
    memoryCanonical s.block = true →
    completes .round s (fun b =>
      (s.block.station.state ≠ .localOnly → (∀ p ∈ b.peers, countedIn b p = true → s.block.station.strapId ≤ p.id) →
        adopted i e s.block b) ∧
      (s.block.station.state = .localOnly ∨ (∃ p ∈ b.peers, countedIn b p = true ∧ p.id < s.block.station.strapId) →
        leftAlone i e b))) ∧
  (∀ (s : State) (source : Byte) (body : List Byte) (d : Demand) (old : Peer) (i : Nat) (e : PageEntry),
    listening s.block = true → source.toNat ≤ 31 → source.toNat ≠ s.block.station.strapId →
    FrameForm.demand.admits body.length = true → parseDemand body = some d →
    findPeer source.toNat s.block = some old → 3 ≤ old.age → locatePage e.cause s.block = some (i, e) →
    e.owner = source.toNat → isWaiting e.cause s.block = false → memoryCanonical s.block = true →
    completes (.demandFrame source 0 body) s (fun b =>
      (s.block.station.state ≠ .localOnly →
        (∀ p ∈ b.peers, p.id ≠ source.toNat → countedIn b p = true → s.block.station.strapId ≤ p.id) →
        s.block.line.pageQueue.length < 4 → (∀ j x, pageAt j s.block = some x → x.owner = source.toNat → j = i) →
        adopted i e s.block b) ∧
      (s.block.station.state = .localOnly ∨
          (∃ p ∈ b.peers, p.id ≠ source.toNat ∧ countedIn b p = true ∧ p.id < s.block.station.strapId) →
        leftAlone i e b)))

/-- Stage 0: the budget, which lies between 80 and 9,999 LU for settings in range, and the available load after the
larger of applied grant and draw of every entry that is not counted (R10). -/
def Obligations.RoundComputesBudget : Prop :=
  ∀ s : State, s.block.runs = true → s.block.station.announceTimer.isSome = true →
    completes .round s (fun b =>
      b.share.budget = s.block.cfg.feeder - ceilDiv (s.block.cfg.feeder * s.block.cfg.guardPercent) 100 ∧
      b.share.available = b.share.budget -
        ((b.peers.filter fun p =>
          !(decide (p.age < 3) && decide (p.signature = b.station.signature) && decide (p.state = .active))).map
          fun p => max p.applied p.draw).sum ∧
      (s.block.cfg.sharedOk = true → 80 ≤ b.share.budget ∧ b.share.budget ≤ 9999) ∧
      changesOnly [.station, .share, .peers, .line, .plan, .coord, .pages, .pager, .port] s.block b)

/-- Every entry is one older and those that would reach age 8 are gone (R27, R28). Each id lost raises STATION_LOST, shown
here where no page of that cause stands, reports CONFIG_MISMATCH resolved, and leaves the participants and ready set of
every course (R28). A round that ends in ACTIVE or ISOLATED leaves the DEMAND slot pending, another leaves it as it stood
(R18). The round parity turns over, and where it comes to 0 the COURSE slot is pending unless the station is LOCAL (R64,
R122). -/
def Obligations.RoundAgesPeersAndMarksSlots : Prop :=
  ∀ s : State, s.block.runs = true → s.block.station.announceTimer.isSome = true →
    completes .round s (fun b =>
      b.peers = ((s.block.peers.map fun p => { p with age := p.age + 1 }).filter fun p => decide (p.age < 8)) ∧
      (b.station.state = .active ∨ b.station.state = .isolated → b.line.demandSlot = true) ∧
      (b.station.state = .listen ∨ b.station.state = .localOnly → b.line.demandSlot = s.block.line.demandSlot) ∧
      b.coord = { parity := !s.block.coord.parity, heard := 0 } ∧
      (b.coord.parity = false → b.station.state ≠ .localOnly → b.line.courseSlot = true) ∧
      (b.coord.parity = true → b.line.courseSlot = s.block.line.courseSlot) ∧
      (∀ p ∈ s.block.peers, 7 ≤ p.age →
        (locatePage { kind := .stationLost, subject := p.id } s.block = none →
          raiseMade { kind := .stationLost, subject := p.id } s.block b) ∧
        resolveMade { kind := .configMismatch, subject := p.id } s.block b ∧
        ∀ i c, courseAt i b = some c → hasId c.participants p.id = false ∧ hasId c.readySet p.id = false))

/-- The changes of station state a round decides, from the fresh peers counted after aging (R40, R41, R42, R44). A change
places the STATE_CHANGE event with the state before, the state after and the reason (R46). -/
def Obligations.RoundDecidesStationState : Prop :=
  ∀ s : State, s.block.runs = true → s.block.station.announceTimer.isSome = true →
    completes .round s (fun b =>
      (b.station.state ≠ s.block.station.state →
        offered (.stateChange s.block.station.state b.station.state b.station.reason) s.block b) ∧
      match s.block.station.state with
      | .listen =>
        b.station.listenRounds = s.block.station.listenRounds + 1 ∧
          (b.station.listenRounds = 4 →
            (if s.block.cfg.minPeers ≤ b.freshPeers then b.station.state = .active ∧ b.station.reason = .peersPresent
            else b.station.state = .isolated ∧ b.station.reason = .peersAbsent) ∧
              b.station.shortRun = 0 ∧ b.station.goodRun = 0) ∧
          (b.station.listenRounds ≠ 4 → b.station.state = .listen ∧ b.station.reason = s.block.station.reason)
      | .active =>
        if b.freshPeers < s.block.cfg.minPeers ∧ s.block.station.shortRun + 1 = 3 then
          b.station.state = .isolated ∧ b.station.reason = .peersLost ∧ b.station.shortRun = 0 ∧ b.station.goodRun = 0 ∧
            b.share.applied ≤ s.block.cfg.safeAllowance
        else
          b.station.state = .active ∧ b.station.reason = s.block.station.reason ∧
            b.station.shortRun = if b.freshPeers < s.block.cfg.minPeers then s.block.station.shortRun + 1 else 0
      | .isolated =>
        if s.block.cfg.minPeers ≤ b.freshPeers ∧ s.block.station.goodRun + 1 = 2 then
          b.station.state = .active ∧ b.station.reason = .peersRegained ∧ b.station.shortRun = 0 ∧ b.station.goodRun = 0
        else
          b.station.state = .isolated ∧ b.station.reason = s.block.station.reason ∧
            b.station.goodRun = if s.block.cfg.minPeers ≤ b.freshPeers then s.block.station.goodRun + 1 else 0
      | .localOnly => b.station = s.block.station
      | .initial | .halted => False)

/-- The sum of the extras of the claimants of class `c` (R7). -/
def extrasOf (cs : List Claimant) (c : Nat) : Nat := ((cs.filter fun y => decide (y.cls = c)).map fun y => y.want - y.floor).sum

/-- What is left of `M` for class `c`, after the floors and the extras of the classes above it; nothing after a class that
was cut (R6, R7). -/
def leftFor (M : Nat) (cs : List Claimant) (c : Nat) : Nat :=
  M - (cs.map Claimant.floor).sum - ((cs.filter fun y => decide (c < y.cls)).map fun y => y.want - y.floor).sum

/-- The division procedure. Floors above the amount are overcommitted, and each share is the floor's proportional part
rounded down (R6). Otherwise the classes are served in the order 3, 2, 1, 0: a claimant of a class whose extras fit in what
is left has its whole want; one of a class that is cut has its floor, its proportional part rounded down, and 1 LU of the
leftover when its extra is above 0 and fewer claimants of its class with an extra come before it in ascending number than LU
are left over; below a cut class nothing is added (R7). So the shares sum to exactly the smaller of the amount and the
wants, none below its floor nor above its want; overcommitted, each is at most its floor and they sum to at most the amount
(R8). -/
def Obligations.DivisionPlacesTheAmount : Prop :=
  ∀ (M : Nat) (cs : List Claimant), cs.Pairwise (fun x y => x.number ≠ y.number) →
    (∀ x ∈ cs, x.floor ≤ x.want ∧ x.cls ≤ 3) →
    (overcommits M cs = true ↔ M < (cs.map Claimant.floor).sum) ∧
    (overcommits M cs = false →
      (cs.map (shareOf M cs)).sum = min M (cs.map Claimant.want).sum ∧
      ∀ x ∈ cs,
        x.floor ≤ shareOf M cs x ∧ shareOf M cs x ≤ x.want ∧
        (let left := leftFor M cs x.cls
         let all := extrasOf cs x.cls
         let part := fun y : Claimant => (y.want - y.floor) * left / all
         (all ≤ left → shareOf M cs x = x.want) ∧
         (left < all →
          shareOf M cs x = x.floor + part x +
            (if x.floor < x.want ∧
                (cs.filter fun y => decide (y.cls = x.cls ∧ y.floor < y.want ∧ y.number < x.number)).length <
                  left - ((cs.filter fun y => decide (y.cls = x.cls)).map part).sum
             then 1 else 0)))) ∧
    (overcommits M cs = true →
      (cs.map (shareOf M cs)).sum ≤ M ∧
      ∀ x ∈ cs, shareOf M cs x = x.floor * M / (cs.map Claimant.floor).sum ∧ shareOf M cs x ≤ x.floor)

/-! ## Element drive and sensing (chapter 4) -/

/-- A drive tick samples the line to the nearest volt and decides low line (R73), and advances the window by one of its 200
ticks (R67; ticks are counted as they are driven, log 34); a channel whose check is not due in that tick is on exactly when
its on-period says so and it was not cut (R71). That the sample arrives in millivolts and is held at 300 V at the most is
the model's choice (DESIGN CHOICE, log 11). A change of low line places LINE_STATUS with the line voltage, and going low
sets every low count to 0 (R73), a faulted channel's too (DESIGN CHOICE, log 57, against R80). That a channel which opened
and was mended in one window goes on with its on-period is the model's (DESIGN CHOICE, log 28): R72 lets the OPEN channel
run its on-period out and has a mended one stay off until the next window start. -/
def Obligations.DriveTickSwitchesChannels : Prop :=
  ∀ (s : State) (milliVolts : Nat) (milliAmps : List Nat), s.block.runs = true → s.block.drive.ticksDriven < 200 →
    completes (.driveTick milliVolts milliAmps) s (fun b =>
      b.drive.lineVoltage = min 300 ((milliVolts + 500) / 1000) ∧
      b.drive.lowLine = decide (b.drive.lineVoltage < s.block.cfg.lowLine) ∧
      b.drive.ticksDriven = s.block.drive.ticksDriven + 1 ∧ b.drive.draw = s.block.drive.draw ∧
      b.drive.inputs = s.block.drive.inputs ∧
      (b.drive.lowLine ≠ s.block.drive.lowLine → offered (.lineStatus b.drive.lineVoltage) s.block b) ∧
      (∀ k, k < s.block.drive.channels.length → k < 8 →
        (channelAt k s.block).planned ≠ some s.block.drive.ticksDriven →
        (channelAt k b).lowCount = (if b.drive.lowLine = true ∧ s.block.drive.lowLine = false then 0
          else (channelAt k s.block).lowCount) ∧
        let on := onAt k (channelAt k s.block).onTicks s.block.drive.ticksDriven && !(channelAt k s.block).cut
        (channelAt k b).output = on ∧
          (channelAt k b).drivenTicks = (channelAt k s.block).drivenTicks + (if on then 1 else 0)) ∧
      changesOnly [.drive, .conveyor, .pages, .pager, .line, .port] s.block b)

/-- The sample tick of a planned check on a healthy channel: the load of the sample is stored and the check completed (R75).
Above one and a half times the rating the channel trips, off for the rest of the window (R77). At the third low reading in a
row, the line not low, it is OPEN; an ordinary reading leaves it OK with no low count (R76), with a CHANNEL_HEALTH event
where it was UNVERIFIED (R77). A channel that trips or opens places CHANNEL_HEALTH with the reading and raises ELEMENT_FAULT
with subject strap id × 8 + k (R80). -/
def Obligations.ChecksTripAndOpen : Prop :=
  ∀ (s : State) (milliVolts : Nat) (milliAmps : List Nat) (k : Nat), s.block.runs = true →
    s.block.drive.ticksDriven < 200 → k < 8 → s.block.drive.channels.length = 8 →
    (channelAt k s.block).planned = some s.block.drive.ticksDriven → (channelAt k s.block).healthy = true →
    completes (.driveTick milliVolts milliAmps) s (fun b =>
      let c := channelAt k s.block
      let c' := channelAt k b
      let m := min 255 ((b.drive.lineVoltage * milliAmps.getD k 0 + 50000) / 100000)
      c'.lastLoad = m ∧ c'.checked = true ∧ c'.starved = 0 ∧ c'.allotment = c.allotment ∧
      (3 * c.rated < 2 * m →
        c'.health = .tripped ∧ c'.output = false ∧ c'.cut = true ∧ c'.onTicks = c'.drivenTicks ∧ c'.lowCount = 0 ∧
          offered (.channelHealth k .tripped (some m)) s.block b ∧
          raiseMade { kind := .elementFault, subject := s.block.station.strapId * 8 + k } s.block b) ∧
      (2 * m ≤ 3 * c.rated → 4 * m < c.rated → b.drive.lowLine = false →
        c'.lowCount = c.lowCount + 1 ∧ (c.lowCount = 2 → c'.health = .opened ∧
          offered (.channelHealth k .opened (some m)) s.block b ∧
          raiseMade { kind := .elementFault, subject := s.block.station.strapId * 8 + k } s.block b)) ∧
      (2 * m ≤ 3 * c.rated → c.rated ≤ 4 * m → c'.health = .ok ∧ c'.lowCount = 0 ∧
        (c.health = .unverified → offered (.channelHealth k .ok (some m)) s.block b)) ∧
      changesOnly [.drive, .conveyor, .pages, .pager, .line, .port] s.block b)

/-- A window start in the working states settles the window just ended: the starved count is 0 after a check, grows by 1 up
to 30 after a window with on-ticks and no check planned, and stands after one with none; an OK channel whose count comes to
30 is UNVERIFIED, with its event (R78). The draw is the mean of last loads over on-ticks (R79). It then divides the grant of
that moment among the fitted healthy channels by the division procedure, each a claimant of its number with its want capped
at its rating, as floor or as extra of its class; every other channel gets none (R69). The allotments sum to at most the
grant and none exceeds its channel's want or rating; on-ticks and residue follow (R70). A check is planned on a fitted
healthy channel whose on-ticks are at least blanking + 2, at tick 25 k + blanking; where that is 200 or more, 200 ticks
earlier and only if the channel was on at the last tick of the window just ended (R74). That the event of UNVERIFIED carries
no reading is the model's (DEDUCED, log 12). -/
def Obligations.WindowStartDividesGrant : Prop :=
  ∀ s : State, s.block.runs = true → s.block.drive.ticksDriven = 200 → s.block.drive.channels.length = 8 →
    completes .burstWindowStart s (fun b =>
      (b.drive.channels.map Channel.allotment).sum ≤ s.block.share.applied ∧
      b.drive.draw = ((s.block.drive.channels.map fun c => c.lastLoad * c.onTicks).sum) / 200 ∧
      b.drive.ticksDriven = 0 ∧ b.drive.inputs = s.block.drive.inputs ∧
      (∀ k, k < 8 →
        let c := channelAt k s.block
        let c' := channelAt k b
        let claim : Claimant :=
          { number := k, floor := if c.want.kind = .floor then min c.want.amount c.rated else 0,
            want := min c.want.amount c.rated, cls := if c.want.kind = .floor then 0 else c.want.cls }
        let settled := if c.checked then 0 else if 0 < c.onTicks ∧ c.planned = none then min 30 (c.starved + 1) else c.starved
        c'.allotment = (if c.fitted && c.healthy then
          shareOf s.block.share.applied (channelClaimants 0 s.block.drive.channels) claim else 0) ∧
        ((c.fitted && c.healthy) = true → claim ∈ channelClaimants 0 s.block.drive.channels) ∧
        c'.allotment ≤ min c.want.amount c.rated ∧
        c'.onTicks = (if c'.allotment = 0 then 0 else (200 * c'.allotment + c.residue) / c.rated) ∧
        c'.residue = (if c'.allotment = 0 then 0 else (200 * c'.allotment + c.residue) % c.rated) ∧
        c'.starved = (if c.fitted then settled else c.starved) ∧
        c'.health = (if c.fitted = true ∧ c.health = .ok ∧ c.starved ≠ settled ∧ settled = 30 then .unverified
          else c.health) ∧
        (c.fitted = true ∧ c.health = .ok ∧ c.starved ≠ settled ∧ settled = 30 →
          offered (.channelHealth k .unverified none) s.block b) ∧
        c'.planned = (if (c.fitted && c.healthy) = true ∧ s.block.cfg.blanking + 2 ≤ c'.onTicks then
            if 25 * k + s.block.cfg.blanking ≤ 199 then some (25 * k + s.block.cfg.blanking)
            else if c.output = true then some (25 * k + s.block.cfg.blanking - 200)
            else none
          else none) ∧
        c'.drivenTicks = 0 ∧ c'.checked = false) ∧
      changesOnly [.drive, .conveyor, .pages, .pager, .line, .port] s.block b)

/-! ## The second (chapters 4, 6) -/

/-- The record of an input after the reading of a second (R82). -/
def inputSeen (s : Block) (inputs : List SensorInput) (i : Nat) : TempInput :=
  judgeInput (inputAt i s) (inputs.getD i .openCircuit)

/-- A task's mask holds a fitted channel that is OK or UNVERIFIED (R115). -/
def hasChannel (s : Block) (k : Task) : Prop :=
  ∃ j, k.mask.getLsbD j = true ∧ (channelAt j s).fitted = true ∧
    ((channelAt j s).health = .ok ∨ (channelAt j s).health = .unverified)

/-- A task after a fault: its record as it stood but for class 0 (R115). -/
def faultedFor (why : TaskFault) (k : Task) : Task :=
  { k with state := .faulted, fault := why, urgency := { k.urgency with cls := 0 } }

/-- A second advances the service clock (R33; its wrap at 2^32 is the model's choice, log 3), judges the eight inputs (R82)
and sets the power fraction from the grant (R105); grant, peers, round parity and store stand. In INIT and HALTED the clock
alone moves. A WAITING task whose profile does not resolve is FAULTED with BAD_PROFILE (R107). A WAITING or running task
without a pending edit, whose input is not OK at that second, is FAULTED with SENSOR; with an input that is OK and no
healthy fitted channel in its mask, with NO_CHANNEL (R83, R115). The HEAT channels of a mask whose task faults present want
0, unless another task holds them (R113, R115), a want that is held as floor and class 0 (DESIGN CHOICE, log 69). Any change
of a task's state between the second's start and its end places one TASK_STATE event with both (R104). That the second's own
reading decides rests on the model's order of the two (R82 allows either, log 10); that all of the record but class 0 stands
is R115's words as log 36 reads them. An input whose status changes places SENSOR_STATUS with it (R82). -/
def Obligations.SecondReadsInputsAndFaults : Prop :=
  (∀ (s : State) (inputs : List SensorInput), s.block.station.resetHeld = false → inputs.length = 8 →
    s.block.drive.inputs.length = 8 →
    completes (.second inputs) s (fun b =>
      b.station = { s.block.station with clock := (s.block.station.clock + 1) % 4294967296 } ∧
      (s.block.station.state.works = true →
        (∀ i, i < 8 → inputAt i b = inputSeen s.block inputs i ∧
          ((inputAt i b).status ≠ (inputAt i s.block).status →
            offered (.sensorStatus i (inputAt i b).status) s.block b)) ∧
        b.plan.powerFraction =
          (if s.block.cfg.ratedLoad = 0 then 125 else max 125 (1000 * s.block.share.applied / s.block.cfg.ratedLoad))) ∧
      (s.block.station.state.works = false → changesOnly [.station] s.block b) ∧
      changesOnly [.station, .line, .drive, .plan, .conveyor, .pages, .pager, .port] s.block b)) ∧
  (∀ (s : State) (inputs : List SensorInput) (t : Nat) (k : Task), s.block.runs = true → inputs.length = 8 →
    s.block.drive.inputs.length = 8 → t < 24 → taskAt t s.block = some k → k.edit = none → k.sensor < 8 →
    completes (.second inputs) s (fun b =>
      (∀ x, taskAt t b = some x → x.state ≠ k.state →
        offered (.taskState t ((courseAt k.course s.block).elim 0 fun c => c.tag) k.state x.state x.fault x.stageIndex)
          s.block b) ∧
      (k.state = .waiting ∨ k.state.runs = true → (∃ x, taskAt t b = some x ∧ x.state = .faulted) →
        ∀ j, k.mask.getLsbD j = true → j < s.block.drive.channels.length → (channelAt j s.block).role = .heat →
          (∀ u x, u ≠ t → taskAt u s.block = some x → x.holds.getLsbD j = false) → (channelAt j b).want = {}) ∧
      (k.state = .waiting → resolveProfile k.profile s.block = none →
        taskAt t b = some (faultedFor .badProfile { k with resolved := none })) ∧
      (∀ why, ((inputSeen s.block inputs k.sensor).status ≠ .ok ∧ why = .sensor) ∨
          ((inputSeen s.block inputs k.sensor).status = .ok ∧ ¬ hasChannel s.block k ∧ why = .noChannel) →
        (k.state.runs = true → taskAt t b = some (faultedFor why k)) ∧
        (∀ r, k.state = .waiting → resolveProfile k.profile s.block = some r →
          taskAt t b = some (faultedFor why { k with resolved := some r })))))

/-- What the second of a task on profile content `d` reads: the clock after it, the reading of that second, the power fraction
of R105, the course's pass time, lead margin and hold flag (R103). -/
def viewAt (s : Block) (inputs : List SensorInput) (k : Task) (d : Direct) : TaskView :=
  { now := (s.station.clock + 1) % 4294967296, reading := (inputSeen s inputs k.sensor).reading,
    phi := if s.cfg.ratedLoad = 0 then 125 else max 125 (1000 * s.share.applied / s.cfg.ratedLoad), profile := d,
    passTime := (courseAt k.course s).elim 0 fun c => c.passTime,
    leadMargin := (courseAt k.course s).elim 0 fun c => c.leadMargin, hold := (courseAt k.course s).any fun c => c.hold }

/-- The state that goes with stage `i` of a profile (R108). -/
def stagePlace (d : Direct) (i : Nat) : TaskState :=
  if (d.stages.take i).any fun x => decide (x.kind = .hold) then .finishing
  else if (d.stages[i]?).any fun x => decide (x.kind = .hold) then .holding
  else .heating

/-- The estimate of a stage being run, `elapsed` seconds after its start (R106). -/
def runningTime (phi reading elapsed : Nat) (x : Stage) : Nat :=
  match x.kind with
  | .ramp => ceilDiv (60000 * (x.setpoint - reading)) (x.arg * phi)
  | .soak => x.arg - elapsed
  | .hold => 0

/-- The estimate of stage `j` not yet started: a RAMP starts from the setpoint of the stage before it (R106). -/
def aheadTime (phi : Nat) (d : Direct) (j : Nat) : Nat :=
  match d.stages[j]? with
  | some x =>
    match x.kind with
    | .ramp => ceilDiv (60000 * (x.setpoint - (d.stages[j - 1]?.elim 0 fun y => y.setpoint))) (x.arg * phi)
    | .soak => x.arg
    | .hold => 0
  | none => 0

/-- A HOLD stands among the first `j` stages. -/
def holdBefore (d : Direct) (j : Nat) : Bool := (d.stages.take j).any fun x => decide (x.kind = .hold)

/-- The profile has a HOLD stage. -/
def hasHold (d : Direct) : Bool := d.stages.any fun x => decide (x.kind = .hold)

/-- The finish-run estimate: the stages after HOLD, none of them started (R106). -/
def finishRun (phi : Nat) (d : Direct) : Nat :=
  (((List.range d.stages.length).filter (holdBefore d)).map (aheadTime phi d)).sum

/-- The stage estimate of a task in HEATING or FINISHING: the stage being run and the later ones, in HEATING those before
HOLD (R111). -/
def stagesLeft (v : TaskView) (k : Task) : Nat :=
  (v.profile.stages[k.stageIndex]?).elim 0 (runningTime v.phi v.reading (v.now - k.stageStart)) +
    (((List.range v.profile.stages.length).filter fun j =>
      decide (k.stageIndex < j) && !(decide (k.state = .heating) && holdBefore v.profile (j + 1))).map
      (aheadTime v.phi v.profile)).sum

/-- Stage `i`, begun at `start`, ends at this second: a RAMP by the reading, a SOAK by its duration (R108), the HOLD stage at
the finish start (R109). -/
def stageOver (v : TaskView) (i start : Nat) : Bool :=
  match v.profile.stages[i]? with
  | some x =>
    match x.kind with
    | .ramp => decide (x.setpoint ≤ v.reading)
    | .soak => decide (x.arg ≤ v.now - start)
    | .hold =>
      !v.hold && decide ((v.passTime : Int) - v.now ≤ (finishRun v.phi v.profile : Int) + v.leadMargin)
  | none => false

/-- The amount the control law asks of a channel (R113). -/
def lawAmount (v : TaskView) (setpoint : Nat) (c : Channel) : Nat :=
  min c.rated (ceilDiv (c.rated * (setpoint - v.reading)) v.profile.band)

/-- R106, R111 and R112 for a task that stands in a run state after the stages have advanced. -/
def judgedAt (v : TaskView) (k : Task) : Prop :=
  let u := k.urgency
  let beforeHold := k.state = .holding ∨ (k.state = .heating ∧ hasHold v.profile = true)
  let heats := k.state = .heating ∨ k.state = .finishing
  let finishStart : Int := (v.passTime : Int) - v.leadMargin - finishRun v.phi v.profile
  u.setpoint = some (if k.state = .ready then v.profile.ready
    else (v.profile.stages.getD k.stageIndex { kind := .hold, setpoint := 0, arg := 0 }).setpoint) ∧
  (beforeHold → u.deadline = some finishStart ∧ u.finishStart = some finishStart) ∧
  (beforeHold → u.finishEstimate = finishRun v.phi v.profile) ∧
  (¬ beforeHold → u.finishStart = none ∧ u.finishEstimate = 0 ∧ (heats → u.deadline = some (v.passTime : Int))) ∧
  (k.state = .ready → u.deadline = none ∧ u.slack = 0) ∧
  (∀ x, u.deadline = some x → u.slack = x - v.now - u.stageEstimate) ∧
  (heats → u.stageEstimate = stagesLeft v k) ∧
  (¬ heats → u.stageEstimate = 0 ∧ u.cls = 0) ∧
  (heats → u.cls = if u.slack < 0 then 3 else if u.slack ≤ 120 then 2 else if u.slack ≤ 600 then 1 else 0)

/-- One second of a task that faults in nothing. A WAITING task takes the entry its profile resolves to and begins at stage
0 in that second (R107); a task in a run state goes on with its stage. The stages advance as far as one is over: each later
one begins in that second, and the task stands where the first that is not over puts it, or is READY after the last, its
stage index kept (R108, R109, R110). Estimates, deadline, slack and class follow (R106, R111, R112), the channels of its
mask present what the control law asks (R113), and curtailed seconds grow when the healthy ones are allotted less (R114). In
a WARMER the plate test is made in the second in which a task passes its finish start, or READY in a profile without HOLD,
and not otherwise; too few plates raise PLATES_SHORT with the course's tag (R117). The premises on the profile's stages and
on state and stage index hold of every task the part makes; that a task begun at a HOLD stage by an edit still shows HEATING
there until this second is log 23. The model's own clauses besides: this second's reading is the one used (DEDUCED, log 10),
a READY task keeps the index and start of its last stage (DEDUCED, log 40), a finish start or deadline below 0 stands as it
is (DESIGN CHOICE, log 54), the clock wraps at 2^32 (DEDUCED, log 3), a floor is held with class 0 (DESIGN CHOICE, log 69).
-/
def Obligations.TaskSecondRunsTheTask : Prop :=
  ∀ (s : State) (inputs : List SensorInput) (t r : Nat) (k : Task) (d : Direct), s.block.runs = true →
    inputs.length = 8 → s.block.drive.inputs.length = 8 → t < 24 → taskAt t s.block = some k → k.edit = none →
    k.sensor < 8 → (inputSeen s.block inputs k.sensor).status = .ok → hasChannel s.block k →
    profileAt r s.block = .direct d → d.stages ≠ [] →
    (d.stages.filter fun x => decide (x.kind = .hold)).length ≤ 1 →
    ((k.state = .waiting ∧ resolveProfile k.profile s.block = some r) ∨
      (k.resolved = some r ∧ k.stageIndex < d.stages.length ∧
        (k.state = .ready ∨ k.state = stagePlace d k.stageIndex ∨
          (k.state = .heating ∧ stagePlace d k.stageIndex = .holding)))) →
    let v := viewAt s.block inputs k d
    let i := if k.state = .waiting then 0 else k.stageIndex
    let start := fun j => if j = i ∧ k.state ≠ .waiting then k.stageStart else v.now
    completes (.second inputs) s (fun b => ∃ k', taskAt t b = some k' ∧
      k' = { k with
        resolved := some r, state := k'.state, stageIndex := k'.stageIndex, stageStart := k'.stageStart,
        curtailed := k'.curtailed, urgency := k'.urgency } ∧
      (k.state = .ready → k'.state = .ready ∧ k'.stageIndex = k.stageIndex ∧ k'.stageStart = k.stageStart) ∧
      (k.state ≠ .ready →
        (∀ j, i ≤ j → j < d.stages.length → (∀ m, i ≤ m → m < j → stageOver v m (start m) = true) →
          stageOver v j (start j) = false →
          k'.state = stagePlace d j ∧ k'.stageIndex = j ∧ k'.stageStart = start j) ∧
        ((∀ m, i ≤ m → m < d.stages.length → stageOver v m (start m) = true) →
          k'.state = .ready ∧ k'.stageIndex + 1 = d.stages.length ∧ k'.stageStart = start k'.stageIndex)) ∧
      judgedAt v k' ∧
      (let short : Cause :=
         { kind := .platesShort, subject := (courseAt k.course s.block).elim 0 fun c => c.tag }
       let made := k.state ≠ .waiting ∧ k.urgency.plateTest = true
       let passes := (k.state = .waiting ∨ k.state = .heating ∨ k.state = .holding) ∧
         (k'.state = .finishing ∨ k'.state = .ready)
       (¬ passes → k.state ≠ .finishing → k.state ≠ .ready → (k'.urgency.plateTest = true ↔ made)) ∧
       (s.block.cfg.kind ≠ .warmer → (k'.urgency.plateTest = true ↔ made)) ∧
       (s.block.cfg.kind = .warmer → passes → k'.urgency.plateTest = true ∧
         (¬ made → k.platesLoaded < k.platesRequired →
           (∀ j c, courseAt j s.block = some c → c.tag = short.subject → j = k.course) → raiseMade short s.block b))) ∧
      (let setpoint := k'.urgency.setpoint.getD 0
       (∀ j, k.mask.getLsbD j = true → j < s.block.drive.channels.length → (channelAt j s.block).role = .heat →
          (∀ u x, u ≠ t → taskAt u s.block = some x → x.holds.getLsbD j = false) →
          (channelAt j b).want =
            if k'.state = .holding ∨ k'.state = .ready then
              { amount := lawAmount v setpoint (channelAt j s.block), kind := .floor }
            else
              { amount := lawAmount v setpoint (channelAt j s.block), kind := .extra, cls := k'.urgency.cls }) ∧
       (let healthy := (((List.range 8).filter fun j => k.mask.getLsbD j).map fun j => channelAt j s.block).filter
          fun c => c.fitted && c.healthy
        k'.curtailed =
          if (healthy.map Channel.allotment).sum < (healthy.map (lawAmount v setpoint)).sum then
            min 65535 (k.curtailed + 1)
          else k.curtailed)))

/-- A task after the four fields of its pending edit have replaced its own (R96). -/
def withEdit (k : Task) (e : Edit) : Task :=
  { k with profile := e.profile, mask := e.mask, sensor := e.sensor, platesRequired := e.plates, edit := none }

/-- A pending edit applies: the four fields replace the task's, the edit is gone, the channels given up present want 0, and
no other task is touched (R96). In WAITING, and in a run state whose profile index is the same or resolves to the entry the
task runs on, the rest of the task stands. A running task whose new index resolves to another entry starts afresh at stage 0
in HEATING at the second the edit opens, plate test made no (R107); one whose index does not resolve is FAULTED with
BAD_PROFILE, its new channels presenting want 0. A FAULTED, PASSED or CANCELLED task has no second in which its edit could
apply (R103). That the stage start is the clock's next value is the model's way of giving this command the second it opens
(DEDUCED, log 23), its wrap at 2^32 is log 3 (DEDUCED), and that a FAULTED task keeps all of its urgency record but class 0
is R115's words as log 36 reads them (DEDUCED). An edit that changes the state places TASK_STATE at that second (R104). That
a want of 0 is held as floor and class 0 is the model's (DESIGN CHOICE, log 69). -/
def Obligations.PendingEditsApply : Prop :=
  (∀ (s : State) (t : Nat) (k : Task) (e : Edit), s.block.runs = true → taskAt t s.block = some k → k.edit = some e →
    k.state = .waiting ∨ k.state.runs = true →
    completes (.taskEditApply t) s (fun b =>
      (k.state = .waiting ∨ e.profile = k.profile ∨
          (∃ r, k.resolved = some r ∧ resolveProfile e.profile s.block = some r) →
        taskAt t b = some (withEdit k e)) ∧
      (∀ r, k.state.runs = true → e.profile ≠ k.profile → resolveProfile e.profile s.block = some r →
        k.resolved ≠ some r →
        taskAt t b = some { withEdit k e with
          resolved := some r, state := .heating, stageIndex := 0,
          stageStart := (s.block.station.clock + 1) % 4294967296, urgency := { k.urgency with plateTest := false } }) ∧
      (k.state.runs = true → e.profile ≠ k.profile → resolveProfile e.profile s.block = none →
        taskAt t b = some (faultedFor .badProfile { withEdit k e with resolved := none }) ∧
        ∀ i, i < s.block.drive.channels.length → e.mask.getLsbD i = true → (channelAt i b).want = {}) ∧
      (∀ i, i < s.block.drive.channels.length → k.mask.getLsbD i = true → e.mask.getLsbD i = false →
        (channelAt i b).want = {}) ∧
      (∀ u, u ≠ t → taskAt u b = taskAt u s.block) ∧
      (∀ x, taskAt t b = some x → x.state ≠ k.state →
        offeredAt ((s.block.station.clock + 1) % 4294967296)
          (.taskState t ((courseAt k.course s.block).elim 0 fun c => c.tag) k.state x.state x.fault x.stageIndex)
          s.block b) ∧
      changesOnly [.drive, .plan, .line, .pages, .pager, .port] s.block b)) ∧
  (∀ (s : State) (t : Nat) (k : Task), taskAt t s.block = some k →
    k.state = .faulted ∨ k.state = .passed ∨ k.state = .cancelled →
    completes (.taskEditApply t) s (fun b => b = s.block))

/-! ## The conveyor (chapter 8) -/

/-- A change of conveyor state places CONVEYOR_STATE with the state before, the state after and the speed (R136). -/
def conveyorTold (s b : Block) : Prop :=
  b.conveyor.state ≠ s.conveyor.state → offered (.conveyorState s.conveyor.state b.conveyor.state b.conveyor.speed) s b

/-- Where hold seconds have reached the timeout and no page is recorded, HOLD_TIMEOUT records the hold code as the hold page
and raises RACK_HOLD with that code (R146). A manual advance with no seconds left ends with NO_MOVEMENT: the advance is idle
and ADVANCE_DONE is offered (R144). A pulse moves every rack one position on, one at L + 1 apart; a rack that leaves FINAL
unsanitized is marked rewash; a head rack that reaches L + 1 latches the jam; a manual advance in progress ends with MOVED,
and a jam that the pulse brings raises RACK_HOLD with code 4 (R139, R144, R146). A rack that stands at L + 1 when it becomes
the head latches no jam: R139 does not speak of it (DESIGN CHOICE, log 75). At a tenth with a hot rinse every rack in FINAL
gains one tenth of dwell, up to 65,535, and is sanitized once its dwell has reached ten times the required dwell; a cold
rinse changes nothing (R140). After both the conveyor state is that of R136's table. That the hold page shows 4 in JAMMED is
the model's (DEDUCED, log 15). -/
def Obligations.PulsesTenthsAndTimeoutsAct : Prop :=
  (∀ s : State, s.block.dishRuns = true →
    (∀ code : Nat, holdDue s.block = true → s.block.conveyor.state.holdCode = some code →
      completes .holdTimeout s (fun b =>
        b.conveyor = { s.block.conveyor with holdPage := some code } ∧
        raiseMade { kind := .rackHold, subject := code } s.block b ∧
        changesOnly [.conveyor, .line, .pages, .pager, .port] s.block b)) ∧
    (s.block.conveyor.advance = some 0 →
      completes .manualAdvanceTimeout s (fun b =>
        b.conveyor = { s.block.conveyor with advance := none } ∧
        b.port = (offer (.advanceDone .noMovement) s.block).port ∧ changesOnly [.conveyor, .port] s.block b))) ∧
  (∀ s : State, s.block.dishRuns = true →
    completes .encoderPulse s (fun b =>
      b.conveyor.queue = (s.block.conveyor.queue.map fun r =>
        { r with
          position := if r.position = s.block.cfg.tunnelLength + 1 then r.position else r.position + 1,
          rewash := r.rewash || (decide (r.position + 1 = s.block.cfg.b3) && !r.sanitized) }) ∧
      b.conveyor.jammed = (s.block.conveyor.jammed ||
        s.block.conveyor.queue.head?.any fun r => decide (r.position = s.block.cfg.tunnelLength)) ∧
      b.conveyor.advance = none ∧ b.conveyor.state = conveyorTable b ∧ conveyorTold s.block b ∧
      (s.block.conveyor.advance ≠ none → offered (.advanceDone .moved) s.block b) ∧
      (s.block.conveyor.state ≠ .jammed → b.conveyor.state = .jammed →
        b.conveyor.holdPage = some 4 ∧ raiseMade { kind := .rackHold, subject := 4 } s.block b) ∧
      changesOnly [.drive, .conveyor, .line, .pages, .pager, .port] s.block b) ∧
    (rinseHot s.block = true →
      completes .dwellTenth s (fun b =>
        b.conveyor.queue = (s.block.conveyor.queue.map fun r =>
          if s.block.cfg.b1 ≤ r.position ∧ s.block.cfg.b2 ≤ r.position ∧ r.position < s.block.cfg.b3 then
            { r with dwell := min 65535 (r.dwell + 1),
                     sanitized := r.sanitized || decide (10 * s.block.cfg.requiredDwell ≤ min 65535 (r.dwell + 1)) }
          else r) ∧
        b.conveyor.state = conveyorTable b ∧ conveyorTold s.block b ∧ advanceFollows s.block b ∧
        changesOnly [.drive, .conveyor, .line, .pages, .pager, .port] s.block b)) ∧
    (rinseHot s.block = false → completes .dwellTenth s (fun b => b = s.block)))

/-- The want record R138 gives a TANK, RINSE or DRY channel, from the conveyor as a second leaves it and the reading of that
second. -/
def dishWantAt (b : Block) (seen : TempInput) (c : Channel) : Want :=
  let moves := b.conveyor.state = .running ∨ b.conveyor.state = .slowed
  let inFinal := ∃ r ∈ b.conveyor.queue, b.cfg.b1 ≤ r.position ∧ b.cfg.b2 ≤ r.position ∧ r.position < b.cfg.b3
  match c.role with
  | .tank =>
    { amount :=
        if seen.status = .ok then min c.rated (ceilDiv (c.rated * (b.cfg.sanitizingMinimum - 200 - seen.reading)) 50) else 0,
      kind := .floor }
  | .rinse =>
    if moves then { amount := c.rated, kind := .floor }
    else if b.conveyor.state = .stopped then {}
    else
      { amount := c.rated, kind := .extra,
        cls := if inFinal then 2 else if b.conveyor.queue = [] then 0 else 1 }
  | .dry => if moves then { amount := c.rated, kind := .extra, cls := 0 } else {}
  | .heat => c.want

/-- A second of a DISH station takes the rinse temperature from the RINSE channels' inputs as read in it (R82, R134): their
lowest reading while all are OK, else faulted with the reading left. The conveyor state is then that of R136's table, a
change placing CONVEYOR_STATE, and the TANK, RINSE and DRY wants are set (R138). Hold seconds grow by 1 for the hold and the
racks the second finds (that they count before the state is derived is DEDUCED, log 14), and are 0 once the holds are left;
leaving them reports a recorded page resolved, a change among them reports it and raises the new code, and an entry to
JAMMED or ENTRY_FAULT raises 4 or 5 (R146). A window start sets the speed fraction and the speed from the RINSE allotments
(R135), and the state follows them. That the conveyor's part of a second follows its readings is the model's (DEDUCED, log
10), and so is the hold page's 4 and 5 in JAMMED and ENTRY_FAULT (DEDUCED, log 15). A manual advance in progress loses one
of its seconds, or is superseded by a change to RUNNING, SLOWED or ENTRY_FAULT (R144). Each channel names one of the eight
inputs (R36): it does after reset, and every step keeps it. That a want of 0 is held as floor, and a floor with class 0, is
the model's (DESIGN CHOICE, log 69). -/
def Obligations.ConveyorIsJudged : Prop :=
  (∀ (s : State) (inputs : List SensorInput), s.block.dishRuns = true → inputs.length = 8 →
    s.block.drive.inputs.length = 8 → (∀ c ∈ s.block.drive.channels, c.sensor < 8) →
    completes (.second inputs) s (fun b =>
      let c := s.block.conveyor
      let rinse := s.block.drive.channels.filter fun x => x.fitted && decide (x.role = .rinse)
      let counted := if c.state.timedHold = true ∧ c.queue ≠ [] then min 65535 (c.holdSeconds + 1) else c.holdSeconds
      ((∀ x ∈ rinse, (inputSeen s.block inputs x.sensor).status = .ok) →
        b.conveyor.rinseStatus = .ok ∧
        (∀ x ∈ rinse, b.conveyor.rinseTemp ≤ (inputSeen s.block inputs x.sensor).reading) ∧
        (rinse ≠ [] → ∃ x ∈ rinse, b.conveyor.rinseTemp = (inputSeen s.block inputs x.sensor).reading)) ∧
      ((∃ x ∈ rinse, (inputSeen s.block inputs x.sensor).status ≠ .ok) →
        b.conveyor.rinseStatus ≠ .ok ∧ b.conveyor.rinseTemp = c.rinseTemp) ∧
      b.conveyor.queue = c.queue ∧ b.conveyor.speed = c.speed ∧ b.conveyor.state = conveyorTable b ∧
      conveyorTold s.block b ∧
      (∀ n, c.advance = some (n + 1) →
        if b.conveyor.state ≠ c.state ∧ (b.conveyor.state = .running ∨ b.conveyor.state = .slowed ∨
            b.conveyor.state = .entryFault) then
          b.conveyor.advance = none ∧ offered (.advanceDone .superseded) s.block b
        else b.conveyor.advance = some n) ∧
      (∀ k, k < s.block.drive.channels.length → (channelAt k s.block).fitted = true →
        (channelAt k s.block).role ≠ .heat →
        (channelAt k b).want =
          dishWantAt b (inputSeen s.block inputs (channelAt k s.block).sensor) (channelAt k s.block)) ∧
      b.conveyor.holdSeconds = (if c.state.timedHold = true ∧ b.conveyor.state.timedHold = false then 0 else counted) ∧
      (∀ code new, c.holdPage = some code → c.state.timedHold = true → b.conveyor.state ≠ c.state →
        (b.conveyor.state.timedHold = false ∨ b.conveyor.state.holdCode = some new ∧ new ≠ code) →
        resolveMade { kind := .rackHold, subject := code } s.block b) ∧
      (∀ code, b.conveyor.state ≠ c.state → b.conveyor.state.holdCode = some code →
        b.conveyor.state.timedHold = false ∨ (c.state.timedHold = true ∧ c.holdPage ≠ none) →
        b.conveyor.holdPage = some code ∧ raiseMade { kind := .rackHold, subject := code } s.block b) ∧
      (b.conveyor.state.holdCode = none → b.conveyor.state ≠ c.state → c.state.holdCode ≠ none →
        b.conveyor.holdPage = none))) ∧
  (∀ s : State, s.block.dishRuns = true → s.block.drive.ticksDriven = 200 → s.block.drive.channels.length = 8 →
    completes .burstWindowStart s (fun b =>
      b.conveyor.speedFraction = rinseFraction b ∧
      b.conveyor.speed = s.block.cfg.vMax * b.conveyor.speedFraction / 1000 ∧ b.conveyor.state = conveyorTable b ∧
      conveyorTold s.block b ∧ advanceFollows s.block b ∧ b.conveyor.queue = s.block.conveyor.queue)) ∧
  (∀ c ∈ State.reset.block.drive.channels, c.sensor < 8) ∧
  (∀ s s' : State, (∀ c ∈ s.block.drive.channels, c.sensor < 8) → step s = .next s' →
    ∀ c ∈ s'.block.drive.channels, c.sensor < 8)

/-- A tracked entry joins the tail with the next rack number and the pending load, crowded when a rack stands within the
pitch; the loaded tally grows by its plates (R141). An entry that finds the queue full, or untracked racks waiting, is
untracked and changes no tally; where the state was another, ENTRY_FAULT raises RACK_HOLD with code 5 (R146). The head rack
at L - 1 or beyond leaves: clean when sanitized and not crowded, rewash otherwise, its plates added to that tally. Any other
report is a phantom exit, which the counter alone shows (R142). After a tracked entry, an untracked one and an exit the
conveyor state is that of R136's table, and a change into RUNNING, SLOWED or ENTRY_FAULT supersedes a manual advance (R144).
An exit in a jam reports code 4 resolved (R139), and a rack already at L + 1 behind it latches none anew (DESIGN CHOICE, log
75); one that empties the tunnel in a timed hold ends it, its page reported resolved, hold seconds 0 (R146). That the hold
page shows 5 in ENTRY_FAULT is the model's (DEDUCED, log 15). Each entry places RACK_ENTRY and each exit RACK_EXIT, and a
change of state CONVEYOR_STATE (R136, R141, R142). That an untracked entry's event carries no rack number and the discarded
load is the model's (DESIGN CHOICE, log 13). -/
def Obligations.RacksEnterAndLeave : Prop :=
  (∀ s : State, s.block.dishRuns = true →
    let c := s.block.conveyor
    let load := c.pendingLoad.getD (.plates, 0)
    (c.untracked = 0 → c.queue.length < 16 →
      completes .entrySensor s (fun b =>
        b.conveyor.queue = c.queue ++ [{
          number := c.nextRack, load := load.1, plates := load.2,
          crowded := c.queue.any fun r => decide (r.position < s.block.cfg.rackPitch) }] ∧
        b.conveyor.nextRack = (c.nextRack + 1) % 256 ∧ b.conveyor.pendingLoad = none ∧
        b.conveyor.loaded = (c.loaded + load.2) % 4294967296 ∧ b.conveyor.clean = c.clean ∧
        b.conveyor.rewash = c.rewash ∧ b.conveyor.removed = c.removed ∧ b.conveyor.state = conveyorTable b ∧
        conveyorTold s.block b ∧ advanceFollows s.block b ∧
        offered (.rackEntry (some c.nextRack) load.1 load.2 (c.queue.any fun r => decide (r.position < s.block.cfg.rackPitch)))
          s.block b ∧
        changesOnly [.drive, .conveyor, .line, .pages, .pager, .port] s.block b)) ∧
    (0 < c.untracked ∨ 16 ≤ c.queue.length →
      completes .entrySensor s (fun b =>
        b.conveyor.queue = c.queue ∧ b.conveyor.untracked = min 255 (c.untracked + 1) ∧ b.conveyor.pendingLoad = none ∧
        b.conveyor.loaded = c.loaded ∧ b.conveyor.clean = c.clean ∧ b.conveyor.rewash = c.rewash ∧
        b.conveyor.removed = c.removed ∧ b.conveyor.nextRack = c.nextRack ∧ b.conveyor.state = .entryFault ∧
        (c.state ≠ .entryFault →
          b.conveyor.holdPage = some 5 ∧ raiseMade { kind := .rackHold, subject := 5 } s.block b) ∧
        conveyorTold s.block b ∧ advanceFollows s.block b ∧ offered (.rackEntry none load.1 load.2 false) s.block b ∧
        changesOnly [.drive, .conveyor, .line, .pages, .pager, .port] s.block b))) ∧
  (∀ s : State, s.block.dishRuns = true →
    let c := s.block.conveyor
    (∀ r rest, c.queue = r :: rest → s.block.cfg.tunnelLength ≤ r.position + 1 →
      completes .exitSensor s (fun b =>
        b.conveyor.queue = rest ∧ b.conveyor.jammed = false ∧
        (if r.sanitized = true ∧ r.crowded = false then
          b.conveyor.clean = (c.clean + r.plates) % 4294967296 ∧ b.conveyor.rewash = c.rewash
        else b.conveyor.rewash = (c.rewash + r.plates) % 4294967296 ∧ b.conveyor.clean = c.clean) ∧
        b.conveyor.loaded = c.loaded ∧ b.conveyor.removed = c.removed ∧ b.conveyor.state = conveyorTable b ∧
        conveyorTold s.block b ∧ advanceFollows s.block b ∧
        offered (.rackExit r.number r.plates (if r.sanitized = true ∧ r.crowded = false then .clean else .rewash)) s.block b ∧
        (c.jammed = true → resolveMade { kind := .rackHold, subject := 4 } s.block b) ∧
        (rest = [] → c.untracked = 0 → c.state.timedHold = true →
          b.conveyor.holdSeconds = 0 ∧ b.conveyor.holdPage = none ∧
          ∀ code, c.holdPage = some code → resolveMade { kind := .rackHold, subject := code } s.block b) ∧
        changesOnly [.drive, .conveyor, .line, .pages, .pager, .port] s.block b)) ∧
    ((∀ r rest, c.queue = r :: rest → r.position + 1 < s.block.cfg.tunnelLength) →
      completes .exitSensor s (fun b =>
        b.port.counters = { s.block.port.counters with phantomExits := min 65535 (s.block.port.counters.phantomExits + 1) } ∧
        b.port.events = s.block.port.events ∧ changesOnly [.port] s.block b)))

/-! ## Pages and the pager port (chapter 9) -/

/-- At its level deadline an owned RAISED entry rises one level below 2, the top level of its cause with it (R149), and
repeats at 2, with a new deadline one ack timeout on; its RAISE joins the PAGE queue and escalations advances (R157). The
CLEAR of a clear-due entry, offered while the PAGE queue has room, is queued and the entry is removed; with no raise waiting
its place stays free (R154). Each places PAGE_CHANGE (R151). The model's own: the top level is set also where the memory has
gone on to a newer generation (DESIGN CHOICE, log 73), and an entry that another station owns by now is offered its CLEAR
all the same (DESIGN CHOICE, log 70). -/
def Obligations.PageTimersAct : Prop :=
  ∀ (s : State) (i : Nat) (e : PageEntry), s.block.runs = true → s.block.lineTakes = true →
    s.block.line.pageQueue.length < 8 → memoryCanonical s.block = true →
    (ackDue i s.block = some e →
      completes (.ackTimerExpiry i) s (fun b =>
        let e' : PageEntry := { e with
          level := if e.level < 2 then e.level + 1 else e.level,
          deadline := some (s.block.station.clock + s.block.cfg.ackTimeout) }
        pageAt i b = some e' ∧ (∀ j, j ≠ i → pageAt j b = pageAt j s.block) ∧ pageChanged e' s.block b ∧
        b.line = { s.block.line with pageQueue := s.block.line.pageQueue ++ [raiseFrame e'] } ∧
        b.port.counters = { s.block.port.counters with
          escalations := min 65535 (s.block.port.counters.escalations + 1) } ∧
        b.memory e.cause = { s.block.memory e.cause with
          topLevel := if e.level < 2 then e.level + 1 else (s.block.memory e.cause).topLevel } ∧
        changesOnly [.line, .pages, .pager, .port] s.block b)) ∧
    (clearRetryDue i s.block = some e → s.block.pages.retry = [] →
      completes (.clearRetry i) s (fun b =>
        pageAt i b = none ∧ (∀ j, j ≠ i → pageAt j b = pageAt j s.block) ∧ pageRemoved e s.block b ∧
        b.line = { s.block.line with pageQueue := s.block.line.pageQueue ++ [clearFrame e.cause e.generation] } ∧
        (b.memory e.cause).state = .cleared ∧ (b.memory e.cause).generation = e.generation ∧
        changesOnly [.line, .pages, .pager, .port] s.block b))

/-- A STATUS record sets the radio state, and five seconds without one make it DOWN (R160); a radio that turns UP has the
election decided afresh (R159). A radio that turns DOWN, by a record, by the missing records or by a SEND unanswered for two
seconds, ends the election: nothing listed, nothing outstanding (R159, R161). The elected base, radio UP and no SEND
outstanding, sends for the head of its list with the entry's fields of that moment; a TAKEN record of the same cause and
generation ends the SEND (R161, R184). An ACK record for a RAISED entry of its generation makes it ACKED and queues the PAGE
ACK (R162); where this station owns the entry and it is one-shot, the CLEAR follows it into the queue and the entry is
removed, its place staying free while no raise waits (R156). One for an ACKED entry of its generation changes nothing; one
for a cause that is not held, or of another generation, and in LOCAL every one, is counted as mismatched and changes nothing
else (R162). That an ACK record whose kind and subject name no cause at all is counted so too is the model's (DESIGN CHOICE,
log 50). That the RADIO_STATE event carries the new radio state is the model's: R160 lists no field for it (DESIGN CHOICE,
log 62). -/
def Obligations.RadioRecordsAct : Prop :=
  (∀ s : State, s.block.pagerOn = true →
    completes (.radioStatusRecord true) s (fun b =>
        b.pager.radio = .up ∧
        (s.block.pager.radio = .down → electionStands b ∧ offered (.radioState .up) s.block b) ∧
        changesOnly [.pager, .port] s.block b) ∧
    (s.block.pager.radio = .up →
      ∀ c ∈ [Instr.radioStatusRecord false, .radioStatusTimeout],
        completes c s (fun b =>
          b.pager = { radio := .down, elected := false, sendList := [], outstanding := none } ∧
          b.port = (offer (.radioState .down) s.block).port ∧ changesOnly [.pager, .port] s.block b)) ∧
    (∀ r, s.block.pager.outstanding = some r → s.block.pager.radio = .up →
      completes .sendTimeout s (fun b =>
        b.pager = { radio := .down, elected := false, sendList := [], outstanding := none } ∧
        b.port = (offer (.radioState .down) s.block).port ∧ changesOnly [.pager, .port] s.block b))) ∧
  (∀ (s : State) (c : Cause) (rest : List Cause) (e : PageEntry), s.block.pagerOn = true → s.block.pager.elected = true →
    s.block.pager.radio = .up →
    (s.block.pager.outstanding = none → s.block.pager.sendList = c :: rest → heldPage c s.block = some e →
      completes .sendRecord s (fun b =>
        b.pager = { s.block.pager with
          sendList := rest,
          outstanding := some
            { cause := c, generation := e.generation, level := e.level, priority := e.priority, owner := e.owner } } ∧
        changesOnly [.pager] s.block b)) ∧
    (∀ (r : SendRecord) (kind subject generation : Byte), s.block.pager.outstanding = some r →
      causeOf kind subject = some r.cause → generation.toNat = r.generation →
      completes (.takenRecord kind subject generation) s (fun b =>
        b.pager = { s.block.pager with outstanding := none } ∧ changesOnly [.pager] s.block b))) ∧
  (∀ (s : State) (kind subject generation : Byte), s.block.pagerOn = true →
    (∀ (c : Cause) (i : Nat) (e : PageEntry), s.block.lineTakes = true →
      causeOf kind subject = some c → locatePage c s.block = some (i, e) →
      (e.generation = generation.toNat → e.state = .raised →
        ¬(e.owner = s.block.station.strapId ∧ e.oneShot = true) → s.block.line.pageQueue.length < 8 →
        completes (.radioAckRecord kind subject generation) s (fun b =>
          pageAt i b = some { e with state := .acked, deadline := none } ∧ pageChanged { e with state := .acked } s.block b ∧
          b.line = { s.block.line with pageQueue := s.block.line.pageQueue ++ [ackFrame e.cause generation.toNat] } ∧
          changesOnly [.line, .pages, .pager, .port] s.block b)) ∧
      (e.generation = generation.toNat → e.state = .raised → e.owner = s.block.station.strapId → e.oneShot = true →
        s.block.line.pageQueue.length < 7 → s.block.pages.retry = [] →
        completes (.radioAckRecord kind subject generation) s (fun b =>
          pageAt i b = none ∧ pageChanged { e with state := .acked } s.block b ∧ pageRemoved e s.block b ∧
          b.line = { s.block.line with
            pageQueue := s.block.line.pageQueue ++
              [ackFrame e.cause generation.toNat, clearFrame e.cause generation.toNat] } ∧
          changesOnly [.line, .pages, .pager, .port] s.block b)) ∧
      (e.generation = generation.toNat → e.state = .acked →
        completes (.radioAckRecord kind subject generation) s (fun b => b = s.block)) ∧
      (e.generation ≠ generation.toNat →
        completes (.radioAckRecord kind subject generation) s (fun b => b = count .radioAcksMismatched s.block))) ∧
    (s.block.station.state = .localOnly ∨ causeOf kind subject = none ∨
        (∃ c, causeOf kind subject = some c ∧ locatePage c s.block = none) →
      completes (.radioAckRecord kind subject generation) s (fun b =>
        b = count .radioAcksMismatched s.block)))

/-! ## The service line (chapters 2, 3) -/

/-- The pending frame of highest priority: the PAGE queue, the SHIFT queue, the COURSE slot, the DEMAND slot (R48, R51). -/
def frameDue (l : Line) : Option FrameKind :=
  if l.pageQueue ≠ [] then some .page
  else if l.shiftQueue ≠ [] then some .shift
  else if l.courseSlot = true then some .course
  else if l.demandSlot = true then some .demand
  else none

/-- R48's priorities. -/
def rankOf : FrameKind → Nat
  | .page => 0
  | .shift => 1
  | .course => 2
  | .demand => 3

/-- The body of a DEMAND that starts now: the figures, the draw and the station state of this moment, with the dish part in
a DISH station and the base part in a BASE (R18, R55, R147). -/
def demandNow (s : Block) : Demand :=
  { signature := s.station.signature, kind := s.cfg.kind,
    state := if s.station.state = .active then .active else .isolated, floor := s.share.floorSelf,
    want := s.share.wantSelf, cls := s.share.classSelf, applied := s.share.applied, rising := s.share.rising,
    draw := s.drive.draw, rated := s.cfg.ratedLoad,
    dish := if s.cfg.kind = .dish then some ⟨s.conveyor.clean % 65536, s.conveyor.state⟩ else none,
    base := if s.cfg.kind = .base then some s.pager.radio else none }

/-- A pass offset at this moment (R56, R122). -/
def offsetNow (passTime : Nat) (s : Block) : Nat := min 65535 (passTime - s.station.clock)

/-- The entries of a COURSE frame that starts now: one for each course in use, in ascending entry index (R55, R122). -/
def courseItemsNow (s : Block) : List CourseItem :=
  (s.plan.courses.filterMap id).map fun c =>
    { tag := c.tag, version := c.version, offset := offsetNow c.passTime s, state := c.state, hold := c.hold }

/-- The kind's own sequence number, kind byte and body of a frame that starts now (R18, R55, R56, R58, R122, R177, R179). -/
def startsAs (s : Block) (k : FrameKind) (sequence : Nat) (kind : Byte) (body : List Byte) : Prop :=
  match k with
  | .page => sequence = s.line.seqPage ∧ ∃ f rest, s.line.pageQueue = f :: rest ∧ body = pageBytes f ∧
      kind = (match f.sub with
        | .raise => 0x11
        | .ack => 0x12
        | .clear => 0x13)
  | .shift => sequence = s.line.seqShift ∧ kind = 0x20 ∧ ∃ x rest, s.line.shiftQueue = x :: rest ∧
      body = shiftBytes { tag := x.tag, version := x.version, offset := offsetNow x.passTime s, hold := x.hold }
  | .course => sequence = s.line.seqCourse ∧ kind = 0x30 ∧ body = courseBytes (courseItemsNow s)
  | .demand => sequence = s.line.seqDemand ∧ kind = 0x40 ∧ body = demandBytes (demandNow s)

/-- The slots of different stations that reckon from one last sender, and of different priorities, are all different, and
each lies in its priority's range of 32: that of priority p is p × 32 + ((own id - last - 1) mod 32), and with last sender
NONE p × 32 + own id (R51, R52). Sixteen idle bit times in SEEKING or GAP begin an access cycle at slot 0; activity in GAP
or CYCLE, or at the start of a slot, makes the interface RECEIVING (R50, R52). At the start of a slot with the line at rest,
a station in ACTIVE or ISOLATED whose offered frame has that slot starts it: TRANSMITTING, the frame from start flag to
check word in flight, its body built at that moment from what its owner holds (R18, R55, R56, R122), with its kind's
sequence number; the frame offered is the one of highest priority (R48, R51); a station that is not at its slot, has nothing
pending, or does not transmit, stays in CYCLE (R51, R52, R58, R64). The flag of a slot begun is the model's (log 25). -/
def Obligations.SlotsAreReckonedAndTaken : Prop :=
  (∀ (own other p q : Nat) (last : Option Nat), own ≤ 31 → other ≤ 31 → p ≤ 3 → q ≤ 3 → (∀ l, last = some l → l ≤ 31) →
    (slotOf own last p = slotOf other last q → own = other ∧ p = q) ∧
      32 * p ≤ slotOf own last p ∧ slotOf own last p < 32 * p + 32 ∧ slotOf own none p = 32 * p + own ∧
      (∀ l, last = some l → (slotOf own last p : Int) = 32 * p + ((own : Int) - l - 1) % 32)) ∧
  (∀ s : State, s.block.runs = true →
    (s.block.line.position = .seeking ∨ s.block.line.position = .gap →
      completes .gapEnd s (fun b =>
        b.line = { s.block.line with position := .cycle, slot := 0, slotBegun := false } ∧ changesOnly [.line] s.block b)) ∧
    (s.block.line.position = .gap ∨ s.block.line.position = .cycle →
      completes .lineActivitySeen s (fun b =>
        b.line = { s.block.line with position := .receiving } ∧ changesOnly [.line] s.block b)) ∧
    (s.block.line.position = .cycle →
      completes (.slotStart false) s (fun b =>
        b.line = { s.block.line with slot := s.block.line.nextSlot, slotBegun := true, position := .receiving } ∧
        changesOnly [.line] s.block b) ∧
      completes (.slotStart true) s (fun b =>
        let n := s.block.line.nextSlot
        (∀ k, s.block.station.state.transmits = true → frameDue s.block.line = some k →
          slotOf s.block.station.strapId s.block.line.lastSender (rankOf k) = n →
          ∃ sequence kind body, startsAs s.block k sequence kind body ∧
            b.line = { s.block.line with
              slot := n, slotBegun := true, position := .transmitting,
              inFlight := some {
                kind := k, sequence := sequence,
                bytes := frameBytes s.block.station.strapId kind sequence body } }) ∧
        ((s.block.station.state.transmits = false ∨ frameDue s.block.line = none ∨
            ∃ k, frameDue s.block.line = some k ∧
              slotOf s.block.station.strapId s.block.line.lastSender (rankOf k) ≠ n) →
          b.line = { s.block.line with slot := n, slotBegun := true }) ∧
        changesOnly [.line] s.block b)))

/-- Completion: frames sent and the kind's sequence counter advance, the last sender is this station, the interface is in
GAP, and the slot or queue head of that kind alone is emptied, a slot marked again staying pending (R53, R58). Collision:
collisions advance, the last sender is NONE, no sequence counter moves. A PAGE or a SHIFT frame keeps its place with one
more attempt and is dropped, and counted, at the fourth; a DEMAND or COURSE leaves its slot unless it was marked again, and
is not counted (R54). The rest of the line that R54 waits for before GAP is not modelled: the interface is in GAP at once
(DEDUCED, log 31). -/
def Obligations.TransmissionsCompleteOrCollide : Prop :=
  (∀ (s : State) (f : Flight), s.block.runs = true → s.block.line.position = .transmitting →
    s.block.line.inFlight = some f →
    completes .transmissionComplete s (fun b =>
      b.line.position = .gap ∧ b.line.inFlight = none ∧ b.line.lastSender = some s.block.station.strapId ∧
      b.line.seqPage = (if f.kind = .page then (s.block.line.seqPage + 1) % 256 else s.block.line.seqPage) ∧
      b.line.seqShift = (if f.kind = .shift then (s.block.line.seqShift + 1) % 256 else s.block.line.seqShift) ∧
      b.line.seqCourse = (if f.kind = .course then (s.block.line.seqCourse + 1) % 256 else s.block.line.seqCourse) ∧
      b.line.seqDemand = (if f.kind = .demand then (s.block.line.seqDemand + 1) % 256 else s.block.line.seqDemand) ∧
      b.line.pageQueue = (if f.kind = .page then s.block.line.pageQueue.drop 1 else s.block.line.pageQueue) ∧
      b.line.shiftQueue = (if f.kind = .shift then s.block.line.shiftQueue.drop 1 else s.block.line.shiftQueue) ∧
      b.line.courseSlot = (if f.kind = .course then f.markedAgain else s.block.line.courseSlot) ∧
      b.line.demandSlot = (if f.kind = .demand then f.markedAgain else s.block.line.demandSlot) ∧
      b.port.counters =
        { s.block.port.counters with framesSent := min 65535 (s.block.port.counters.framesSent + 1) } ∧
      changesOnly [.line, .port] s.block b)) ∧
  (∀ (s : State) (f : Flight), s.block.runs = true → s.block.line.position = .transmitting →
    s.block.line.inFlight = some f →
    completes .collision s (fun b =>
      b.line.position = .gap ∧ b.line.inFlight = none ∧ b.line.lastSender = none ∧
      b.line.seqPage = s.block.line.seqPage ∧ b.line.seqShift = s.block.line.seqShift ∧
      b.line.seqCourse = s.block.line.seqCourse ∧ b.line.seqDemand = s.block.line.seqDemand ∧
      b.port.counters.collisions = min 65535 (s.block.port.counters.collisions + 1) ∧
      (∀ x rest, f.kind = .page → s.block.line.pageQueue = x :: rest →
        if x.attempts + 1 < 4 then
          b.line.pageQueue = { x with attempts := x.attempts + 1 } :: rest ∧
            b.port.counters.framesDropped = s.block.port.counters.framesDropped
        else
          b.line.pageQueue = rest ∧
            b.port.counters.framesDropped = min 65535 (s.block.port.counters.framesDropped + 1)) ∧
      (∀ x rest, f.kind = .shift → s.block.line.shiftQueue = x :: rest →
        if x.attempts + 1 < 4 then
          b.line.shiftQueue = { x with attempts := x.attempts + 1 } :: rest ∧
            b.port.counters.framesDropped = s.block.port.counters.framesDropped
        else
          b.line.shiftQueue = rest ∧
            b.port.counters.framesDropped = min 65535 (s.block.port.counters.framesDropped + 1)) ∧
      (f.kind ≠ .page → b.line.pageQueue = s.block.line.pageQueue) ∧
      (f.kind ≠ .shift → b.line.shiftQueue = s.block.line.shiftQueue) ∧
      (f.kind = .course ∨ f.kind = .demand →
        b.port.counters.framesDropped = s.block.port.counters.framesDropped) ∧
      b.line.courseSlot = (if f.kind = .course then f.markedAgain else s.block.line.courseSlot) ∧
      b.line.demandSlot = (if f.kind = .demand then f.markedAgain else s.block.line.demandSlot) ∧
      b.port.events = s.block.port.events ∧ changesOnly [.line, .port] s.block b))

/-- The command of a frame of a form of R48 received whole. -/
def frameOf (form : FrameForm) (source sequence : Byte) (body : List Byte) : Instr :=
  match form with
  | .raise => .pageRaiseFrame source sequence body
  | .ack => .pageAckFrame source sequence body
  | .clear => .pageClearFrame source sequence body
  | .shift => .shiftFrame source sequence body
  | .course => .courseFrame source sequence body
  | .demand => .demandFrame source sequence body

/-- A corrupt frame, on any ground, advances check errors and makes the last sender NONE (R60). A valid frame of unknown kind
or unadmitted length (R61), and a DEMAND, COURSE, SHIFT or PAGE frame whose body a field check rejects (R180), advance check
errors and make their source the last sender. Nothing else changes. That a corrupt frame is taken in GAP and CYCLE as in
RECEIVING, and that the interface is in GAP at once, without the wait of R60 for the line to rest, is DEDUCED (log 31). -/
def Obligations.BadFramesAreCountedOnly : Prop :=
  ∀ s : State, listening s.block = true →
    (∀ cause, completes (.corruptFrame cause) s (fun b =>
      b.line = { s.block.line with lastSender := none, position := .gap } ∧
      b.port = (count .checkErrors s.block).port ∧ changesOnly [.line, .port] s.block b)) ∧
    (∀ (source kind sequence : Byte) (body : List Byte), unknownOk source kind body = true →
      source.toNat ≠ s.block.station.strapId →
      completes (.unknownFrame source kind sequence body) s (fun b =>
        b.line = { s.block.line with lastSender := some source.toNat, position := .gap } ∧
        b.port = (count .checkErrors s.block).port ∧ changesOnly [.line, .port] s.block b)) ∧
    (∀ (form : FrameForm) (source sequence : Byte) (body : List Byte), source.toNat ≤ 31 →
      source.toNat ≠ s.block.station.strapId → form.admits body.length = true → parseBody form body = none →
      completes (frameOf form source sequence body) s (fun b =>
        b.line = { s.block.line with lastSender := some source.toNat, position := .gap } ∧
        b.port = (count .checkErrors s.block).port ∧ changesOnly [.line, .port] s.block b))

/-- The commands that are a frame received whole from `source`: the six forms, and a frame of any kind byte that R61 does not
know. -/
def framesFrom (source kind sequence : Byte) (body : List Byte) : List Instr :=
  [.demandFrame source sequence body, .courseFrame source sequence body, .shiftFrame source sequence body,
    .pageRaiseFrame source sequence body, .pageAckFrame source sequence body, .pageClearFrame source sequence body,
    .unknownFrame source kind sequence body]

/-- A frame of any kind that bears this station's own id makes a station in LISTEN, ACTIVE or ISOLATED LOCAL: its slots and
queues are empty, its grant is cut to the safe allowance and it is not the elected base, with the STATE_CHANGE event; the
frame itself reaches no block and no counter (R17, R43, R44, R46, R65, R159). That the last sender stands (log 32) and that
the interface is in GAP at once (log 31) are DEDUCED. -/
def Obligations.DuplicateIdMakesLocal : Prop :=
  ∀ (s : State) (source kind sequence : Byte) (body : List Byte) (c : Instr),
    c ∈ framesFrom source kind sequence body →
    listening s.block = true → s.block.station.state ≠ .localOnly → source.toNat = s.block.station.strapId →
    source.toNat ≤ 31 → body.length ≤ 56 →
    completes c s (fun b =>
      b.station = { s.block.station with state := .localOnly, reason := .duplicateId } ∧
      b.line = { s.block.line with
        demandSlot := false, courseSlot := false, shiftQueue := [], pageQueue := [], position := .gap } ∧
      b.share = { s.block.share with applied := min s.block.share.applied s.block.cfg.safeAllowance } ∧
      b.pager = { s.block.pager with elected := false, sendList := [], outstanding := none } ∧
      offered (.stateChange s.block.station.state .localOnly .duplicateId) s.block b ∧
      b.port.counters = s.block.port.counters ∧ changesOnly [.station, .share, .line, .pager, .port] s.block b)

/-- R59's table for a pending PAGE frame: `heard` is what the frame just processed says of a page, the table stands as it
left it. -/
def overruled (heard : Option (PageSub × Cause × Nat)) (b : Block) (f : PageFrame) : Bool :=
  match f.sub with
  | .raise => (heldPage f.cause b).all fun e => decide (e.owner < f.owner) || newer e.generation f.generation
  | .ack => heard.any fun h => decide (h.1 ≠ .raise ∧ h.2.1 = f.cause) &&
      (decide (h.2.2 = f.generation) || newer h.2.2 f.generation)
  | .clear => heard.any fun h => decide (h.2.1 = f.cause) &&
      ((decide (h.1 = .clear ∧ h.2.2 = f.generation)) || (decide (h.1 ≠ .ack) && newer h.2.2 f.generation))

/-- R59's table for a pending SHIFT: its tag is gone, or the course has adopted a newer version from the line. -/
def shiftOverruled (b : Block) (x : ShiftEntry) : Bool :=
  (locateCourse x.tag b).all fun y => y.2.adopted && newer y.2.version x.version

/-- The withdrawal after a frame (R59): no overruled PAGE frame and no overruled SHIFT waits, every other one that waited
still does, in its order and at its attempts, before what the frame added. -/
def withdrawsOverruled (heard : Option (PageSub × Cause × Nat)) (s b : Block) : Prop :=
  (∃ added, b.line.pageQueue = (s.line.pageQueue.filter fun f => !overruled heard b f) ++ added) ∧
    (∀ f ∈ b.line.pageQueue, overruled heard b f = false) ∧
    b.line.shiftQueue = s.line.shiftQueue.filter fun x => !shiftOverruled b x

/-- The frames missed between an entry's last sequence and an accepted one (R63): the gap less one, 0 without an entry. -/
def missedFrames (s : Block) (source sequence : Byte) : Nat :=
  match findPeer source.toNat s with
  | some old => (sequence.toNat + 256 - old.lastSequence % 256) % 256 - 1
  | none => 0

/-- An accepted DEMAND makes or replaces its sender's entry with the frame's figures, clamped, at age 0, and leaves every
other entry; the missed count and the sequence gaps counter grow by the sequence gap less one (R25, R26, R63). STATION_LOST
of the sender is reported resolved (R29). A signature other than the station's own raises CONFIG_MISMATCH of the sender,
left to other statements where the frame has sequence 0 and finds the entry STALE, a restart that may clear it (R63); its
own signature reports it resolved (R31). The PAGE and SHIFT frames it overrules are withdrawn (R59). -/
def Obligations.DemandReplacesItsEntry : Prop :=
  ∀ (s : State) (source sequence : Byte) (body : List Byte) (d : Demand), listening s.block = true →
    source.toNat ≤ 31 → source.toNat ≠ s.block.station.strapId → FrameForm.demand.admits body.length = true →
    parseDemand body = some d →
    completes (.demandFrame source sequence body) s (fun b =>
      findPeer source.toNat b = some
        { id := source.toNat, kind := d.kind, signature := d.signature, state := d.state, floor := min 800 d.floor,
          want := min 800 d.want, cls := d.cls, applied := min 800 d.applied, rising := d.rising, draw := min 2040 d.draw,
          rated := min 800 d.rated, lastSequence := sequence.toNat,
          missed := (match findPeer source.toNat s.block with
            | some old => min 65535 (old.missed + missedFrames s.block source sequence)
            | none => 0),
          age := 0, dish := d.dish, base := d.base } ∧
      (∀ other, other ≠ source.toNat → findPeer other b = findPeer other s.block) ∧
      b.line.lastSender = some source.toNat ∧
      b.port.counters.framesReceived = min 65535 (s.block.port.counters.framesReceived + 1) ∧
      b.port.counters.sequenceGaps =
        min 65535 (s.block.port.counters.sequenceGaps + missedFrames s.block source sequence) ∧
      (∀ (c : Cause) (i : Nat) (e : PageEntry), c.subject = source.toNat →
        c.kind = .stationLost ∨ (c.kind = .configMismatch ∧ d.signature = s.block.station.signature) →
        locatePage c s.block = some (i, e) → e.owner = s.block.station.strapId → s.block.lineTakes = true →
        s.block.line.pageQueue.length < 6 → isWaiting c s.block = false →
        (∀ j x, pageAt j s.block = some x → x.cause = c → j = i) →
        clearFrame c e.generation ∈ b.line.pageQueue ∧ heldPage c b = none ∧ pageRemoved e s.block b) ∧
      withdrawsOverruled none s.block b ∧
      (d.signature ≠ s.block.station.signature →
        ¬(sequence = 0 ∧ ∃ old, findPeer source.toNat s.block = some old ∧ 3 ≤ old.age) →
        raiseMade { kind := .configMismatch, subject := source.toNat } s.block b) ∧
      changesOnly [.peers, .plan, .line, .pages, .pager, .port] s.block b)

/-- A course after R124's comparison with one entry of a frame received at second `now`: version, pass time and hold of a newer
one, its own otherwise. -/
def versionAfter (now : Nat) (held : Nat × Nat × Bool) (x : CourseItem) : Nat × Nat × Bool :=
  if newer x.version held.1 then (x.version, now + x.offset, x.hold) else held

/-- A SHIFT frame whose version for a held tag is newer gives the course that version, pass time and hold; one that is not
newer leaves them; it moves neither participants nor ready set (R124, R127). A COURSE frame is taken entry by entry in
order: for every held course it names, each newer version is adopted in turn, and its last entry for the tag decides whether
its source is a participant and stands in the ready set; its source leaves both sets of every held course it does not name,
and joins the heard set (R123, R124). Entries of tags not held change nothing. Grant, peers, channels and tasks stand. Every
adoption places COURSE_SHIFT with both versions, the new pass time and the hold flag (R124), and what the frame overrules is
withdrawn (R59); that a course tells an adopted version from its own is a field of the model's (DEDUCED, log 29). -/
def Obligations.CourseFramesReachTheCourses : Prop :=
  (∀ (s : State) (source sequence : Byte) (body : List Byte) (x : ShiftBody), listening s.block = true →
    source.toNat ≤ 31 → source.toNat ≠ s.block.station.strapId → body.length = 5 → parseShift body = some x →
    completes (.shiftFrame source sequence body) s (fun b =>
      (∀ i c, locateCourse x.tag s.block = some (i, c) →
        ∃ c', courseAt i b = some c' ∧ c'.tag = c.tag ∧ c'.participants = c.participants ∧ c'.readySet = c.readySet ∧
          (newer x.version c.version = true →
            c'.version = x.version ∧ c'.passTime = s.block.station.clock + x.offset ∧ c'.hold = x.hold ∧
            offered (.courseShift c.tag c.version x.version (s.block.station.clock + x.offset) x.hold) s.block b) ∧
          (newer x.version c.version = false →
            c'.version = c.version ∧ c'.passTime = c.passTime ∧ c'.hold = c.hold)) ∧
      (locateCourse x.tag s.block = none → b.plan = s.block.plan) ∧ withdrawsOverruled none s.block b ∧
      b.plan.tasks = s.block.plan.tasks ∧ b.plan.profiles = s.block.plan.profiles ∧
      changesOnly [.plan, .line, .pages, .pager, .port] s.block b)) ∧
  (∀ (s : State) (source sequence : Byte) (body : List Byte) (items : List CourseItem),
    listening s.block = true → source.toNat ≤ 31 → source.toNat ≠ s.block.station.strapId →
    FrameForm.course.admits body.length = true → parseCourse body = some items →
    completes (.courseFrame source sequence body) s (fun b =>
      (∀ tag i c, locateCourse tag s.block = some (i, c) →
        let mine := items.filter fun x => decide (x.tag = tag)
        ∃ c', courseAt i b = some c' ∧ c'.tag = tag ∧
          (c'.version, c'.passTime, c'.hold) =
            mine.foldl (versionAfter s.block.station.clock) (c.version, c.passTime, c.hold) ∧
          (∀ pre x post, mine = pre ++ x :: post →
            let held := pre.foldl (versionAfter s.block.station.clock) (c.version, c.passTime, c.hold)
            newer x.version held.1 = true →
            offered (.courseShift tag held.1 x.version (s.block.station.clock + x.offset) x.hold) s.block b) ∧
          (mine = [] → c'.participants = dropId source.toNat c.participants ∧
            c'.readySet = dropId source.toNat c.readySet) ∧
          (∀ x, mine.getLast? = some x →
            (∀ id, id < 32 → hasId c'.participants id =
              if id = source.toNat then decide (x.state ≠ .empty) else hasId c.participants id) ∧
            (∀ id, id < 32 → hasId c'.readySet id =
              if id = source.toNat then decide (x.state = .ready) || decide (x.state = .passed)
              else hasId c.readySet id))) ∧
      b.coord = { s.block.coord with heard := addId source.toNat s.block.coord.heard } ∧ withdrawsOverruled none s.block b ∧
      b.plan.tasks = s.block.plan.tasks ∧ b.plan.profiles = s.block.plan.profiles ∧
      changesOnly [.plan, .coord, .line, .pages, .pager, .port] s.block b))

/-- R120's table for the course of entry `i`, over the tasks and the clock a command leaves. -/
def courseTable (i : Nat) (c : Course) (b : Block) : CourseState :=
  let mine := (b.plan.tasks.filterMap id).filter fun k => decide (k.course = i ∧ k.state ≠ .cancelled)
  if c.passed = true then .passed
  else if mine = [] then .empty
  else if ∃ k ∈ mine, k.state = .faulted then .fault
  else if ∀ k ∈ mine, k.state = .ready ∨ k.state = .passed then .ready
  else if c.passTime ≤ b.station.clock then .late
  else .pending

/-- R128's condition: the course READY or PASSED, and every participant's entry FRESH and in the ready set. -/
def allReadyHolds (c : Course) (b : Block) : Prop :=
  (c.state = .ready ∨ c.state = .passed) ∧
    ∀ id, id < 32 → hasId c.participants id = true →
      hasId c.readySet id = true ∧ ∃ p, findPeer id b = some p ∧ p.age < 3

/-- All-ready of every course follows its condition, and raises COURSE_READY where it passed from no to yes (R128). -/
def readinessFollows (s b : Block) : Prop :=
  ∀ i c c', i < 8 → courseAt i s = some c → courseAt i b = some c' →
    (c'.allReady = true ↔ allReadyHolds c' b) ∧
    (c.allReady = false → c'.allReady = true → raiseMade { kind := .courseReady, subject := c.tag } s b)

/-- After a second every course has the state of R120's table for its tasks and the clock, a change placing COURSE_STATE;
late due as R129 gives it; and COURSE_LATE is held, waits or is raised while late due is yes, and is reported resolved at a
change into READY, PASSED or EMPTY (R129, R130); these two for a tag no other entry bears. All-ready and COURSE_READY follow
R128 at every second, every round, and every accepted DEMAND and COURSE frame. The second of late due's last rise is the
model's field (log 51). That courses are judged after the tasks of the same second is the model's order (DEDUCED, log 10).
-/
def Obligations.CoursesFollowTheirTasks : Prop :=
  (∀ (s : State) (inputs : List SensorInput), s.block.runs = true → inputs.length = 8 → s.block.drive.inputs.length = 8 →
    completes (.second inputs) s (fun b =>
      readinessFollows s.block b ∧
      ∀ i c, i < 8 → courseAt i s.block = some c → ∃ c', courseAt i b = some c' ∧
        c' = { c with state := c'.state, lateDue := c'.lateDue, lateSince := c'.lateSince, allReady := c'.allReady } ∧
        c'.state = courseTable i c b ∧
        (c'.state ≠ c.state → offered (.courseState c.tag c.state c'.state c.version) s.block b) ∧
        (c'.lateDue = true ↔ c'.state = .late ∨ (c'.state = .fault ∧ c.passTime ≤ b.station.clock)) ∧
        ((∀ j x, courseAt j s.block = some x → x.tag = c.tag → j = i) →
          (c'.lateDue = true → c.lateDue = false ∨ c.lateSince ≠ b.station.clock →
            raiseMade { kind := .courseLate, subject := c.tag } s.block b) ∧
          (c'.state ≠ c.state → c'.state = .ready ∨ c'.state = .passed ∨ c'.state = .empty →
            resolveMade { kind := .courseLate, subject := c.tag } s.block b)))) ∧
  (∀ s : State, s.block.runs = true → s.block.station.announceTimer.isSome = true →
    completes .round s (fun b => readinessFollows s.block b)) ∧
  (∀ (s : State) (source sequence : Byte) (body : List Byte), listening s.block = true → source.toNat ≤ 31 →
    source.toNat ≠ s.block.station.strapId →
    (FrameForm.demand.admits body.length = true → (parseDemand body).isSome = true →
      completes (.demandFrame source sequence body) s (fun b => readinessFollows s.block b)) ∧
    (FrameForm.course.admits body.length = true → (parseCourse body).isSome = true →
      completes (.courseFrame source sequence body) s (fun b => readinessFollows s.block b)))

/-- The top level that the generation memory holds for a cause at generation `g` (R149). -/
def topLevelAt (s : Block) (c : Cause) (g : Nat) : Nat :=
  if (s.memory c).state ≠ .never ∧ (s.memory c).generation = g then (s.memory c).topLevel else 0

/-- The copy of a heard RAISE (R155), with the merges of a raise of its cause that waited (R153). -/
def copyOf (f : RaiseBody) (s : Block) : PageEntry :=
  { cause := f.cause, generation := f.generation, owner := f.owner,
    level := max f.level (topLevelAt s f.cause f.generation), state := .raised, priority := f.priority,
    merges := min 255 (1 + (s.pages.retry.find? fun w => decide (w.cause = f.cause)).elim 0 fun w => w.merges),
    raisedAt := s.station.clock,
    deadline := if f.owner = s.station.strapId then some (s.station.clock + s.cfg.ackTimeout) else none,
    oneShot := decide (f.cause.kind = .courseReady) || decide (f.cause.kind = .staffCall) || f.adopted,
    adopted := f.adopted, clearDue := false }

/-- The RAISE is one of a page already cleared or overtaken (R155). -/
def raiseLate (f : RaiseBody) (s : Block) : Prop :=
  (s.memory f.cause).state ≠ .never ∧
    (newer (s.memory f.cause).generation f.generation = true ∨
      ((s.memory f.cause).generation = f.generation ∧ (s.memory f.cause).state = .cleared))

/-- Entry `i` is the one R155 evicts for a frame of a priority: not owned by this station, of lower priority than the frame,
and lowest in priority, then oldest, among those it does not own. -/
def evicted (i : Nat) (e : PageEntry) (priority : Nat) (s : Block) : Prop :=
  pageAt i s = some e ∧ e.owner ≠ s.station.strapId ∧ e.priority < priority ∧
    ∀ j x, pageAt j s = some x → x.owner ≠ s.station.strapId →
      e.priority < x.priority ∨ (e.priority = x.priority ∧
        (e.raisedAt < x.raisedAt ∨ (e.raisedAt = x.raisedAt ∧ i ≤ j)))

/-- Entry `i` holds the copy, a waiting raise of its cause is gone, every other entry stands, the memory is OPEN at the
frame's generation with the copy's level as top level, PAGE_CHANGE is placed and the elected base lists it (R149, R151,
R153, R155, R157, R161). -/
def copied (i : Nat) (f : RaiseBody) (s b : Block) : Prop :=
  pageAt i b = some (copyOf f s) ∧ (∀ j, j ≠ i → pageAt j b = pageAt j s) ∧ isWaiting f.cause b = false ∧
    b.memory f.cause = { state := .opened, generation := f.generation, topLevel := (copyOf f s).level } ∧
    pageChanged (copyOf f s) s b ∧ (s.pager.elected = true → f.cause ∈ b.pager.sendList)

/-- A heard RAISE makes a copy of its page (R155): in the lowest free entry when the table does not hold its cause and it is
not late; in place of an entry of an older generation, whoever owned it; and, in a full table, in place of the entry of
lowest priority, oldest among those, that this station does not own, where its priority is below the frame's, pages dropped
advancing. In LOCAL an entry this station owns is left alone (R164). That the level a copy begins with is remembered, so
that one made again for its generation begins no lower, is R149 read with R157 (DEDUCED, log 20); that an eviction places
two events is DEDUCED (log 42). -/
def Obligations.HeardRaiseMakesACopy : Prop :=
  ∀ (s : State) (source sequence : Byte) (body : List Byte) (f : RaiseBody), listening s.block = true →
    source.toNat ≤ 31 → source.toNat ≠ s.block.station.strapId → body.length = 7 → parseRaise body = some f →
    memoryCanonical s.block = true →
    completes (.pageRaiseFrame source sequence body) s (fun b =>
      (∀ i, locatePage f.cause s.block = none → ¬ raiseLate f s.block → freePage s.block = some i →
        copied i f s.block b) ∧
      (∀ i e, locatePage f.cause s.block = some (i, e) → newer f.generation e.generation = true →
        ¬(s.block.station.state = .localOnly ∧ e.owner = s.block.station.strapId) → copied i f s.block b) ∧
      (∀ i e, locatePage f.cause s.block = none → ¬ raiseLate f s.block → freePage s.block = none →
        evicted i e f.priority s.block →
        copied i f s.block b ∧ pageRemoved e s.block b ∧
        b.port.counters.pagesDropped = min 65535 (s.block.port.counters.pagesDropped + 1)) ∧
      changesOnly [.line, .pages, .pager, .port] s.block b)

/-- A heard RAISE of the entry's own generation merges (R155): the higher level, for STAFF_CALL the higher priority, the
owner by the adopted flags and then the lower id, the ack timer with the ownership; a station that keeps the page against a
higher id queues its own RAISE, one that holds it ACKED queues the ACK, and the elected base lists a RAISED one again
(R161). A RAISE that is late, or older than the entry, or in LOCAL of an entry this station owns, changes no entry (R155,
R164); nor does one that finds the table full of entries it may not evict, which is counted as dropped while the memory
learns its generation. That a merge with an adopted frame makes the entry adopted and one-shot is the model's reading of
R155 and R158 (DEDUCED, log 18). A change of level or owner places PAGE_CHANGE (R151), and what the frame overrules is
withdrawn (R59). The model's own besides: the top level is set also where the memory has gone on to a newer generation
(DESIGN CHOICE, log 73), and a clear-due entry whose ownership passes stays clear due (DESIGN CHOICE, log 70). -/
def Obligations.HeardRaiseMeetsItsEntry : Prop :=
  ∀ (s : State) (source sequence : Byte) (body : List Byte) (f : RaiseBody), listening s.block = true →
    source.toNat ≤ 31 → source.toNat ≠ s.block.station.strapId → body.length = 7 → parseRaise body = some f →
    memoryCanonical s.block = true →
    completes (.pageRaiseFrame source sequence body) s (fun b =>
      (∀ i e, locatePage f.cause s.block = some (i, e) → e.generation = f.generation →
        ¬(s.block.station.state = .localOnly ∧ e.owner = s.block.station.strapId) →
        let owner := if f.adopted = true ∧ e.adopted = false then f.owner
          else if e.adopted = true ∧ f.adopted = false then e.owner else min e.owner f.owner
        let e' : PageEntry := { e with
          level := max e.level f.level,
          priority := if e.cause.kind = .staffCall then max e.priority f.priority else e.priority,
          owner := owner, adopted := e.adopted || f.adopted, oneShot := e.oneShot || e.adopted || f.adopted,
          deadline := if owner ≠ s.block.station.strapId then none
            else if e.owner ≠ s.block.station.strapId ∧ e.state = .raised then
              some (s.block.station.clock + s.block.cfg.ackTimeout)
            else e.deadline }
        pageAt i b = some e' ∧ (∀ j, j ≠ i → pageAt j b = pageAt j s.block) ∧
        (e.level < f.level → (b.memory f.cause).topLevel = f.level) ∧
        (e.level < f.level ∨ owner ≠ e.owner → pageChanged e' s.block b) ∧
        (s.block.station.state ≠ .localOnly → s.block.line.pageQueue.length < 7 →
          (e.owner = s.block.station.strapId → owner = s.block.station.strapId → s.block.station.strapId < f.owner →
            raiseFrame e' ∈ b.line.pageQueue) ∧
          (e.state = .acked → ackFrame e.cause e.generation ∈ b.line.pageQueue)) ∧
        (s.block.pager.elected = true → e.state = .raised → e.clearDue = false → f.cause ∈ b.pager.sendList)) ∧
      ((locatePage f.cause s.block = none ∧ raiseLate f s.block) ∨
          (∃ i e, locatePage f.cause s.block = some (i, e) ∧
            ((newer f.generation e.generation = false ∧ f.generation ≠ e.generation) ∨
              (s.block.station.state = .localOnly ∧ e.owner = s.block.station.strapId))) →
        b.pages.table = s.block.pages.table ∧ b.pages.retry = s.block.pages.retry ∧ b.pager = s.block.pager ∧
          b.port.counters.pagesDropped = s.block.port.counters.pagesDropped) ∧
      (locatePage f.cause s.block = none → ¬ raiseLate f s.block → freePage s.block = none →
        (∀ i e, pageAt i s.block = some e → e.owner = s.block.station.strapId ∨ f.priority ≤ e.priority) →
        b.pages.table = s.block.pages.table ∧ b.pages.retry = s.block.pages.retry ∧ b.pager = s.block.pager ∧
          b.port.counters.pagesDropped = min 65535 (s.block.port.counters.pagesDropped + 1) ∧
          ((s.block.memory f.cause).state = .never ∨
              newer f.generation (s.block.memory f.cause).generation = true →
            b.memory f.cause = { state := .opened, generation := f.generation, topLevel := 0 })) ∧
      withdrawsOverruled (some (.raise, f.cause, f.generation)) s.block b ∧
      changesOnly [.line, .pages, .pager, .port] s.block b)

/-- A heard ACK of the generation of a RAISED entry makes it ACKED; where this station owns it and it is one-shot, the CLEAR
of that generation is queued and the entry removed, or the full PAGE queue leaves it clear due (R154, R156). An ACK for an
entry already ACKED, or of another generation, changes no entry. A heard CLEAR of the entry's generation or a newer one
removes it, whoever owns it, the memory becoming CLEARED, and one older than the entry leaves it (R149, R156). An entry
removed while no raise waits leaves its place free. In LOCAL an entry this station owns is left alone by both (R164). Each
change places PAGE_CHANGE (R151). After every ACK and CLEAR, held cause or not, the frames it overrules are withdrawn (R59).
-/
def Obligations.HeardAckAndClear : Prop :=
  (∀ (s : State) (source sequence : Byte) (body : List Byte) (c : Cause) (i : Nat) (e : PageEntry),
    listening s.block = true → source.toNat ≤ 31 → source.toNat ≠ s.block.station.strapId → body.length = 3 →
    causeOf (body.getD 0 0) (body.getD 1 0) = some c → locatePage c s.block = some (i, e) →
    memoryCanonical s.block = true →
    let own := e.owner = s.block.station.strapId
    let barred := s.block.station.state = .localOnly ∧ own
    completes (.pageAckFrame source sequence body) s (fun b =>
      (at1 body 2 = e.generation → e.state = .raised → ¬ barred → ¬(own ∧ e.oneShot = true) →
        pageAt i b = some { e with state := .acked, deadline := none } ∧ c ∉ b.pager.sendList ∧
          pageChanged { e with state := .acked } s.block b) ∧
      (at1 body 2 = e.generation → e.state = .raised → ¬ barred → own → e.oneShot = true →
        (s.block.line.pageQueue.length < 8 → s.block.pages.retry = [] →
          pageAt i b = none ∧ clearFrame c e.generation ∈ b.line.pageQueue ∧ c ∉ b.pager.sendList ∧
            (b.memory c).state = .cleared ∧ pageChanged { e with state := .acked } s.block b ∧ pageRemoved e s.block b) ∧
        (8 ≤ s.block.line.pageQueue.length →
          (∃ x, pageAt i b = some x ∧ x.clearDue = true ∧ x.state = .acked ∧ x.generation = e.generation) ∧
            c ∉ b.pager.sendList)) ∧
      (at1 body 2 ≠ e.generation ∨ e.state = .acked ∨ barred →
        b.pages.table = s.block.pages.table ∧ b.pager = s.block.pager) ∧
      changesOnly [.line, .pages, .pager, .port] s.block b) ∧
    completes (.pageClearFrame source sequence body) s (fun b =>
      (at1 body 2 = e.generation ∨ newer (at1 body 2) e.generation = true → ¬ barred → s.block.pages.retry = [] →
        pageAt i b = none ∧ c ∉ b.pager.sendList ∧ (b.memory c).state = .cleared ∧
          (b.memory c).generation = at1 body 2 ∧ pageRemoved e s.block b) ∧
      (newer e.generation (at1 body 2) = true ∨ barred →
        b.pages.table = s.block.pages.table ∧ b.pager = s.block.pager) ∧
      changesOnly [.line, .pages, .pager, .port] s.block b)) ∧
  (∀ (s : State) (source sequence : Byte) (body : List Byte) (c : Cause), listening s.block = true →
    source.toNat ≤ 31 → source.toNat ≠ s.block.station.strapId → body.length = 3 →
    causeOf (body.getD 0 0) (body.getD 1 0) = some c →
    completes (.pageAckFrame source sequence body) s (fun b =>
      withdrawsOverruled (some (.ack, c, at1 body 2)) s.block b) ∧
    completes (.pageClearFrame source sequence body) s (fun b =>
      withdrawsOverruled (some (.clear, c, at1 body 2)) s.block b))

/-- A local raise, here a staff call in range, of a cause not held, with an entry free, makes an owned entry with the host's
priority and level and answers ENTERED; CLEAR STAFF CALL of an owned call removes it when the PAGE queue has room and no
raise waits (R152, R154, R165). One of a cause that is held merges into the entry and sends nothing (R152). One that finds
every entry in use waits: it joins the retry queue's tail while that holds fewer than four, or adds to the merges of its own
cause there; a fifth is lost, with a PAGE_LOST event (R153). The answer names the outcome (R165). An entry freed, here by a
heard CLEAR, takes the head of the retry queue in the same event, as a new entry of this station's with the waiting raise's
figures, the generation after the one the memory holds, its RAISE queued (R152, R153). That the merges of a waiting raise
stop at 255 is the model's (DEDUCED, log 47: R153 gives no bound). Entries made and removed place PAGE_CHANGE (R151). A call
out of range is refused with BAD_VALUE, CLEAR STAFF CALL with BAD_REF of a call not held and with WRONG_STATE of another
station's (R165). That a merge lists nothing for the radio is the model's (DESIGN CHOICE, log 71). -/
def Obligations.LocalRaisesEnterMergeOrWait : Prop :=
  (∀ (s : State) (subject priority level : Byte), s.block.portAnswers = true → s.block.station.state.works = true →
    (1 ≤ priority.toNat → priority.toNat ≤ 3 → level.toNat ≤ 2 → heldPage (staffCause subject) s.block = none →
      (freePage s.block).isSome = true →
      completes (.raiseStaffCall subject priority level) s (fun b =>
        answeredWith 18 none [0] s.block b ∧
        (∃ e, heldPage (staffCause subject) b = some e ∧ e.owner = s.block.station.strapId ∧ e.state = .raised ∧
          e.priority = priority.toNat ∧ e.level = level.toNat ∧ e.oneShot = true ∧ e.merges = 1 ∧
          pageChanged e s.block b) ∧
        changesOnly [.line, .pages, .pager, .port] s.block b)) ∧
    (∀ i e, locatePage (staffCause subject) s.block = some (i, e) → e.owner = s.block.station.strapId →
      s.block.line.pageQueue.length < 8 → s.block.pages.retry = [] →
      completes (.clearStaffCall subject) s (fun b =>
        answeredWith 19 none [] s.block b ∧ pageAt i b = none ∧ pageRemoved e s.block b ∧
        changesOnly [.line, .pages, .pager, .port] s.block b)) ∧
    (priority.toNat = 0 ∨ 3 < priority.toNat ∨ 2 < level.toNat →
      completes (.raiseStaffCall subject priority level) s (fun b => refusedWith 18 .badValue s.block b)) ∧
    (heldPage (staffCause subject) s.block = none →
      completes (.clearStaffCall subject) s (fun b => refusedWith 19 .badRef s.block b)) ∧
    (∀ e, heldPage (staffCause subject) s.block = some e → e.owner ≠ s.block.station.strapId →
      completes (.clearStaffCall subject) s (fun b => refusedWith 19 .wrongState s.block b))) ∧
  (∀ (s : State) (subject priority level : Byte), s.block.portAnswers = true → s.block.station.state.works = true →
    1 ≤ priority.toNat → priority.toNat ≤ 3 → level.toNat ≤ 2 →
    let c := staffCause subject
    completes (.raiseStaffCall subject priority level) s (fun b =>
      (∀ i e, locatePage c s.block = some (i, e) →
        answeredWith 18 none [1] s.block b ∧
        b.pages = { s.block.pages with
          table := s.block.pages.table.set i (some { e with merges := min 255 (e.merges + 1) }) } ∧
        b.line = s.block.line ∧ b.pager = s.block.pager ∧
        b.port.counters.pagesMerged = min 65535 (s.block.port.counters.pagesMerged + 1)) ∧
      (locatePage c s.block = none → freePage s.block = none →
        (isWaiting c s.block = true →
          answeredWith 18 none [2] s.block b ∧
          b.pages = { s.block.pages with retry := s.block.pages.retry.map fun w =>
            if w.cause = c then { w with merges := min 255 (w.merges + 1) } else w } ∧
          b.port.counters.pagesMerged = min 65535 (s.block.port.counters.pagesMerged + 1)) ∧
        (isWaiting c s.block = false → s.block.pages.retry.length < 4 →
          answeredWith 18 none [2] s.block b ∧
          b.pages = { s.block.pages with retry := s.block.pages.retry ++
            [{ cause := c, priority := priority.toNat, level := level.toNat, merges := 1 }] } ∧
          eventsStand s.block b) ∧
        (isWaiting c s.block = false → 4 ≤ s.block.pages.retry.length →
          answeredWith 18 none [3] s.block b ∧ b.pages = s.block.pages ∧
          b.port.counters.pagesLost = min 65535 (s.block.port.counters.pagesLost + 1) ∧
          b.port.events = (offer (.pageLost c) s.block).port.events)) ∧
      changesOnly [.line, .pages, .pager, .port] s.block b)) ∧
  (∀ (s : State) (source sequence : Byte) (body : List Byte) (c : Cause) (i : Nat) (e : PageEntry) (w : Waiting)
      (rest : List Waiting), listening s.block = true → source.toNat ≤ 31 → source.toNat ≠ s.block.station.strapId →
    body.length = 3 → causeOf (body.getD 0 0) (body.getD 1 0) = some c → locatePage c s.block = some (i, e) →
    at1 body 2 = e.generation → e.owner ≠ s.block.station.strapId → freePage s.block = none →
    s.block.pages.retry = w :: rest → locatePage w.cause s.block = none → causeKey w.cause ≠ causeKey c →
    completes (.pageClearFrame source sequence body) s (fun b =>
      ∃ x, pageAt i b = some x ∧
        x = {
          cause := w.cause,
          generation := (if (s.block.memory w.cause).state = .never then 0
            else ((s.block.memory w.cause).generation + 1) % 256),
          owner := s.block.station.strapId, level := w.level, state := .raised, priority := w.priority,
          merges := w.merges, raisedAt := s.block.station.clock,
          deadline := some (s.block.station.clock + s.block.cfg.ackTimeout),
          oneShot := decide (w.cause.kind = .courseReady) || decide (w.cause.kind = .staffCall), adopted := false,
          clearDue := false } ∧
        (∀ j, j ≠ i → pageAt j b = pageAt j s.block) ∧ b.pages.retry = rest ∧
        (s.block.station.state ≠ .localOnly → s.block.line.pageQueue.length < 8 →
          raiseFrame x ∈ b.line.pageQueue) ∧
        pageRemoved e s.block b ∧ pageChanged x s.block b ∧
        b.port.counters.pagesRaised = min 65535 (s.block.port.counters.pagesRaised + 1) ∧
        changesOnly [.line, .pages, .pager, .port] s.block b))

/-! ## The appliance port (chapter 10) -/

/-- Commands of the appliance port that INIT and HALTED refuse, with their codes (R169 gate 2, R181). -/
def gatedCommands : List (Nat × Instr) :=
  [(2, .readEvent), (4, .readCounters), (5, .readAndClearCounters), (23, .manualAdvance), (24, .conveyorStart),
    (25, .conveyorStop), (26, .resetTallies), (28, .planClear)]

/-- A transfer without a command delivers the slot's response and empties the slot (R168). A record that fails gate 1, whose
code is never NONE's, is answered BAD_VALUE in every state, and in INIT and HALTED every command but READ STATUS, WRITE
SETTINGS and RESTART is answered WRONG_STATE, whatever its fields, and WRITE SETTINGS is so answered in the working states;
a refusal changes nothing but the port's slot and number (R38, R45, R169). That code 0 fails no gate at any length is the
model's (DESIGN CHOICE, log 60). -/
def Obligations.GatesRefuseWithoutEffect : Prop :=
  ∀ s : State, s.block.portAnswers = true →
    completes .noneTransfer s (fun b =>
      b.port = { s.block.port with slot := none, delivered := s.block.port.slot } ∧ changesOnly [.port] s.block b) ∧
    (∀ code : Byte, code ≠ 0 → completes (.unknownCommand code) s (fun b =>
      refusedWith code.toNat .badValue s.block b)) ∧
    (s.block.station.state.works = false →
      (∀ x ∈ gatedCommands, completes x.2 s (fun b =>
        refusedWith x.1 .wrongState s.block b)) ∧
      (∀ tag : Byte, ∀ x ∈ [(7, Instr.deleteProfile tag), (9, .deleteCourse tag), (10, .lockCourse tag),
          (11, .unlockCourse tag), (13, .markPassed tag), (16, .cancelTask tag), (19, .clearStaffCall tag),
          (20, .clearFault tag)],
        completes x.2 s (fun b =>
          refusedWith x.1 .wrongState s.block b)) ∧
      (∀ selector : Byte, (Selector.ofCode selector.toNat).isSome = true →
        completes (.readTable selector) s (fun b => refusedWith 3 .wrongState s.block b)) ∧
      (∀ (content : ProfileFields) (rack : RackField) (mask : Mask8) (p q r u : Byte) (m n : Word16) (lead : Option Word16),
        ∀ x ∈ [(6, Instr.postProfile p content), (8, .postCourse p q m lead), (12, .shiftCourse p m q),
            (14, .postTask p q mask r n), (15, .editTask p q mask r n), (17, .setPlates p n), (18, .raiseStaffCall p q u),
            (21, .rackLoaded p q), (22, .rackRemoved rack)],
          completes x.2 s (fun b => refusedWith x.1 .wrongState s.block b))) ∧
    (s.block.station.state.works = true → ∀ block : List Byte, block.length = 51 →
      completes (.writeSettings block) s (fun b => refusedWith 27 .wrongState s.block b))

/-- The reads answer with their records and change nothing but the slot, what was delivered and the command number: READ
STATUS in every state, READ TABLE and READ COUNTERS in the working states (R170, R171, R174). READ EVENT removes the head
event and returns it with the number left and overflow as it stood; a removal that leaves the queue empty ends overflow; an
empty queue gives no event, 0 left (R173, R182). READ AND CLEAR COUNTERS returns the sixteen counters and sets every one to
0 in the same act (R174). The order and layout of the fields within a record, the counters' among them, are the model's
where the rules leave them open (log 30), and an answer's command number is the number before the command advances it
(DEDUCED, log 26). That an empty queue's event record is all zeros beside its kind 0 is the model's (DESIGN CHOICE, log 74).
-/
def Obligations.ReadsAnswerWithTheirRecords : Prop :=
  ∀ s : State, s.block.portAnswers = true →
    completes .readStatus s (fun b =>
      answeredWith 1 none (statusRecord (deliver s.block)) s.block b ∧ eventsStand s.block b ∧
      changesOnly [.port] s.block b) ∧
    (s.block.station.state.works = true →
      completes .readCounters s (fun b =>
        answeredWith 4 none (countersRow s.block.port.counters) s.block b ∧ eventsStand s.block b ∧
        changesOnly [.port] s.block b) ∧
      (∀ (selector : Byte) (x : Selector), Selector.ofCode selector.toNat = some x →
        completes (.readTable selector) s (fun b =>
          answeredWith 3 none (tableRecord x s.block) s.block b ∧ eventsStand s.block b ∧
          changesOnly [.port] s.block b)) ∧
      (∀ e rest, s.block.port.events = e :: rest →
        completes .readEvent s (fun b =>
          answeredWith 2 none (eventBytes (some e) ++ [byteOf rest.length] ++ [flagByte s.block.port.overflow]) s.block b ∧
          b.port.events = rest ∧ (rest = [] → b.port.overflow = false) ∧
          (rest ≠ [] → b.port.overflow = s.block.port.overflow) ∧ b.port.eventNumber = s.block.port.eventNumber ∧
          b.port.counters = s.block.port.counters ∧ changesOnly [.port] s.block b)) ∧
      (s.block.port.events = [] →
        completes .readEvent s (fun b =>
          answeredWith 2 none (List.replicate 16 0 ++ [0] ++ [flagByte s.block.port.overflow]) s.block b ∧
          eventsStand s.block b ∧ changesOnly [.port] s.block b)) ∧
      completes .readAndClearCounters s (fun b =>
        answeredWith 5 none (countersRow s.block.port.counters) s.block b ∧ b.port.counters = {} ∧
        b.port.events = s.block.port.events ∧ b.port.overflow = s.block.port.overflow ∧
        b.port.eventNumber = s.block.port.eventNumber ∧ changesOnly [.port] s.block b))

/-- A task of a locked course names the index as its profile index or holds it as its resolved profile (R91). -/
def lockedProfile (i : Nat) (s : Block) : Prop :=
  ∃ t k c, taskAt t s = some k ∧ (k.profile = i ∨ k.resolved = some i) ∧ courseAt k.course s = some c ∧ c.lock = true

/-- The entry is DIRECT and a task in a run state runs on it (R88, R89). -/
def usedProfile (i : Nat) (s : Block) : Prop :=
  (∃ d, profileAt i s = .direct d) ∧ ∃ t k, taskAt t s = some k ∧ k.state.runs = true ∧ k.resolved = some i

/-- The checks of POST PROFILE (R88). -/
def postProfileChecks (index : Byte) (content : ProfileFields) (s : Block) : List (Prop × Reason) :=
  [(31 < index.toNat ∨ profileOf content = none, .badValue), (lockedProfile index.toNat s, .locked),
    (usedProfile index.toNat s, .inUse)]

/-- The checks of DELETE PROFILE (R88). -/
def deleteProfileChecks (index : Byte) (s : Block) : List (Prop × Reason) :=
  [(31 < index.toNat, .badValue), (profileAt index.toNat s = .free, .badRef), (lockedProfile index.toNat s, .locked),
    (usedProfile index.toNat s, .inUse)]

/-- The host's commands on profiles: POST PROFILE replaces an entry with a content in range, DELETE PROFILE makes it FREE;
every other entry, course and task stands. Each is refused with the reason of the first check that fails, BAD_VALUE,
BAD_REF, LOCKED or IN_USE in that order, and a refusal changes nothing but slot and number (R86, R88, R91). That the lock
protects the target of an alias only once a task has resolved to it is the model's reading of R91 (DEDUCED, log 77). -/
def Obligations.ProfilesReplacedAndFreed : Prop :=
  ∀ (s : State) (index : Byte) (why : Option Reason), s.block.portAnswers = true → s.block.station.state.works = true →
    (∀ content, firstReason (postProfileChecks index content s.block) why →
      completes (.postProfile index content) s (fun b => answers 6 why s.block b
        (∃ p, profileOf content = some p ∧ answeredWith 6 none [index] s.block b ∧ eventsStand s.block b ∧
          b.plan = { s.block.plan with profiles := s.block.plan.profiles.set index.toNat p } ∧
          changesOnly [.plan, .port] s.block b))) ∧
    (firstReason (deleteProfileChecks index s.block) why →
      completes (.deleteProfile index) s (fun b => answers 7 why s.block b
        (answeredWith 7 none [index] s.block b ∧ eventsStand s.block b ∧
          b.plan = { s.block.plan with profiles := s.block.plan.profiles.set index.toNat .free } ∧
          changesOnly [.plan, .port] s.block b)))

/-- POST COURSE of a tag not in the table takes the lowest free entry, with the pass time counted from the service clock and
a lead margin of 60 s when none is given, and marks the COURSE slot (R90, R121); it is refused with BAD_VALUE for a tag in
the table or a margin above 900 s, and with TABLE_FULL where every entry is in use (R90). LOCK COURSE and UNLOCK COURSE set
the lock of a held tag and nothing else; a tag that is not held is refused with BAD_REF (R91). DELETE COURSE of an EMPTY or
PASSED course frees its entry and its tasks' entries; the others stand, PLATES_SHORT and COURSE_LATE of the tag are reported
resolved and the COURSE slot is marked (R92, R130); in any other state it is refused with WRONG_STATE (R92). A tag that is
not held is refused with BAD_REF by DELETE COURSE and MARK PASSED as well (R92, R98). -/
def Obligations.CoursesArePostedLockedAndDeleted : Prop :=
  (∀ (s : State) (tag version : Byte) (offset : Word16) (lead : Option Word16) (i : Nat),
    s.block.portAnswers = true → s.block.station.state.works = true → courseIndex tag.toNat s.block = none →
    freeCourse s.block = some i → (∀ m, lead = some m → m.toNat ≤ 900) → courseTasks i s.block = [] →
    completes (.postCourse tag version offset lead) s (fun b =>
      answeredWith 8 none [byteOf i] s.block b ∧
      courseAt i b = some {
        tag := tag.toNat, version := version.toNat,
        passTime := s.block.station.clock + offset.toNat, leadMargin := (lead.map BitVec.toNat).getD 60 } ∧
      (s.block.station.state ≠ .localOnly → b.line.courseSlot = true) ∧
      b.plan.tasks = s.block.plan.tasks ∧ b.plan.profiles = s.block.plan.profiles ∧
      changesOnly [.plan, .line, .pages, .pager, .port] s.block b)) ∧
  (∀ (s : State) (tag version : Byte) (offset : Word16) (lead : Option Word16) (why : Reason),
    s.block.portAnswers = true → s.block.station.state.works = true →
    firstReason [((∃ m, lead = some m ∧ 900 < m.toNat) ∨ locateCourse tag.toNat s.block ≠ none, .badValue),
      (∀ e ∈ s.block.plan.courses, e ≠ none, .tableFull)] (some why) →
    completes (.postCourse tag version offset lead) s (fun b => refusedWith 8 why s.block b)) ∧
  (∀ (s : State) (tag : Byte), s.block.portAnswers = true → s.block.station.state.works = true →
    (∀ i c, locateCourse tag.toNat s.block = some (i, c) →
      completes (.lockCourse tag) s (fun b =>
        answeredWith 10 none [] s.block b ∧ eventsStand s.block b ∧
        b.plan = { s.block.plan with courses := s.block.plan.courses.set i (some { c with lock := true }) } ∧
        changesOnly [.plan, .port] s.block b) ∧
      completes (.unlockCourse tag) s (fun b =>
        answeredWith 11 none [] s.block b ∧ eventsStand s.block b ∧
        b.plan = { s.block.plan with courses := s.block.plan.courses.set i (some { c with lock := false }) } ∧
        changesOnly [.plan, .port] s.block b) ∧
      (c.state = .empty ∨ c.state = .passed →
        completes (.deleteCourse tag) s (fun b =>
          answeredWith 9 none [] s.block b ∧
          b.plan = { s.block.plan with
            courses := s.block.plan.courses.set i none,
            tasks := s.block.plan.tasks.map fun e => if e.any fun t => decide (t.course = i) then none else e } ∧
          resolveMade { kind := .platesShort, subject := c.tag } s.block b ∧
          resolveMade { kind := .courseLate, subject := c.tag } s.block b ∧
          (s.block.station.state ≠ .localOnly → b.line.courseSlot = true) ∧
          changesOnly [.plan, .line, .pages, .pager, .port] s.block b)) ∧
      (c.state ≠ .empty → c.state ≠ .passed →
        completes (.deleteCourse tag) s (fun b => refusedWith 9 .wrongState s.block b))) ∧
    (locateCourse tag.toNat s.block = none →
      ∀ x ∈ [(9, Instr.deleteCourse tag), (10, .lockCourse tag), (11, .unlockCourse tag), (13, .markPassed tag)],
        completes x.2 s (fun b => refusedWith x.1 .badRef s.block b)))

/-- The SHIFT queue after a new entry (R56): in place of the entry of its tag, the oldest where two wait (DESIGN CHOICE, log
59), else at the tail while the queue holds fewer than two, else at the tail after the oldest is removed. An entry whose
transmission is in progress, which is the head, is neither replaced nor removed. -/
def shiftPlaced (l : Line) (x : ShiftEntry) : List ShiftEntry :=
  let flying := l.inFlight.any fun f => decide (f.kind = .shift)
  let head := if flying then l.shiftQueue.take 1 else []
  let free := if flying then l.shiftQueue.drop 1 else l.shiftQueue
  if free.any fun y => decide (y.tag = x.tag) then
    head ++ free.takeWhile (fun y => decide (y.tag ≠ x.tag)) ++ x :: (free.dropWhile fun y => decide (y.tag ≠ x.tag)).drop 1
  else if l.shiftQueue.length < 2 then l.shiftQueue ++ [x]
  else head ++ free.drop 1 ++ [x]

/-- SHIFT COURSE of a held tag advances the version by one, sets the pass time and hold, answers with both, and, unless the
station is LOCAL, places the SHIFT with them in the SHIFT queue: an entry of its tag is replaced where it stands, a full
queue gives up its oldest entry, frames dropped advancing (R56, R64, R126). A hold byte that is no flag is refused with
BAD_VALUE, a tag not held with BAD_REF (R126). -/
def Obligations.ShiftCourseAdvancesVersion : Prop :=
  (∀ (s : State) (tag : Byte) (offset : Word16) (hold : Bool) (i : Nat) (c : Course),
    s.block.portAnswers = true → s.block.station.state.works = true → locateCourse tag.toNat s.block = some (i, c) →
    completes (.shiftCourse tag offset (flagByte hold)) s (fun b =>
      let x : ShiftEntry := {
        tag := c.tag, version := (c.version + 1) % 256, passTime := s.block.station.clock + offset.toNat, hold := hold,
        attempts := 0 }
      answeredWith 12 none (byteOf ((c.version + 1) % 256) :: bytes4 (s.block.station.clock + offset.toNat)) s.block b ∧
      (∃ c', courseAt i b = some c' ∧ c'.tag = c.tag ∧ c'.version = (c.version + 1) % 256 ∧
        c'.passTime = s.block.station.clock + offset.toNat ∧ c'.hold = hold ∧ c'.lock = c.lock ∧
        c'.participants = c.participants) ∧
      (s.block.station.state ≠ .localOnly → b.line.shiftQueue = shiftPlaced s.block.line x) ∧
      (s.block.station.state = .localOnly → b.line.shiftQueue = s.block.line.shiftQueue) ∧
      (s.block.station.state ≠ .localOnly → s.block.line.shiftQueue.length = 2 →
        (∀ y ∈ s.block.line.shiftQueue, y.tag ≠ c.tag) → s.block.port.counters.framesDropped < 65535 →
        s.block.port.counters.framesDropped < b.port.counters.framesDropped) ∧
      b.plan.tasks = s.block.plan.tasks ∧ changesOnly [.plan, .line, .pages, .pager, .port] s.block b)) ∧
  (∀ (s : State) (tag : Byte) (offset : Word16) (hold : Byte) (why : Reason),
    s.block.portAnswers = true → s.block.station.state.works = true →
    firstReason [(1 < hold.toNat, .badValue), (locateCourse tag.toNat s.block = none, .badRef)] (some why) →
    completes (.shiftCourse tag offset hold) s (fun b => refusedWith 12 why s.block b))

/-- The field faults of R94: a field out of range, an empty mask, or a channel of the mask that is not a fitted HEAT
channel. -/
def fieldsBad (profile : Byte) (mask : Mask8) (sensor : Byte) (plates : Word16) (s : Block) : Prop :=
  31 < profile.toNat ∨ mask = 0 ∨
    (∃ j, mask.getLsbD j = true ∧ ¬((channelAt j s).fitted = true ∧ (channelAt j s).role = .heat)) ∨
    7 < sensor.toNat ∨ 999 < plates.toNat

/-- Plates required above 0 in a station not of kind WARMER (R94, R95). -/
def platesElsewhere (plates : Word16) (s : Block) : Prop := 0 < plates.toNat ∧ s.cfg.kind ≠ .warmer

/-- A channel of the mask is held by a task other than `self` (R93, R94, R95). -/
def heldByOther (mask : Mask8) (self : Option Nat) (s : Block) : Prop :=
  ∃ j u x, mask.getLsbD j = true ∧ taskAt u s = some x ∧ x.holds.getLsbD j = true ∧ some u ≠ self

/-- The course of the task in entry `t` is locked (R91). -/
def courseLocked (t : Nat) (s : Block) : Prop :=
  ∃ k c, taskAt t s = some k ∧ courseAt k.course s = some c ∧ c.lock = true

/-- The checks of POST TASK (R94). -/
def postTaskChecks (tag profile : Byte) (mask : Mask8) (sensor : Byte) (plates : Word16) (s : Block) : List (Prop × Reason) :=
  [(fieldsBad profile mask sensor plates s, .badValue), (platesElsewhere plates s, .wrongKind),
    (locateCourse tag.toNat s = none, .badRef), (∃ i c, locateCourse tag.toNat s = some (i, c) ∧ c.lock = true, .locked),
    (∃ i c, locateCourse tag.toNat s = some (i, c) ∧ c.passed = true, .wrongState), (heldByOther mask none s, .channelBusy),
    (∀ e ∈ s.plan.tasks, ∃ k, e = some k ∧ k.state ≠ .cancelled, .tableFull)]

/-- The checks of EDIT TASK (R95). -/
def editTaskChecks (index profile : Byte) (mask : Mask8) (sensor : Byte) (plates : Word16) (s : Block) :
    List (Prop × Reason) :=
  [(23 < index.toNat ∨ fieldsBad profile mask sensor plates s, .badValue), (platesElsewhere plates s, .wrongKind),
    (taskAt index.toNat s = none, .badRef), (courseLocked index.toNat s, .locked),
    (∃ k, taskAt index.toNat s = some k ∧ (k.state = .passed ∨ k.state = .faulted ∨ k.state = .cancelled), .wrongState),
    (heldByOther mask (some index.toNat) s, .channelBusy)]

/-- The checks of CANCEL TASK (R97). -/
def cancelTaskChecks (index : Byte) (s : Block) : List (Prop × Reason) :=
  [(23 < index.toNat, .badValue), (taskAt index.toNat s = none, .badRef), (courseLocked index.toNat s, .locked),
    (∃ k, taskAt index.toNat s = some k ∧ (k.state = .passed ∨ k.state = .cancelled), .wrongState)]

/-- The checks of SET PLATES (R99). -/
def setPlatesChecks (index : Byte) (loaded : Word16) (s : Block) : List (Prop × Reason) :=
  [(23 < index.toNat ∨ 999 < loaded.toNat, .badValue), (s.cfg.kind ≠ .warmer, .wrongKind),
    (taskAt index.toNat s = none, .badRef), (∃ k, taskAt index.toNat s = some k ∧ k.state = .cancelled, .wrongState)]

/-- POST TASK makes a WAITING task in the place the table gives, holding its mask (R93, R94). EDIT TASK stores the pending
edit, in place of one it had, and nothing else (R95). SET PLATES in a WARMER sets the task's plates loaded, whatever the
lock, and no other field of the plan; where every live task of the course then has the plates it requires, PLATES_SHORT of
the course is reported resolved, and no page changes otherwise (R99). Each is refused with the reason of the first check
that fails, from BAD_VALUE, WRONG_KIND, BAD_REF, LOCKED and WRONG_STATE to CHANNEL_BUSY and TABLE_FULL, and a refusal
changes nothing but slot and number (R86, R91, R94, R95, R99). The tables have their sizes and no two tasks hold one channel
where EDIT TASK is taken, as every step keeps them. -/
def Obligations.TasksArePostedEditedAndLoaded : Prop :=
  (∀ (s : State) (tag profile : Byte) (mask : Mask8) (sensor : Byte) (plates : Word16) (why : Option Reason),
    s.block.portAnswers = true → s.block.station.state.works = true →
    firstReason (postTaskChecks tag profile mask sensor plates s.block) why →
    completes (.postTask tag profile mask sensor plates) s (fun b => answers 14 why s.block b
      (∃ i c t, locateCourse tag.toNat s.block = some (i, c) ∧ taskPlace s.block = some t ∧
        answeredWith 14 none [byteOf t] s.block b ∧
        taskAt t b = some { course := i, profile := profile.toNat, mask := mask, sensor := sensor.toNat,
                            platesRequired := plates.toNat } ∧
        (∀ u, u ≠ t → taskAt u b = taskAt u s.block) ∧
        changesOnly [.plan, .line, .pages, .pager, .port] s.block b))) ∧
  (∀ (s : State) (index profile : Byte) (mask : Mask8) (sensor : Byte) (plates : Word16) (why : Option Reason),
    s.block.portAnswers = true → s.block.station.state.works = true → channelsOwned s.block = true →
    tablesSized s.block = true → firstReason (editTaskChecks index profile mask sensor plates s.block) why →
    completes (.editTask index profile mask sensor plates) s (fun b => answers 15 why s.block b
      (∃ k, taskAt index.toNat s.block = some k ∧ answeredWith 15 none [] s.block b ∧ eventsStand s.block b ∧
        b.plan = { s.block.plan with tasks := s.block.plan.tasks.set index.toNat (some { k with
          edit := some { profile := profile.toNat, mask := mask, sensor := sensor.toNat, plates := plates.toNat } }) } ∧
        changesOnly [.plan, .port] s.block b))) ∧
  (∀ (s : State) (index : Byte) (loaded : Word16) (why : Option Reason), s.block.portAnswers = true →
    s.block.station.state.works = true → firstReason (setPlatesChecks index loaded s.block) why →
    completes (.setPlates index loaded) s (fun b => answers 17 why s.block b
      (∃ k, taskAt index.toNat s.block = some k ∧ answeredWith 17 none [] s.block b ∧
        b.plan = { s.block.plan with
          tasks := s.block.plan.tasks.set index.toNat (some { k with platesLoaded := loaded.toNat }) } ∧
        (let ready := ∀ u x, taskAt u b = some x → x.course = k.course → x.state.live = true →
           x.platesRequired ≤ x.platesLoaded
         (∀ c, courseAt k.course s.block = some c → ready →
            resolveMade { kind := .platesShort, subject := c.tag } s.block b) ∧
         (¬ ready → b.pages = s.block.pages ∧ b.line = s.block.line)) ∧
        changesOnly [.plan, .line, .pages, .pager, .port] s.block b)))

/-- CANCEL TASK makes a live task CANCELLED without its pending edit; the channels it held present want 0 and every other
task stands; it is refused with the reason of the first check that fails, BAD_VALUE, BAD_REF, LOCKED or WRONG_STATE (R86,
R91, R97). MARK PASSED, whatever the lock, sets the course's passed flag and state, and makes every live task of the course
PASSED without its pending edit, its channels presenting want 0; tasks of other courses stand; of a course already passed it
is accepted and changes nothing (R98). Each task that changes places TASK_STATE, the course COURSE_STATE (R104, R120). The
model's own: the task keeps its urgency record and class, R103 against R112 (DEDUCED, log 36), and a want of 0 is held as
floor and class 0 (DESIGN CHOICE, log 69). -/
def Obligations.TasksEndAndReleaseChannels : Prop :=
  (∀ (s : State) (index : Byte) (why : Option Reason), s.block.portAnswers = true → s.block.station.state.works = true →
    firstReason (cancelTaskChecks index s.block) why →
    completes (.cancelTask index) s (fun b => answers 16 why s.block b
      (∃ k, taskAt index.toNat s.block = some k ∧
        answeredWith 16 none [] s.block b ∧ taskAt index.toNat b = some { k with state := .cancelled, edit := none } ∧
        (∀ u, u ≠ index.toNat → taskAt u b = taskAt u s.block) ∧
        (∀ i, i < s.block.drive.channels.length → k.holds.getLsbD i = true → (channelAt i b).want = {}) ∧
        offered (.taskState index.toNat ((courseAt k.course s.block).elim 0 fun c => c.tag) k.state .cancelled k.fault
          k.stageIndex) s.block b ∧
        changesOnly [.plan, .drive, .line, .pages, .pager, .port] s.block b))) ∧
  (∀ (s : State) (tag : Byte) (i : Nat) (c : Course), s.block.portAnswers = true → s.block.station.state.works = true →
    locateCourse tag.toNat s.block = some (i, c) →
    (c.passed = false →
      completes (.markPassed tag) s (fun b =>
        answeredWith 13 none [] s.block b ∧
        (∃ c', courseAt i b = some c' ∧ c'.passed = true ∧ c'.state = .passed ∧ c'.version = c.version) ∧
        (c.state ≠ .passed → offered (.courseState c.tag c.state .passed c.version) s.block b) ∧
        (∀ t k, t < 24 → taskAt t s.block = some k →
          taskAt t b =
            some (if k.course = i ∧ k.state.live = true then { k with state := .passed, edit := none } else k) ∧
          (k.course = i → k.state.live = true →
            offered (.taskState t c.tag k.state .passed k.fault k.stageIndex) s.block b)) ∧
        (∀ t k j, t < 24 → taskAt t s.block = some k → k.course = i → j < s.block.drive.channels.length →
          k.holds.getLsbD j = true → (channelAt j b).want = {}) ∧
        changesOnly [.plan, .drive, .line, .pages, .pager, .port] s.block b)) ∧
    (c.passed = true →
      completes (.markPassed tag) s (fun b =>
        answeredWith 13 none [] s.block b ∧ eventsStand s.block b ∧ changesOnly [.port] s.block b)))

/-- PLAN CLEAR frees every profile, course and task, releases every HEAT channel, and marks the COURSE slot (R85, R100,
R121; that it does, and queues the CLEARs below, against R49, is DEDUCED, log 76). Every page this station owns is reported
resolved: while no raise waits and the PAGE queue has room for all, its CLEAR is queued and its entry is free; a full PAGE
queue leaves the entry clear due; in LOCAL the entry is removed with no frame (R64, R154). The pages of other stations stay,
and so do grant, peers and conveyor. Each page removed places PAGE_CHANGE (R100, R151). That a want of 0 is held as floor
and class 0 is the model's (DESIGN CHOICE, log 69). -/
def Obligations.PlanClearEmptiesThePlan : Prop :=
  ∀ s : State, s.block.portAnswers = true → s.block.station.state.works = true →
    completes .planClear s (fun b =>
      answeredWith 28 none [] s.block b ∧
      (∀ i, profileAt i b = .free ∧ courseAt i b = none ∧ taskAt i b = none) ∧
      b.plan.powerFraction = s.block.plan.powerFraction ∧
      (∀ i, i < s.block.drive.channels.length → (channelAt i s.block).role = .heat → (channelAt i b).want = {}) ∧
      (s.block.station.state ≠ .localOnly → b.line.courseSlot = true) ∧
      (∀ i e, locatePage e.cause s.block = some (i, e) → e.owner = s.block.station.strapId →
        s.block.pages.retry = [] →
        (s.block.station.state ≠ .localOnly →
          s.block.line.pageQueue.length +
              ((s.block.pages.table.filterMap id).filter fun x => decide (x.owner = s.block.station.strapId)).length ≤ 8 →
          pageAt i b = none ∧ clearFrame e.cause e.generation ∈ b.line.pageQueue ∧ pageRemoved e s.block b) ∧
        (s.block.station.state ≠ .localOnly → 8 ≤ s.block.line.pageQueue.length →
          ∃ x, pageAt i b = some x ∧ x.clearDue = true ∧ x.cause = e.cause) ∧
        (s.block.station.state = .localOnly → pageAt i b = none ∧ b.line = s.block.line ∧ pageRemoved e s.block b)) ∧
      (∀ j x, pageAt j s.block = some x → x.owner ≠ s.block.station.strapId → pageAt j b = some x) ∧
      changesOnly [.plan, .drive, .line, .pages, .pager, .port] s.block b)

/-- CLEAR FAULT of a fitted OPEN or TRIPPED channel returns it to OK with its counts at 0 and its last load at the rating,
with a CHANNEL_HEALTH event and ELEMENT_FAULT of the channel reported resolved; a healthy fitted channel is accepted and
nothing changes; a channel not fitted or above 7 is refused with BAD_VALUE (R81). That its event carries no reading is the
model's (DEDUCED, log 12). -/
def Obligations.ClearFaultMendsChannel : Prop :=
  ∀ (s : State) (channel : Byte), s.block.portAnswers = true → s.block.station.state.works = true →
    (channel.toNat ≤ 7 → channel.toNat < s.block.drive.channels.length → (channelAt channel.toNat s.block).fitted = true →
      (channelAt channel.toNat s.block).healthy = false →
      completes (.clearFault channel) s (fun b =>
        answeredWith 20 none [] s.block b ∧ (channelAt channel.toNat b).health = .ok ∧
        (channelAt channel.toNat b).lowCount = 0 ∧ (channelAt channel.toNat b).starved = 0 ∧
        (channelAt channel.toNat b).lastLoad = (channelAt channel.toNat s.block).rated ∧
        offered (.channelHealth channel.toNat .ok none) s.block b ∧
        resolveMade { kind := .elementFault, subject := s.block.station.strapId * 8 + channel.toNat } s.block b ∧
        changesOnly [.drive, .conveyor, .line, .pages, .pager, .port] s.block b)) ∧
    (channel.toNat ≤ 7 → (channelAt channel.toNat s.block).fitted = true →
      (channelAt channel.toNat s.block).healthy = true →
      completes (.clearFault channel) s (fun b =>
        answeredWith 20 none [] s.block b ∧ eventsStand s.block b ∧ changesOnly [.port] s.block b)) ∧
    (7 < channel.toNat ∨ (channelAt channel.toNat s.block).fitted = false →
      completes (.clearFault channel) s (fun b =>
        refusedWith 20 .badValue s.block b))

/-- CONVEYOR START and STOP set the run request, RESET TALLIES sets the tallies to the plates in the tunnel and 0, all three
accepted in every conveyor state; a manual advance goes on through a STOP, is superseded where a START makes the conveyor
run (R144), and phantom exits stand (R145, R147). RACK LOADED announces the next rack's load, plates above 0 only for
PLATES; MANUAL ADVANCE, outside RUNNING, SLOWED and ENTRY_FAULT and with none in progress, begins one with 10 seconds left
and the motor at v_min, and is refused with WRONG_STATE otherwise (R143, R144). In a station of another kind the six
commands are refused with WRONG_KIND before any field is looked at (R169). RACK LOADED with another kind or figure is
refused with BAD_VALUE (R143). -/
def Obligations.ConveyorCommandsAct : Prop :=
  ∀ s : State, s.block.portAnswers = true → s.block.station.state.works = true →
    (s.block.cfg.kind = .dish →
      completes .conveyorStart s (fun b =>
        answeredWith 24 none [] s.block b ∧ b.conveyor.runRequest = true ∧ b.conveyor.queue = s.block.conveyor.queue ∧
        b.conveyor.state = conveyorStateOf (s.block.onConveyor fun c => { c with runRequest := true }) ∧
        conveyorTold s.block b ∧ advanceFollows s.block b ∧
        changesOnly [.conveyor, .drive, .line, .pages, .pager, .port] s.block b) ∧
      completes .conveyorStop s (fun b =>
        answeredWith 25 none [] s.block b ∧ b.conveyor.runRequest = false ∧ b.conveyor.queue = s.block.conveyor.queue ∧
        b.conveyor.state = conveyorStateOf (s.block.onConveyor fun c => { c with runRequest := false }) ∧
        conveyorTold s.block b ∧ advanceFollows s.block b ∧
        (s.block.conveyor.untracked = 0 → b.conveyor.advance = s.block.conveyor.advance) ∧
        changesOnly [.conveyor, .drive, .line, .pages, .pager, .port] s.block b) ∧
      completes .resetTallies s (fun b =>
        answeredWith 26 none [] s.block b ∧ eventsStand s.block b ∧
        b.conveyor = { s.block.conveyor with
          loaded := (s.block.conveyor.queue.map Rack.plates).sum, clean := 0, rewash := 0, removed := 0 } ∧
        changesOnly [.conveyor, .port] s.block b) ∧
      (∀ (kind plates : Byte) (load : LoadKind), LoadKind.ofCode kind.toNat = some load → plates.toNat ≤ 60 →
        plates.toNat = 0 ∨ load = .plates →
        completes (.rackLoaded kind plates) s (fun b =>
          answeredWith 21 none [] s.block b ∧ eventsStand s.block b ∧
          b.conveyor = { s.block.conveyor with pendingLoad := some (load, plates.toNat) } ∧
          changesOnly [.conveyor, .port] s.block b)) ∧
      (∀ kind plates : Byte,
        LoadKind.ofCode kind.toNat = none ∨ 60 < plates.toNat ∨
          (plates.toNat ≠ 0 ∧ LoadKind.ofCode kind.toNat ≠ some .plates) →
        completes (.rackLoaded kind plates) s (fun b => refusedWith 21 .badValue s.block b)) ∧
      completes .manualAdvance s (fun b =>
        if (s.block.conveyor.state = .running ∨ s.block.conveyor.state = .slowed ∨
            s.block.conveyor.state = .entryFault) ∨ s.block.conveyor.advance ≠ none then
          refusedWith 23 .wrongState s.block b
        else
          answeredWith 23 none [] s.block b ∧ eventsStand s.block b ∧ b.motor = s.block.cfg.vMin ∧
            b.conveyor = { s.block.conveyor with advance := some 10 } ∧ changesOnly [.conveyor, .port] s.block b)) ∧
    (s.block.cfg.kind ≠ .dish →
      ∀ p q : Byte, ∀ x ∈ [(21, Instr.rackLoaded p q), (22, .rackRemoved ⟨p, q⟩), (23, .manualAdvance),
          (24, .conveyorStart), (25, .conveyorStop), (26, .resetTallies)],
        completes x.2 s (fun b =>
          refusedWith x.1 .wrongKind s.block b))

/-- RACK REMOVED of the head rack takes it out of the queue and adds its plates to the removed tally; where untracked racks
wait, one of them joins the tail with the next rack number as PLATES and 0, and the untracked count falls by 1. With NONE it
takes one untracked rack away, and is refused with WRONG_STATE when there is none. A number no rack has is refused with
BAD_REF, a rack that is not the head with WRONG_STATE (R143). A presence byte of neither code is refused with BAD_VALUE, and
NONE takes its value byte at any value (DESIGN CHOICE, log 19). A removal that empties the tunnel ends a timed hold, its
page reported resolved, hold seconds 0 (R146). The joining rack places RACK_ENTRY, a change of state CONVEYOR_STATE and,
into RUNNING or SLOWED, the end of a manual advance (R144); a removal that ends a jam reports RACK_HOLD with code 4
resolved, a rack already at L + 1 behind it latching none anew (DESIGN CHOICE, log 75), and one that brings the untracked
count to 0 code 5 (R136, R139, R141, R143). -/
def Obligations.RackRemovedTakesHeadOrUntracked : Prop :=
  ∀ s : State, s.block.portAnswers = true → s.block.station.state.works = true → s.block.cfg.kind = .dish →
    let c := s.block.conveyor
    (∀ (n : Byte) r rest, c.queue = r :: rest → r.number = n.toNat →
      completes (.rackRemoved ⟨1, n⟩) s (fun b =>
        answeredWith 22 none [] s.block b ∧ b.conveyor.jammed = false ∧
        b.conveyor.removed = (c.removed + r.plates) % 4294967296 ∧
        b.conveyor.clean = c.clean ∧ b.conveyor.rewash = c.rewash ∧ b.conveyor.pendingLoad = c.pendingLoad ∧
        (c.untracked = 0 →
          b.conveyor.queue = rest ∧ b.conveyor.loaded = c.loaded ∧ b.conveyor.nextRack = c.nextRack) ∧
        (0 < c.untracked →
          b.conveyor.queue = rest ++ [{
            number := c.nextRack, load := .plates, plates := 0,
            crowded := rest.any fun x => decide (x.position < s.block.cfg.rackPitch) }] ∧
          b.conveyor.untracked = c.untracked - 1 ∧ b.conveyor.nextRack = (c.nextRack + 1) % 256 ∧
          offered (.rackEntry (some c.nextRack) .plates 0
            (rest.any fun x => decide (x.position < s.block.cfg.rackPitch))) s.block b) ∧
        (c.jammed = true → resolveMade { kind := .rackHold, subject := 4 } s.block b) ∧
        (c.untracked = 1 → resolveMade { kind := .rackHold, subject := 5 } s.block b) ∧
        (rest = [] → c.untracked = 0 → c.state.timedHold = true →
          b.conveyor.holdSeconds = 0 ∧ b.conveyor.holdPage = none ∧
          ∀ code, c.holdPage = some code → resolveMade { kind := .rackHold, subject := code } s.block b) ∧
        conveyorTold s.block b ∧ advanceFollows s.block b ∧ b.conveyor.state = conveyorTable b ∧
        changesOnly [.conveyor, .drive, .line, .pages, .pager, .port] s.block b)) ∧
    (∀ n : Byte, 0 < c.untracked →
      completes (.rackRemoved ⟨0, n⟩) s (fun b =>
        answeredWith 22 none [] s.block b ∧ b.conveyor.untracked = c.untracked - 1 ∧ b.conveyor.queue = c.queue ∧
        b.conveyor.removed = c.removed ∧ conveyorTold s.block b ∧ advanceFollows s.block b ∧ b.conveyor.state = conveyorTable b ∧
        (c.untracked = 1 → resolveMade { kind := .rackHold, subject := 5 } s.block b) ∧
        changesOnly [.conveyor, .drive, .line, .pages, .pager, .port] s.block b)) ∧
    (∀ (p n : Byte) (why : Reason),
      (p = 0 ∧ c.untracked = 0 ∧ why = .wrongState) ∨
        (p = 1 ∧ (∃ r rest, c.queue = r :: rest ∧ r.number ≠ n.toNat ∧ ∃ x ∈ rest, x.number = n.toNat) ∧
          why = .wrongState) ∨
        (p = 1 ∧ (∀ x ∈ c.queue, x.number ≠ n.toNat) ∧ why = .badRef) ∨
        (p ≠ 0 ∧ p ≠ 1 ∧ why = .badValue) →
      completes (.rackRemoved ⟨p, n⟩) s (fun b =>
        refusedWith 22 why s.block b))

/-- WRITE SETTINGS in INIT or HALTED begins a write: the slot stays empty, the number advances, the port answers no transfer
until SETTINGS_WRITE_DONE replaces the block whole and places the answer. The image in force stands through both (R38, R175). -/
def Obligations.SettingsAreWrittenWhole : Prop :=
  ∀ s : State,
    (∀ block : List Byte, s.block.portAnswers = true → s.block.station.state.works = false → block.length = 51 →
      completes (.writeSettings block) s (fun b =>
        b.port = { s.block.port with slot := none, delivered := s.block.port.slot,
                                     commandNumber := (s.block.port.commandNumber + 1) % 256 } ∧
        b.store = { s.block.store with
          writing := some { block := block, number := s.block.port.commandNumber } } ∧
        b.portAnswers = false ∧ changesOnly [.port, .store] s.block b)) ∧
    (∀ w, s.block.store.writing = some w →
      completes .settingsWriteDone s (fun b =>
        b.store = { block := w.block, writing := none } ∧
        b.port = { s.block.port with slot := some { code := 27, number := w.number, refused := none, data := [] } } ∧
        changesOnly [.port, .store] s.block b))

/-! ## Encodings (chapter 11) -/

/-- A well-formed command of the appliance port spelled as a command record (R181, R182) is read back as that command, with
every field at every value, from a transfer as long as the response then in the slot, whatever follows the record, and from
a shorter one is a transfer cut short (R168); a RESTART's strap pins are not in its record. A well-formed frame spelled from
its start flag to its check word (R177, R178) is read back as that frame, a well-formed record from the radio (R183, R184)
as that record, and a DEMAND whose figures fit their two bytes, with a clean tally below 65,536, from its body as it was
sent (R179, R180). That what the host clocks after its record is no part of it (DEDUCED, log 68) and that an empty slot's
response is the 5 bytes of the record NONE (DEDUCED, log 78) is the model's. -/
def Obligations.RecordsAndFramesReadBack : Prop :=
  (∀ (straps : BitVec 5) (slot : Option Response) (i : Instr) (bs rest : List Byte), i.wf = true →
    encodeCommand i = some bs → (∀ x, i = .restart x → x = straps) →
    decodeCommand straps slot (bs ++ rest) =
      if 5 + (slot.elim 0 fun r => r.data.length) ≤ bs.length + rest.length then i else .transferCutShort) ∧
  (∀ (i : Instr) (bs : List Byte), i.wf = true →
    (encodeLine i = some bs → decodeLine bs = i) ∧ (encodeRadio i = some bs → decodeRadio bs = i)) ∧
  (∀ d : Demand, d.floor < 65536 → d.want < 65536 → d.cls ≤ 3 → d.applied < 65536 → d.draw < 65536 → d.rated < 65536 →
    (∀ p, d.dish = some p → p.cleanTally < 65536) → parseDemand (demandBytes d) = some d)

/-! ## Invariants of every command -/

/-- From every state whose tables and queues have the manual's sizes (R56, R57, R66, R82, R85, R133, R149, R172), and whose
generation memory has its canonical form (the model's way of holding R149's record for every cause, log 6), a step leaves
them so. -/
def Obligations.TablesAndQueuesKeepTheirForm : Prop :=
  ∀ s s' : State, queuesBounded s.block = true → tablesSized s.block = true → memoryCanonical s.block = true →
    step s = .next s' →
    queuesBounded s'.block = true ∧ tablesSized s'.block = true ∧ memoryCanonical s'.block = true

/-- The bound of R17 on the applied grant is kept by every step from every state that has it. -/
def Obligations.GrantBoundIsKept : Prop :=
  ∀ s s' : State, grantWithin s.block = true → step s = .next s' → grantWithin s'.block = true

/-- The balance of the plate tallies (R147) is kept by every step from every state that has it. -/
def Obligations.TallyBalanceIsKept : Prop :=
  ∀ s s' : State, talliesBalance s.block.conveyor = true → step s = .next s' → talliesBalance s'.block.conveyor = true

/-- No step gives one channel to two tasks (R93, R94, R95). -/
def Obligations.ChannelsStayOwned : Prop :=
  ∀ s s' : State, channelsOwned s.block = true → step s = .next s' → channelsOwned s'.block = true

/-- The Peer Table keeps at most one entry for each id, in ascending order, and none for the station's own (R24). -/
def Obligations.PeersStayOrdered : Prop :=
  ∀ s s' : State, peersOrdered s.block = true → step s = .next s' → peersOrdered s'.block = true

/-- At most one page entry for each cause, no cause both in the table and waiting, none waiting twice, and none waiting while an
entry is free: every step keeps this (R149, R153). -/
def Obligations.PagesStayDistinct : Prop :=
  ∀ s s' : State, pagesDistinct s.block = true → step s = .next s' → pagesDistinct s'.block = true

/-- The conveyor rests at its reset values outside the working states (R132), and in a working DISH station its state is
that of R136's table. -/
def conveyorFollows (b : Block) : Prop :=
  (b.station.state.works = false → b.conveyor = {}) ∧
    (b.station.state.works = true → b.cfg.kind = .dish → b.conveyor.state = conveyorTable b)

/-- Every step keeps the conveyor state in step with R136's table: each event that changes one of its inputs derives it
afresh, and outside the working states the tracker stays at its reset values (R132, R136). -/
def Obligations.ConveyorStateStaysDerived : Prop :=
  ∀ s s' : State, conveyorFollows s.block → step s = .next s' → conveyorFollows s'.block

/-- Every one of these holds right after reset. -/
def Obligations.ResetHasEveryInvariant : Prop :=
  queuesBounded State.reset.block = true ∧ tablesSized State.reset.block = true ∧ grantWithin State.reset.block = true ∧
    talliesBalance State.reset.block.conveyor = true ∧ channelsOwned State.reset.block = true ∧
    peersOrdered State.reset.block = true ∧ memoryCanonical State.reset.block = true ∧
    pagesDistinct State.reset.block = true ∧ conveyorFollows State.reset.block

/-- LOCAL and HALTED are left only for INIT, and only by power-on, the release of the reset pin and RESTART (R44, R45). -/
def Obligations.LocalAndHaltedAreLeftOnlyByAStart : Prop :=
  ∀ s s' : State, s.block.station.state = .localOnly ∨ s.block.station.state = .halted → step s = .next s' →
    s'.block.station.state = s.block.station.state ∨
      (s'.block.station.state = .initial ∧ ∃ (straps : BitVec 5) (rest : List Instr),
        s.pending = .powerOn straps :: rest ∨ s.pending = .resetPinReleased straps :: rest ∨
          s.pending = .restart straps :: rest)

/-- The commands that are a transfer of the appliance port, or a start. -/
def portOrStart : Instr → Bool
  | .powerOn _ | .resetPinReleased _ | .settingsWriteDone => true
  | i => (commandFields i).isSome || (match i with
    | .unknownCommand _ => true
    | _ => false)

/-- Only a transfer, the end of a settings write or a start changes what the port holds for the host: the slot, what was
delivered, the command number (R168, R169, R175). Only the end of a settings write changes the block in the store (R34,
R175). -/
def Obligations.PortAndStoreChangeByTheirCommandsOnly : Prop :=
  ∀ (s s' : State) (c : Instr) (rest : List Instr), s.pending = c :: rest → step s = .next s' →
    (portOrStart c = false →
      s'.block.port.slot = s.block.port.slot ∧ s'.block.port.delivered = s.block.port.delivered ∧
        s'.block.port.commandNumber = s.block.port.commandNumber) ∧
    (s'.block.store.block ≠ s.block.store.block →
      c = .settingsWriteDone ∧ ∃ w, s.block.store.writing = some w ∧ s'.block.store.block = w.block)

/-- Only a round and a start move the applied grant, but for the cut that an entry to LOCAL makes; only starts and rounds
change the division's figures (R2, R17, R19). -/
def Obligations.GrantMovesOnlyAtRounds : Prop :=
  ∀ (s s' : State) (c : Instr) (rest : List Instr), s.pending = c :: rest → step s = .next s' → c ≠ .round →
    (∀ x, c ≠ .powerOn x) → (∀ x, c ≠ .resetPinReleased x) → (∀ x, c ≠ .restart x) →
    s'.block.share = { s.block.share with applied := s'.block.share.applied } ∧
      (s'.block.share.applied = s.block.share.applied ∨
        (s'.block.station.state = .localOnly ∧ s.block.station.state ≠ .localOnly ∧
          s'.block.share.applied = min s.block.share.applied s.block.cfg.safeAllowance))

/-- A transmission begins only at a slot start, in ACTIVE or ISOLATED (R52, R64). -/
def Obligations.OnlySlotStartTransmits : Prop :=
  ∀ s s' : State, step s = .next s' → s'.block.line.position = .transmitting →
    s.block.line.position = .transmitting ∨
      (s.block.station.state.transmits = true ∧ ∃ rest, s.pending = .slotStart true :: rest)
end

