-- ==== Sys2Proof/Laws/State.lean ====
section
/-! SUPPORT. Each updater of `Block` changes its own record and leaves the eleven others. -/

namespace Sys2Proof.Machine

@[simp] theorem Block.onStation_station (f : Station → Station) (b : Block) : (b.onStation f).station = f b.station := rfl
@[simp] theorem Block.onStation_share (f : Station → Station) (b : Block) : (b.onStation f).share = b.share := rfl
@[simp] theorem Block.onStation_peers (f : Station → Station) (b : Block) : (b.onStation f).peers = b.peers := rfl
@[simp] theorem Block.onStation_line (f : Station → Station) (b : Block) : (b.onStation f).line = b.line := rfl
@[simp] theorem Block.onStation_drive (f : Station → Station) (b : Block) : (b.onStation f).drive = b.drive := rfl
@[simp] theorem Block.onStation_plan (f : Station → Station) (b : Block) : (b.onStation f).plan = b.plan := rfl
@[simp] theorem Block.onStation_coord (f : Station → Station) (b : Block) : (b.onStation f).coord = b.coord := rfl
@[simp] theorem Block.onStation_conveyor (f : Station → Station) (b : Block) : (b.onStation f).conveyor = b.conveyor := rfl
@[simp] theorem Block.onStation_pages (f : Station → Station) (b : Block) : (b.onStation f).pages = b.pages := rfl
@[simp] theorem Block.onStation_pager (f : Station → Station) (b : Block) : (b.onStation f).pager = b.pager := rfl
@[simp] theorem Block.onStation_port (f : Station → Station) (b : Block) : (b.onStation f).port = b.port := rfl
@[simp] theorem Block.onStation_store (f : Station → Station) (b : Block) : (b.onStation f).store = b.store := rfl

@[simp] theorem Block.onShare_station (f : LoadShare → LoadShare) (b : Block) : (b.onShare f).station = b.station := rfl
@[simp] theorem Block.onShare_share (f : LoadShare → LoadShare) (b : Block) : (b.onShare f).share = f b.share := rfl
@[simp] theorem Block.onShare_peers (f : LoadShare → LoadShare) (b : Block) : (b.onShare f).peers = b.peers := rfl
@[simp] theorem Block.onShare_line (f : LoadShare → LoadShare) (b : Block) : (b.onShare f).line = b.line := rfl
@[simp] theorem Block.onShare_drive (f : LoadShare → LoadShare) (b : Block) : (b.onShare f).drive = b.drive := rfl
@[simp] theorem Block.onShare_plan (f : LoadShare → LoadShare) (b : Block) : (b.onShare f).plan = b.plan := rfl
@[simp] theorem Block.onShare_coord (f : LoadShare → LoadShare) (b : Block) : (b.onShare f).coord = b.coord := rfl
@[simp] theorem Block.onShare_conveyor (f : LoadShare → LoadShare) (b : Block) : (b.onShare f).conveyor = b.conveyor := rfl
@[simp] theorem Block.onShare_pages (f : LoadShare → LoadShare) (b : Block) : (b.onShare f).pages = b.pages := rfl
@[simp] theorem Block.onShare_pager (f : LoadShare → LoadShare) (b : Block) : (b.onShare f).pager = b.pager := rfl
@[simp] theorem Block.onShare_port (f : LoadShare → LoadShare) (b : Block) : (b.onShare f).port = b.port := rfl
@[simp] theorem Block.onShare_store (f : LoadShare → LoadShare) (b : Block) : (b.onShare f).store = b.store := rfl

@[simp] theorem Block.onPeers_station (f : List Peer → List Peer) (b : Block) : (b.onPeers f).station = b.station := rfl
@[simp] theorem Block.onPeers_share (f : List Peer → List Peer) (b : Block) : (b.onPeers f).share = b.share := rfl
@[simp] theorem Block.onPeers_peers (f : List Peer → List Peer) (b : Block) : (b.onPeers f).peers = f b.peers := rfl
@[simp] theorem Block.onPeers_line (f : List Peer → List Peer) (b : Block) : (b.onPeers f).line = b.line := rfl
@[simp] theorem Block.onPeers_drive (f : List Peer → List Peer) (b : Block) : (b.onPeers f).drive = b.drive := rfl
@[simp] theorem Block.onPeers_plan (f : List Peer → List Peer) (b : Block) : (b.onPeers f).plan = b.plan := rfl
@[simp] theorem Block.onPeers_coord (f : List Peer → List Peer) (b : Block) : (b.onPeers f).coord = b.coord := rfl
@[simp] theorem Block.onPeers_conveyor (f : List Peer → List Peer) (b : Block) : (b.onPeers f).conveyor = b.conveyor := rfl
@[simp] theorem Block.onPeers_pages (f : List Peer → List Peer) (b : Block) : (b.onPeers f).pages = b.pages := rfl
@[simp] theorem Block.onPeers_pager (f : List Peer → List Peer) (b : Block) : (b.onPeers f).pager = b.pager := rfl
@[simp] theorem Block.onPeers_port (f : List Peer → List Peer) (b : Block) : (b.onPeers f).port = b.port := rfl
@[simp] theorem Block.onPeers_store (f : List Peer → List Peer) (b : Block) : (b.onPeers f).store = b.store := rfl

@[simp] theorem Block.onLine_station (f : Line → Line) (b : Block) : (b.onLine f).station = b.station := rfl
@[simp] theorem Block.onLine_share (f : Line → Line) (b : Block) : (b.onLine f).share = b.share := rfl
@[simp] theorem Block.onLine_peers (f : Line → Line) (b : Block) : (b.onLine f).peers = b.peers := rfl
@[simp] theorem Block.onLine_line (f : Line → Line) (b : Block) : (b.onLine f).line = f b.line := rfl
@[simp] theorem Block.onLine_drive (f : Line → Line) (b : Block) : (b.onLine f).drive = b.drive := rfl
@[simp] theorem Block.onLine_plan (f : Line → Line) (b : Block) : (b.onLine f).plan = b.plan := rfl
@[simp] theorem Block.onLine_coord (f : Line → Line) (b : Block) : (b.onLine f).coord = b.coord := rfl
@[simp] theorem Block.onLine_conveyor (f : Line → Line) (b : Block) : (b.onLine f).conveyor = b.conveyor := rfl
@[simp] theorem Block.onLine_pages (f : Line → Line) (b : Block) : (b.onLine f).pages = b.pages := rfl
@[simp] theorem Block.onLine_pager (f : Line → Line) (b : Block) : (b.onLine f).pager = b.pager := rfl
@[simp] theorem Block.onLine_port (f : Line → Line) (b : Block) : (b.onLine f).port = b.port := rfl
@[simp] theorem Block.onLine_store (f : Line → Line) (b : Block) : (b.onLine f).store = b.store := rfl

@[simp] theorem Block.onDrive_station (f : Drive → Drive) (b : Block) : (b.onDrive f).station = b.station := rfl
@[simp] theorem Block.onDrive_share (f : Drive → Drive) (b : Block) : (b.onDrive f).share = b.share := rfl
@[simp] theorem Block.onDrive_peers (f : Drive → Drive) (b : Block) : (b.onDrive f).peers = b.peers := rfl
@[simp] theorem Block.onDrive_line (f : Drive → Drive) (b : Block) : (b.onDrive f).line = b.line := rfl
@[simp] theorem Block.onDrive_drive (f : Drive → Drive) (b : Block) : (b.onDrive f).drive = f b.drive := rfl
@[simp] theorem Block.onDrive_plan (f : Drive → Drive) (b : Block) : (b.onDrive f).plan = b.plan := rfl
@[simp] theorem Block.onDrive_coord (f : Drive → Drive) (b : Block) : (b.onDrive f).coord = b.coord := rfl
@[simp] theorem Block.onDrive_conveyor (f : Drive → Drive) (b : Block) : (b.onDrive f).conveyor = b.conveyor := rfl
@[simp] theorem Block.onDrive_pages (f : Drive → Drive) (b : Block) : (b.onDrive f).pages = b.pages := rfl
@[simp] theorem Block.onDrive_pager (f : Drive → Drive) (b : Block) : (b.onDrive f).pager = b.pager := rfl
@[simp] theorem Block.onDrive_port (f : Drive → Drive) (b : Block) : (b.onDrive f).port = b.port := rfl
@[simp] theorem Block.onDrive_store (f : Drive → Drive) (b : Block) : (b.onDrive f).store = b.store := rfl

@[simp] theorem Block.onPlan_station (f : Plan → Plan) (b : Block) : (b.onPlan f).station = b.station := rfl
@[simp] theorem Block.onPlan_share (f : Plan → Plan) (b : Block) : (b.onPlan f).share = b.share := rfl
@[simp] theorem Block.onPlan_peers (f : Plan → Plan) (b : Block) : (b.onPlan f).peers = b.peers := rfl
@[simp] theorem Block.onPlan_line (f : Plan → Plan) (b : Block) : (b.onPlan f).line = b.line := rfl
@[simp] theorem Block.onPlan_drive (f : Plan → Plan) (b : Block) : (b.onPlan f).drive = b.drive := rfl
@[simp] theorem Block.onPlan_plan (f : Plan → Plan) (b : Block) : (b.onPlan f).plan = f b.plan := rfl
@[simp] theorem Block.onPlan_coord (f : Plan → Plan) (b : Block) : (b.onPlan f).coord = b.coord := rfl
@[simp] theorem Block.onPlan_conveyor (f : Plan → Plan) (b : Block) : (b.onPlan f).conveyor = b.conveyor := rfl
@[simp] theorem Block.onPlan_pages (f : Plan → Plan) (b : Block) : (b.onPlan f).pages = b.pages := rfl
@[simp] theorem Block.onPlan_pager (f : Plan → Plan) (b : Block) : (b.onPlan f).pager = b.pager := rfl
@[simp] theorem Block.onPlan_port (f : Plan → Plan) (b : Block) : (b.onPlan f).port = b.port := rfl
@[simp] theorem Block.onPlan_store (f : Plan → Plan) (b : Block) : (b.onPlan f).store = b.store := rfl

@[simp] theorem Block.onCoord_station (f : Coordinator → Coordinator) (b : Block) : (b.onCoord f).station = b.station := rfl
@[simp] theorem Block.onCoord_share (f : Coordinator → Coordinator) (b : Block) : (b.onCoord f).share = b.share := rfl
@[simp] theorem Block.onCoord_peers (f : Coordinator → Coordinator) (b : Block) : (b.onCoord f).peers = b.peers := rfl
@[simp] theorem Block.onCoord_line (f : Coordinator → Coordinator) (b : Block) : (b.onCoord f).line = b.line := rfl
@[simp] theorem Block.onCoord_drive (f : Coordinator → Coordinator) (b : Block) : (b.onCoord f).drive = b.drive := rfl
@[simp] theorem Block.onCoord_plan (f : Coordinator → Coordinator) (b : Block) : (b.onCoord f).plan = b.plan := rfl
@[simp] theorem Block.onCoord_coord (f : Coordinator → Coordinator) (b : Block) : (b.onCoord f).coord = f b.coord := rfl
@[simp] theorem Block.onCoord_conveyor (f : Coordinator → Coordinator) (b : Block) : (b.onCoord f).conveyor = b.conveyor := rfl
@[simp] theorem Block.onCoord_pages (f : Coordinator → Coordinator) (b : Block) : (b.onCoord f).pages = b.pages := rfl
@[simp] theorem Block.onCoord_pager (f : Coordinator → Coordinator) (b : Block) : (b.onCoord f).pager = b.pager := rfl
@[simp] theorem Block.onCoord_port (f : Coordinator → Coordinator) (b : Block) : (b.onCoord f).port = b.port := rfl
@[simp] theorem Block.onCoord_store (f : Coordinator → Coordinator) (b : Block) : (b.onCoord f).store = b.store := rfl

@[simp] theorem Block.onConveyor_station (f : Conveyor → Conveyor) (b : Block) : (b.onConveyor f).station = b.station := rfl
@[simp] theorem Block.onConveyor_share (f : Conveyor → Conveyor) (b : Block) : (b.onConveyor f).share = b.share := rfl
@[simp] theorem Block.onConveyor_peers (f : Conveyor → Conveyor) (b : Block) : (b.onConveyor f).peers = b.peers := rfl
@[simp] theorem Block.onConveyor_line (f : Conveyor → Conveyor) (b : Block) : (b.onConveyor f).line = b.line := rfl
@[simp] theorem Block.onConveyor_drive (f : Conveyor → Conveyor) (b : Block) : (b.onConveyor f).drive = b.drive := rfl
@[simp] theorem Block.onConveyor_plan (f : Conveyor → Conveyor) (b : Block) : (b.onConveyor f).plan = b.plan := rfl
@[simp] theorem Block.onConveyor_coord (f : Conveyor → Conveyor) (b : Block) : (b.onConveyor f).coord = b.coord := rfl
@[simp] theorem Block.onConveyor_conveyor (f : Conveyor → Conveyor) (b : Block) : (b.onConveyor f).conveyor = f b.conveyor := rfl
@[simp] theorem Block.onConveyor_pages (f : Conveyor → Conveyor) (b : Block) : (b.onConveyor f).pages = b.pages := rfl
@[simp] theorem Block.onConveyor_pager (f : Conveyor → Conveyor) (b : Block) : (b.onConveyor f).pager = b.pager := rfl
@[simp] theorem Block.onConveyor_port (f : Conveyor → Conveyor) (b : Block) : (b.onConveyor f).port = b.port := rfl
@[simp] theorem Block.onConveyor_store (f : Conveyor → Conveyor) (b : Block) : (b.onConveyor f).store = b.store := rfl

@[simp] theorem Block.onPages_station (f : Pages → Pages) (b : Block) : (b.onPages f).station = b.station := rfl
@[simp] theorem Block.onPages_share (f : Pages → Pages) (b : Block) : (b.onPages f).share = b.share := rfl
@[simp] theorem Block.onPages_peers (f : Pages → Pages) (b : Block) : (b.onPages f).peers = b.peers := rfl
@[simp] theorem Block.onPages_line (f : Pages → Pages) (b : Block) : (b.onPages f).line = b.line := rfl
@[simp] theorem Block.onPages_drive (f : Pages → Pages) (b : Block) : (b.onPages f).drive = b.drive := rfl
@[simp] theorem Block.onPages_plan (f : Pages → Pages) (b : Block) : (b.onPages f).plan = b.plan := rfl
@[simp] theorem Block.onPages_coord (f : Pages → Pages) (b : Block) : (b.onPages f).coord = b.coord := rfl
@[simp] theorem Block.onPages_conveyor (f : Pages → Pages) (b : Block) : (b.onPages f).conveyor = b.conveyor := rfl
@[simp] theorem Block.onPages_pages (f : Pages → Pages) (b : Block) : (b.onPages f).pages = f b.pages := rfl
@[simp] theorem Block.onPages_pager (f : Pages → Pages) (b : Block) : (b.onPages f).pager = b.pager := rfl
@[simp] theorem Block.onPages_port (f : Pages → Pages) (b : Block) : (b.onPages f).port = b.port := rfl
@[simp] theorem Block.onPages_store (f : Pages → Pages) (b : Block) : (b.onPages f).store = b.store := rfl

@[simp] theorem Block.onPager_station (f : Pager → Pager) (b : Block) : (b.onPager f).station = b.station := rfl
@[simp] theorem Block.onPager_share (f : Pager → Pager) (b : Block) : (b.onPager f).share = b.share := rfl
@[simp] theorem Block.onPager_peers (f : Pager → Pager) (b : Block) : (b.onPager f).peers = b.peers := rfl
@[simp] theorem Block.onPager_line (f : Pager → Pager) (b : Block) : (b.onPager f).line = b.line := rfl
@[simp] theorem Block.onPager_drive (f : Pager → Pager) (b : Block) : (b.onPager f).drive = b.drive := rfl
@[simp] theorem Block.onPager_plan (f : Pager → Pager) (b : Block) : (b.onPager f).plan = b.plan := rfl
@[simp] theorem Block.onPager_coord (f : Pager → Pager) (b : Block) : (b.onPager f).coord = b.coord := rfl
@[simp] theorem Block.onPager_conveyor (f : Pager → Pager) (b : Block) : (b.onPager f).conveyor = b.conveyor := rfl
@[simp] theorem Block.onPager_pages (f : Pager → Pager) (b : Block) : (b.onPager f).pages = b.pages := rfl
@[simp] theorem Block.onPager_pager (f : Pager → Pager) (b : Block) : (b.onPager f).pager = f b.pager := rfl
@[simp] theorem Block.onPager_port (f : Pager → Pager) (b : Block) : (b.onPager f).port = b.port := rfl
@[simp] theorem Block.onPager_store (f : Pager → Pager) (b : Block) : (b.onPager f).store = b.store := rfl

@[simp] theorem Block.onPort_station (f : Port → Port) (b : Block) : (b.onPort f).station = b.station := rfl
@[simp] theorem Block.onPort_share (f : Port → Port) (b : Block) : (b.onPort f).share = b.share := rfl
@[simp] theorem Block.onPort_peers (f : Port → Port) (b : Block) : (b.onPort f).peers = b.peers := rfl
@[simp] theorem Block.onPort_line (f : Port → Port) (b : Block) : (b.onPort f).line = b.line := rfl
@[simp] theorem Block.onPort_drive (f : Port → Port) (b : Block) : (b.onPort f).drive = b.drive := rfl
@[simp] theorem Block.onPort_plan (f : Port → Port) (b : Block) : (b.onPort f).plan = b.plan := rfl
@[simp] theorem Block.onPort_coord (f : Port → Port) (b : Block) : (b.onPort f).coord = b.coord := rfl
@[simp] theorem Block.onPort_conveyor (f : Port → Port) (b : Block) : (b.onPort f).conveyor = b.conveyor := rfl
@[simp] theorem Block.onPort_pages (f : Port → Port) (b : Block) : (b.onPort f).pages = b.pages := rfl
@[simp] theorem Block.onPort_pager (f : Port → Port) (b : Block) : (b.onPort f).pager = b.pager := rfl
@[simp] theorem Block.onPort_port (f : Port → Port) (b : Block) : (b.onPort f).port = f b.port := rfl
@[simp] theorem Block.onPort_store (f : Port → Port) (b : Block) : (b.onPort f).store = b.store := rfl

@[simp] theorem Block.onStore_station (f : Store → Store) (b : Block) : (b.onStore f).station = b.station := rfl
@[simp] theorem Block.onStore_share (f : Store → Store) (b : Block) : (b.onStore f).share = b.share := rfl
@[simp] theorem Block.onStore_peers (f : Store → Store) (b : Block) : (b.onStore f).peers = b.peers := rfl
@[simp] theorem Block.onStore_line (f : Store → Store) (b : Block) : (b.onStore f).line = b.line := rfl
@[simp] theorem Block.onStore_drive (f : Store → Store) (b : Block) : (b.onStore f).drive = b.drive := rfl
@[simp] theorem Block.onStore_plan (f : Store → Store) (b : Block) : (b.onStore f).plan = b.plan := rfl
@[simp] theorem Block.onStore_coord (f : Store → Store) (b : Block) : (b.onStore f).coord = b.coord := rfl
@[simp] theorem Block.onStore_conveyor (f : Store → Store) (b : Block) : (b.onStore f).conveyor = b.conveyor := rfl
@[simp] theorem Block.onStore_pages (f : Store → Store) (b : Block) : (b.onStore f).pages = b.pages := rfl
@[simp] theorem Block.onStore_pager (f : Store → Store) (b : Block) : (b.onStore f).pager = b.pager := rfl
@[simp] theorem Block.onStore_port (f : Store → Store) (b : Block) : (b.onStore f).port = b.port := rfl
@[simp] theorem Block.onStore_store (f : Store → Store) (b : Block) : (b.onStore f).store = f b.store := rfl

end Sys2Proof.Machine
end

