-- ==== Sys2Proof/Laws/Ops.lean ====
section
/-! SUPPORT. The blocks that each shared operation leaves unchanged. -/

namespace Sys2Proof.Machine

/-! ## Counters, events, slots and queues -/

@[simp] theorem countBy_station (n : CounterName) (k : Nat) (b : Block) : (countBy n k b).station = b.station := by
  simp [countBy]

@[simp] theorem countBy_share (n : CounterName) (k : Nat) (b : Block) : (countBy n k b).share = b.share := by
  simp [countBy]

@[simp] theorem countBy_peers (n : CounterName) (k : Nat) (b : Block) : (countBy n k b).peers = b.peers := by
  simp [countBy]

@[simp] theorem countBy_line (n : CounterName) (k : Nat) (b : Block) : (countBy n k b).line = b.line := by
  simp [countBy]

@[simp] theorem countBy_drive (n : CounterName) (k : Nat) (b : Block) : (countBy n k b).drive = b.drive := by
  simp [countBy]

@[simp] theorem countBy_plan (n : CounterName) (k : Nat) (b : Block) : (countBy n k b).plan = b.plan := by
  simp [countBy]

@[simp] theorem countBy_coord (n : CounterName) (k : Nat) (b : Block) : (countBy n k b).coord = b.coord := by
  simp [countBy]

@[simp] theorem countBy_conveyor (n : CounterName) (k : Nat) (b : Block) : (countBy n k b).conveyor = b.conveyor := by
  simp [countBy]

@[simp] theorem countBy_pages (n : CounterName) (k : Nat) (b : Block) : (countBy n k b).pages = b.pages := by
  simp [countBy]

@[simp] theorem countBy_pager (n : CounterName) (k : Nat) (b : Block) : (countBy n k b).pager = b.pager := by
  simp [countBy]

@[simp] theorem countBy_store (n : CounterName) (k : Nat) (b : Block) : (countBy n k b).store = b.store := by
  simp [countBy]


@[simp] theorem count_station (n : CounterName) (b : Block) : (count n b).station = b.station := by
  simp [count]

@[simp] theorem count_share (n : CounterName) (b : Block) : (count n b).share = b.share := by
  simp [count]

@[simp] theorem count_peers (n : CounterName) (b : Block) : (count n b).peers = b.peers := by
  simp [count]

@[simp] theorem count_line (n : CounterName) (b : Block) : (count n b).line = b.line := by
  simp [count]

@[simp] theorem count_drive (n : CounterName) (b : Block) : (count n b).drive = b.drive := by
  simp [count]

@[simp] theorem count_plan (n : CounterName) (b : Block) : (count n b).plan = b.plan := by
  simp [count]

@[simp] theorem count_coord (n : CounterName) (b : Block) : (count n b).coord = b.coord := by
  simp [count]

@[simp] theorem count_conveyor (n : CounterName) (b : Block) : (count n b).conveyor = b.conveyor := by
  simp [count]

@[simp] theorem count_pages (n : CounterName) (b : Block) : (count n b).pages = b.pages := by
  simp [count]

@[simp] theorem count_pager (n : CounterName) (b : Block) : (count n b).pager = b.pager := by
  simp [count]

@[simp] theorem count_store (n : CounterName) (b : Block) : (count n b).store = b.store := by
  simp [count]


@[simp] theorem offer_station (e : EventBody) (b : Block) : (offer e b).station = b.station := by
  simp [offer]

@[simp] theorem offer_share (e : EventBody) (b : Block) : (offer e b).share = b.share := by
  simp [offer]

@[simp] theorem offer_peers (e : EventBody) (b : Block) : (offer e b).peers = b.peers := by
  simp [offer]

@[simp] theorem offer_line (e : EventBody) (b : Block) : (offer e b).line = b.line := by
  simp [offer]

@[simp] theorem offer_drive (e : EventBody) (b : Block) : (offer e b).drive = b.drive := by
  simp [offer]

@[simp] theorem offer_plan (e : EventBody) (b : Block) : (offer e b).plan = b.plan := by
  simp [offer]

@[simp] theorem offer_coord (e : EventBody) (b : Block) : (offer e b).coord = b.coord := by
  simp [offer]

@[simp] theorem offer_conveyor (e : EventBody) (b : Block) : (offer e b).conveyor = b.conveyor := by
  simp [offer]

@[simp] theorem offer_pages (e : EventBody) (b : Block) : (offer e b).pages = b.pages := by
  simp [offer]

@[simp] theorem offer_pager (e : EventBody) (b : Block) : (offer e b).pager = b.pager := by
  simp [offer]

@[simp] theorem offer_store (e : EventBody) (b : Block) : (offer e b).store = b.store := by
  simp [offer]


@[simp] theorem markDemand_station  (b : Block) : (markDemand b).station = b.station := by
  unfold markDemand; split <;> simp

@[simp] theorem markDemand_share  (b : Block) : (markDemand b).share = b.share := by
  unfold markDemand; split <;> simp

@[simp] theorem markDemand_peers  (b : Block) : (markDemand b).peers = b.peers := by
  unfold markDemand; split <;> simp

@[simp] theorem markDemand_drive  (b : Block) : (markDemand b).drive = b.drive := by
  unfold markDemand; split <;> simp

@[simp] theorem markDemand_plan  (b : Block) : (markDemand b).plan = b.plan := by
  unfold markDemand; split <;> simp

@[simp] theorem markDemand_coord  (b : Block) : (markDemand b).coord = b.coord := by
  unfold markDemand; split <;> simp

@[simp] theorem markDemand_conveyor  (b : Block) : (markDemand b).conveyor = b.conveyor := by
  unfold markDemand; split <;> simp

@[simp] theorem markDemand_pages  (b : Block) : (markDemand b).pages = b.pages := by
  unfold markDemand; split <;> simp

@[simp] theorem markDemand_pager  (b : Block) : (markDemand b).pager = b.pager := by
  unfold markDemand; split <;> simp

@[simp] theorem markDemand_port  (b : Block) : (markDemand b).port = b.port := by
  unfold markDemand; split <;> simp

@[simp] theorem markDemand_store  (b : Block) : (markDemand b).store = b.store := by
  unfold markDemand; split <;> simp


@[simp] theorem markCourse_station  (b : Block) : (markCourse b).station = b.station := by
  unfold markCourse; split <;> simp

@[simp] theorem markCourse_share  (b : Block) : (markCourse b).share = b.share := by
  unfold markCourse; split <;> simp

@[simp] theorem markCourse_peers  (b : Block) : (markCourse b).peers = b.peers := by
  unfold markCourse; split <;> simp

@[simp] theorem markCourse_drive  (b : Block) : (markCourse b).drive = b.drive := by
  unfold markCourse; split <;> simp

@[simp] theorem markCourse_plan  (b : Block) : (markCourse b).plan = b.plan := by
  unfold markCourse; split <;> simp

@[simp] theorem markCourse_coord  (b : Block) : (markCourse b).coord = b.coord := by
  unfold markCourse; split <;> simp

@[simp] theorem markCourse_conveyor  (b : Block) : (markCourse b).conveyor = b.conveyor := by
  unfold markCourse; split <;> simp

@[simp] theorem markCourse_pages  (b : Block) : (markCourse b).pages = b.pages := by
  unfold markCourse; split <;> simp

@[simp] theorem markCourse_pager  (b : Block) : (markCourse b).pager = b.pager := by
  unfold markCourse; split <;> simp

@[simp] theorem markCourse_port  (b : Block) : (markCourse b).port = b.port := by
  unfold markCourse; split <;> simp

@[simp] theorem markCourse_store  (b : Block) : (markCourse b).store = b.store := by
  unfold markCourse; split <;> simp


@[simp] theorem queueShift_station (x : ShiftEntry) (b : Block) : (queueShift x b).station = b.station := by
  unfold queueShift; dsimp only; split <;> [split <;> simp; rfl]

@[simp] theorem queueShift_share (x : ShiftEntry) (b : Block) : (queueShift x b).share = b.share := by
  unfold queueShift; dsimp only; split <;> [split <;> simp; rfl]

@[simp] theorem queueShift_peers (x : ShiftEntry) (b : Block) : (queueShift x b).peers = b.peers := by
  unfold queueShift; dsimp only; split <;> [split <;> simp; rfl]

@[simp] theorem queueShift_drive (x : ShiftEntry) (b : Block) : (queueShift x b).drive = b.drive := by
  unfold queueShift; dsimp only; split <;> [split <;> simp; rfl]

@[simp] theorem queueShift_plan (x : ShiftEntry) (b : Block) : (queueShift x b).plan = b.plan := by
  unfold queueShift; dsimp only; split <;> [split <;> simp; rfl]

@[simp] theorem queueShift_coord (x : ShiftEntry) (b : Block) : (queueShift x b).coord = b.coord := by
  unfold queueShift; dsimp only; split <;> [split <;> simp; rfl]

@[simp] theorem queueShift_conveyor (x : ShiftEntry) (b : Block) : (queueShift x b).conveyor = b.conveyor := by
  unfold queueShift; dsimp only; split <;> [split <;> simp; rfl]

@[simp] theorem queueShift_pages (x : ShiftEntry) (b : Block) : (queueShift x b).pages = b.pages := by
  unfold queueShift; dsimp only; split <;> [split <;> simp; rfl]

@[simp] theorem queueShift_pager (x : ShiftEntry) (b : Block) : (queueShift x b).pager = b.pager := by
  unfold queueShift; dsimp only; split <;> [split <;> simp; rfl]

@[simp] theorem queueShift_store (x : ShiftEntry) (b : Block) : (queueShift x b).store = b.store := by
  unfold queueShift; dsimp only; split <;> [split <;> simp; rfl]


@[simp] theorem queuePage_station (f : PageFrame) (b : Block) : ((queuePage f b).2).station = b.station := by
  unfold queuePage; split <;> [split <;> simp; rfl]

@[simp] theorem queuePage_share (f : PageFrame) (b : Block) : ((queuePage f b).2).share = b.share := by
  unfold queuePage; split <;> [split <;> simp; rfl]

@[simp] theorem queuePage_peers (f : PageFrame) (b : Block) : ((queuePage f b).2).peers = b.peers := by
  unfold queuePage; split <;> [split <;> simp; rfl]

@[simp] theorem queuePage_drive (f : PageFrame) (b : Block) : ((queuePage f b).2).drive = b.drive := by
  unfold queuePage; split <;> [split <;> simp; rfl]

@[simp] theorem queuePage_plan (f : PageFrame) (b : Block) : ((queuePage f b).2).plan = b.plan := by
  unfold queuePage; split <;> [split <;> simp; rfl]

@[simp] theorem queuePage_coord (f : PageFrame) (b : Block) : ((queuePage f b).2).coord = b.coord := by
  unfold queuePage; split <;> [split <;> simp; rfl]

@[simp] theorem queuePage_conveyor (f : PageFrame) (b : Block) : ((queuePage f b).2).conveyor = b.conveyor := by
  unfold queuePage; split <;> [split <;> simp; rfl]

@[simp] theorem queuePage_pages (f : PageFrame) (b : Block) : ((queuePage f b).2).pages = b.pages := by
  unfold queuePage; split <;> [split <;> simp; rfl]

@[simp] theorem queuePage_pager (f : PageFrame) (b : Block) : ((queuePage f b).2).pager = b.pager := by
  unfold queuePage; split <;> [split <;> simp; rfl]

@[simp] theorem queuePage_store (f : PageFrame) (b : Block) : ((queuePage f b).2).store = b.store := by
  unfold queuePage; split <;> [split <;> simp; rfl]


/-! ## Generation memory, page table, send list, election -/

@[simp] theorem setMemory_station (c : Cause) (r : MemRecord) (b : Block) : (setMemory c r b).station = b.station := by
  simp [setMemory]

@[simp] theorem setMemory_share (c : Cause) (r : MemRecord) (b : Block) : (setMemory c r b).share = b.share := by
  simp [setMemory]

@[simp] theorem setMemory_peers (c : Cause) (r : MemRecord) (b : Block) : (setMemory c r b).peers = b.peers := by
  simp [setMemory]

@[simp] theorem setMemory_line (c : Cause) (r : MemRecord) (b : Block) : (setMemory c r b).line = b.line := by
  simp [setMemory]

@[simp] theorem setMemory_drive (c : Cause) (r : MemRecord) (b : Block) : (setMemory c r b).drive = b.drive := by
  simp [setMemory]

@[simp] theorem setMemory_plan (c : Cause) (r : MemRecord) (b : Block) : (setMemory c r b).plan = b.plan := by
  simp [setMemory]

@[simp] theorem setMemory_coord (c : Cause) (r : MemRecord) (b : Block) : (setMemory c r b).coord = b.coord := by
  simp [setMemory]

@[simp] theorem setMemory_conveyor (c : Cause) (r : MemRecord) (b : Block) : (setMemory c r b).conveyor = b.conveyor := by
  simp [setMemory]

@[simp] theorem setMemory_pager (c : Cause) (r : MemRecord) (b : Block) : (setMemory c r b).pager = b.pager := by
  simp [setMemory]

@[simp] theorem setMemory_port (c : Cause) (r : MemRecord) (b : Block) : (setMemory c r b).port = b.port := by
  simp [setMemory]

@[simp] theorem setMemory_store (c : Cause) (r : MemRecord) (b : Block) : (setMemory c r b).store = b.store := by
  simp [setMemory]


@[simp] theorem setPage_station (i : Nat) (e : Option PageEntry) (b : Block) : (setPage i e b).station = b.station := by
  simp [setPage]

@[simp] theorem setPage_share (i : Nat) (e : Option PageEntry) (b : Block) : (setPage i e b).share = b.share := by
  simp [setPage]

@[simp] theorem setPage_peers (i : Nat) (e : Option PageEntry) (b : Block) : (setPage i e b).peers = b.peers := by
  simp [setPage]

@[simp] theorem setPage_line (i : Nat) (e : Option PageEntry) (b : Block) : (setPage i e b).line = b.line := by
  simp [setPage]

@[simp] theorem setPage_drive (i : Nat) (e : Option PageEntry) (b : Block) : (setPage i e b).drive = b.drive := by
  simp [setPage]

@[simp] theorem setPage_plan (i : Nat) (e : Option PageEntry) (b : Block) : (setPage i e b).plan = b.plan := by
  simp [setPage]

@[simp] theorem setPage_coord (i : Nat) (e : Option PageEntry) (b : Block) : (setPage i e b).coord = b.coord := by
  simp [setPage]

@[simp] theorem setPage_conveyor (i : Nat) (e : Option PageEntry) (b : Block) : (setPage i e b).conveyor = b.conveyor := by
  simp [setPage]

@[simp] theorem setPage_pager (i : Nat) (e : Option PageEntry) (b : Block) : (setPage i e b).pager = b.pager := by
  simp [setPage]

@[simp] theorem setPage_port (i : Nat) (e : Option PageEntry) (b : Block) : (setPage i e b).port = b.port := by
  simp [setPage]

@[simp] theorem setPage_store (i : Nat) (e : Option PageEntry) (b : Block) : (setPage i e b).store = b.store := by
  simp [setPage]


@[simp] theorem unlist_station (c : Cause) (b : Block) : (unlist c b).station = b.station := by
  simp [unlist]

@[simp] theorem unlist_share (c : Cause) (b : Block) : (unlist c b).share = b.share := by
  simp [unlist]

@[simp] theorem unlist_peers (c : Cause) (b : Block) : (unlist c b).peers = b.peers := by
  simp [unlist]

@[simp] theorem unlist_line (c : Cause) (b : Block) : (unlist c b).line = b.line := by
  simp [unlist]

@[simp] theorem unlist_drive (c : Cause) (b : Block) : (unlist c b).drive = b.drive := by
  simp [unlist]

@[simp] theorem unlist_plan (c : Cause) (b : Block) : (unlist c b).plan = b.plan := by
  simp [unlist]

@[simp] theorem unlist_coord (c : Cause) (b : Block) : (unlist c b).coord = b.coord := by
  simp [unlist]

@[simp] theorem unlist_conveyor (c : Cause) (b : Block) : (unlist c b).conveyor = b.conveyor := by
  simp [unlist]

@[simp] theorem unlist_pages (c : Cause) (b : Block) : (unlist c b).pages = b.pages := by
  simp [unlist]

@[simp] theorem unlist_port (c : Cause) (b : Block) : (unlist c b).port = b.port := by
  simp [unlist]

@[simp] theorem unlist_store (c : Cause) (b : Block) : (unlist c b).store = b.store := by
  simp [unlist]


@[simp] theorem placeSend_station (c : Cause) (b : Block) : (placeSend c b).station = b.station := by
  unfold placeSend; repeat' split
  all_goals simp

@[simp] theorem placeSend_share (c : Cause) (b : Block) : (placeSend c b).share = b.share := by
  unfold placeSend; repeat' split
  all_goals simp

@[simp] theorem placeSend_peers (c : Cause) (b : Block) : (placeSend c b).peers = b.peers := by
  unfold placeSend; repeat' split
  all_goals simp

@[simp] theorem placeSend_line (c : Cause) (b : Block) : (placeSend c b).line = b.line := by
  unfold placeSend; repeat' split
  all_goals simp

@[simp] theorem placeSend_drive (c : Cause) (b : Block) : (placeSend c b).drive = b.drive := by
  unfold placeSend; repeat' split
  all_goals simp

@[simp] theorem placeSend_plan (c : Cause) (b : Block) : (placeSend c b).plan = b.plan := by
  unfold placeSend; repeat' split
  all_goals simp

@[simp] theorem placeSend_coord (c : Cause) (b : Block) : (placeSend c b).coord = b.coord := by
  unfold placeSend; repeat' split
  all_goals simp

@[simp] theorem placeSend_conveyor (c : Cause) (b : Block) : (placeSend c b).conveyor = b.conveyor := by
  unfold placeSend; repeat' split
  all_goals simp

@[simp] theorem placeSend_pages (c : Cause) (b : Block) : (placeSend c b).pages = b.pages := by
  unfold placeSend; repeat' split
  all_goals simp

@[simp] theorem placeSend_port (c : Cause) (b : Block) : (placeSend c b).port = b.port := by
  unfold placeSend; repeat' split
  all_goals simp

@[simp] theorem placeSend_store (c : Cause) (b : Block) : (placeSend c b).store = b.store := by
  unfold placeSend; repeat' split
  all_goals simp


@[simp] theorem placeAll_station (cs : List Cause) (b : Block) : (cs.foldl (fun acc c => placeSend c acc) b).station = b.station := by
  induction cs generalizing b with
  | nil => rfl
  | cons c rest ih => simp [ih]

@[simp] theorem placeAll_share (cs : List Cause) (b : Block) : (cs.foldl (fun acc c => placeSend c acc) b).share = b.share := by
  induction cs generalizing b with
  | nil => rfl
  | cons c rest ih => simp [ih]

@[simp] theorem placeAll_peers (cs : List Cause) (b : Block) : (cs.foldl (fun acc c => placeSend c acc) b).peers = b.peers := by
  induction cs generalizing b with
  | nil => rfl
  | cons c rest ih => simp [ih]

@[simp] theorem placeAll_line (cs : List Cause) (b : Block) : (cs.foldl (fun acc c => placeSend c acc) b).line = b.line := by
  induction cs generalizing b with
  | nil => rfl
  | cons c rest ih => simp [ih]

@[simp] theorem placeAll_drive (cs : List Cause) (b : Block) : (cs.foldl (fun acc c => placeSend c acc) b).drive = b.drive := by
  induction cs generalizing b with
  | nil => rfl
  | cons c rest ih => simp [ih]

@[simp] theorem placeAll_plan (cs : List Cause) (b : Block) : (cs.foldl (fun acc c => placeSend c acc) b).plan = b.plan := by
  induction cs generalizing b with
  | nil => rfl
  | cons c rest ih => simp [ih]

@[simp] theorem placeAll_coord (cs : List Cause) (b : Block) : (cs.foldl (fun acc c => placeSend c acc) b).coord = b.coord := by
  induction cs generalizing b with
  | nil => rfl
  | cons c rest ih => simp [ih]

@[simp] theorem placeAll_conveyor (cs : List Cause) (b : Block) : (cs.foldl (fun acc c => placeSend c acc) b).conveyor = b.conveyor := by
  induction cs generalizing b with
  | nil => rfl
  | cons c rest ih => simp [ih]

@[simp] theorem placeAll_pages (cs : List Cause) (b : Block) : (cs.foldl (fun acc c => placeSend c acc) b).pages = b.pages := by
  induction cs generalizing b with
  | nil => rfl
  | cons c rest ih => simp [ih]

@[simp] theorem placeAll_port (cs : List Cause) (b : Block) : (cs.foldl (fun acc c => placeSend c acc) b).port = b.port := by
  induction cs generalizing b with
  | nil => rfl
  | cons c rest ih => simp [ih]

@[simp] theorem placeAll_store (cs : List Cause) (b : Block) : (cs.foldl (fun acc c => placeSend c acc) b).store = b.store := by
  induction cs generalizing b with
  | nil => rfl
  | cons c rest ih => simp [ih]


@[simp] theorem decideElection_station  (b : Block) : (decideElection b).station = b.station := by
  unfold decideElection; repeat' split
  all_goals simp

@[simp] theorem decideElection_share  (b : Block) : (decideElection b).share = b.share := by
  unfold decideElection; repeat' split
  all_goals simp

@[simp] theorem decideElection_peers  (b : Block) : (decideElection b).peers = b.peers := by
  unfold decideElection; repeat' split
  all_goals simp

@[simp] theorem decideElection_line  (b : Block) : (decideElection b).line = b.line := by
  unfold decideElection; repeat' split
  all_goals simp

@[simp] theorem decideElection_drive  (b : Block) : (decideElection b).drive = b.drive := by
  unfold decideElection; repeat' split
  all_goals simp

@[simp] theorem decideElection_plan  (b : Block) : (decideElection b).plan = b.plan := by
  unfold decideElection; repeat' split
  all_goals simp

@[simp] theorem decideElection_coord  (b : Block) : (decideElection b).coord = b.coord := by
  unfold decideElection; repeat' split
  all_goals simp

@[simp] theorem decideElection_conveyor  (b : Block) : (decideElection b).conveyor = b.conveyor := by
  unfold decideElection; repeat' split
  all_goals simp

@[simp] theorem decideElection_pages  (b : Block) : (decideElection b).pages = b.pages := by
  unfold decideElection; repeat' split
  all_goals simp

@[simp] theorem decideElection_port  (b : Block) : (decideElection b).port = b.port := by
  unfold decideElection; repeat' split
  all_goals simp

@[simp] theorem decideElection_store  (b : Block) : (decideElection b).store = b.store := by
  unfold decideElection; repeat' split
  all_goals simp


@[simp] theorem changeState_share (n : StationState) (r : EntryReason) (b : Block) : (changeState n r b).share = b.share := by
  simp [changeState]

@[simp] theorem changeState_peers (n : StationState) (r : EntryReason) (b : Block) : (changeState n r b).peers = b.peers := by
  simp [changeState]

@[simp] theorem changeState_line (n : StationState) (r : EntryReason) (b : Block) : (changeState n r b).line = b.line := by
  simp [changeState]

@[simp] theorem changeState_drive (n : StationState) (r : EntryReason) (b : Block) : (changeState n r b).drive = b.drive := by
  simp [changeState]

@[simp] theorem changeState_plan (n : StationState) (r : EntryReason) (b : Block) : (changeState n r b).plan = b.plan := by
  simp [changeState]

@[simp] theorem changeState_coord (n : StationState) (r : EntryReason) (b : Block) : (changeState n r b).coord = b.coord := by
  simp [changeState]

@[simp] theorem changeState_conveyor (n : StationState) (r : EntryReason) (b : Block) : (changeState n r b).conveyor = b.conveyor := by
  simp [changeState]

@[simp] theorem changeState_pages (n : StationState) (r : EntryReason) (b : Block) : (changeState n r b).pages = b.pages := by
  simp [changeState]

@[simp] theorem changeState_store (n : StationState) (r : EntryReason) (b : Block) : (changeState n r b).store = b.store := by
  simp [changeState]


@[simp] theorem cutGrant_station  (b : Block) : (cutGrant b).station = b.station := by
  simp [cutGrant]

@[simp] theorem cutGrant_peers  (b : Block) : (cutGrant b).peers = b.peers := by
  simp [cutGrant]

@[simp] theorem cutGrant_line  (b : Block) : (cutGrant b).line = b.line := by
  simp [cutGrant]

@[simp] theorem cutGrant_drive  (b : Block) : (cutGrant b).drive = b.drive := by
  simp [cutGrant]

@[simp] theorem cutGrant_plan  (b : Block) : (cutGrant b).plan = b.plan := by
  simp [cutGrant]

@[simp] theorem cutGrant_coord  (b : Block) : (cutGrant b).coord = b.coord := by
  simp [cutGrant]

@[simp] theorem cutGrant_conveyor  (b : Block) : (cutGrant b).conveyor = b.conveyor := by
  simp [cutGrant]

@[simp] theorem cutGrant_pages  (b : Block) : (cutGrant b).pages = b.pages := by
  simp [cutGrant]

@[simp] theorem cutGrant_pager  (b : Block) : (cutGrant b).pager = b.pager := by
  simp [cutGrant]

@[simp] theorem cutGrant_port  (b : Block) : (cutGrant b).port = b.port := by
  simp [cutGrant]

@[simp] theorem cutGrant_store  (b : Block) : (cutGrant b).store = b.store := by
  simp [cutGrant]

/-- A replacement keeps the length of the SHIFT queue (R56). -/
@[simp] theorem replaceShift_length (e : ShiftEntry) (q : List ShiftEntry) : (replaceShift e q).length = q.length := by
  induction q with
  | nil => rfl
  | cons x rest ih => simp only [replaceShift]; split <;> simp [ih]

end Sys2Proof.Machine
end

