-- ==== Sys2Proof/Laws/Pages.lean ====
section
/-! SUPPORT. A raise and a resolution report change the page table, the send list, the PAGE queue and the port; the other
blocks stand. -/

namespace Sys2Proof.Machine

/-! ## Raising and resolving -/

@[simp] theorem pageEvent_station (e : PageEntry) (b : Block) : (pageEvent e b).station = b.station := by
  simp [pageEvent]

@[simp] theorem pageEvent_share (e : PageEntry) (b : Block) : (pageEvent e b).share = b.share := by
  simp [pageEvent]

@[simp] theorem pageEvent_peers (e : PageEntry) (b : Block) : (pageEvent e b).peers = b.peers := by
  simp [pageEvent]

@[simp] theorem pageEvent_line (e : PageEntry) (b : Block) : (pageEvent e b).line = b.line := by
  simp [pageEvent]

@[simp] theorem pageEvent_drive (e : PageEntry) (b : Block) : (pageEvent e b).drive = b.drive := by
  simp [pageEvent]

@[simp] theorem pageEvent_plan (e : PageEntry) (b : Block) : (pageEvent e b).plan = b.plan := by
  simp [pageEvent]

@[simp] theorem pageEvent_coord (e : PageEntry) (b : Block) : (pageEvent e b).coord = b.coord := by
  simp [pageEvent]

@[simp] theorem pageEvent_conveyor (e : PageEntry) (b : Block) : (pageEvent e b).conveyor = b.conveyor := by
  simp [pageEvent]

@[simp] theorem pageEvent_pages (e : PageEntry) (b : Block) : (pageEvent e b).pages = b.pages := by
  simp [pageEvent]

@[simp] theorem pageEvent_pager (e : PageEntry) (b : Block) : (pageEvent e b).pager = b.pager := by
  simp [pageEvent]

@[simp] theorem pageEvent_store (e : PageEntry) (b : Block) : (pageEvent e b).store = b.store := by
  simp [pageEvent]


@[simp] theorem removedEvent_station (e : PageEntry) (b : Block) : (removedEvent e b).station = b.station := by
  simp [removedEvent]

@[simp] theorem removedEvent_share (e : PageEntry) (b : Block) : (removedEvent e b).share = b.share := by
  simp [removedEvent]

@[simp] theorem removedEvent_peers (e : PageEntry) (b : Block) : (removedEvent e b).peers = b.peers := by
  simp [removedEvent]

@[simp] theorem removedEvent_line (e : PageEntry) (b : Block) : (removedEvent e b).line = b.line := by
  simp [removedEvent]

@[simp] theorem removedEvent_drive (e : PageEntry) (b : Block) : (removedEvent e b).drive = b.drive := by
  simp [removedEvent]

@[simp] theorem removedEvent_plan (e : PageEntry) (b : Block) : (removedEvent e b).plan = b.plan := by
  simp [removedEvent]

@[simp] theorem removedEvent_coord (e : PageEntry) (b : Block) : (removedEvent e b).coord = b.coord := by
  simp [removedEvent]

@[simp] theorem removedEvent_conveyor (e : PageEntry) (b : Block) : (removedEvent e b).conveyor = b.conveyor := by
  simp [removedEvent]

@[simp] theorem removedEvent_pages (e : PageEntry) (b : Block) : (removedEvent e b).pages = b.pages := by
  simp [removedEvent]

@[simp] theorem removedEvent_pager (e : PageEntry) (b : Block) : (removedEvent e b).pager = b.pager := by
  simp [removedEvent]

@[simp] theorem removedEvent_store (e : PageEntry) (b : Block) : (removedEvent e b).store = b.store := by
  simp [removedEvent]


@[simp] theorem makeEntry_station (i : Nat) (w : Waiting) (b : Block) : (makeEntry i w b).station = b.station := by
  simp [makeEntry]

@[simp] theorem makeEntry_share (i : Nat) (w : Waiting) (b : Block) : (makeEntry i w b).share = b.share := by
  simp [makeEntry]

@[simp] theorem makeEntry_peers (i : Nat) (w : Waiting) (b : Block) : (makeEntry i w b).peers = b.peers := by
  simp [makeEntry]

@[simp] theorem makeEntry_drive (i : Nat) (w : Waiting) (b : Block) : (makeEntry i w b).drive = b.drive := by
  simp [makeEntry]

@[simp] theorem makeEntry_plan (i : Nat) (w : Waiting) (b : Block) : (makeEntry i w b).plan = b.plan := by
  simp [makeEntry]

@[simp] theorem makeEntry_coord (i : Nat) (w : Waiting) (b : Block) : (makeEntry i w b).coord = b.coord := by
  simp [makeEntry]

@[simp] theorem makeEntry_conveyor (i : Nat) (w : Waiting) (b : Block) : (makeEntry i w b).conveyor = b.conveyor := by
  simp [makeEntry]

@[simp] theorem makeEntry_store (i : Nat) (w : Waiting) (b : Block) : (makeEntry i w b).store = b.store := by
  simp [makeEntry]


@[simp] theorem enterRetry_station  (b : Block) : (enterRetry b).station = b.station := by
  unfold enterRetry; split <;> simp

@[simp] theorem enterRetry_share  (b : Block) : (enterRetry b).share = b.share := by
  unfold enterRetry; split <;> simp

@[simp] theorem enterRetry_peers  (b : Block) : (enterRetry b).peers = b.peers := by
  unfold enterRetry; split <;> simp

@[simp] theorem enterRetry_drive  (b : Block) : (enterRetry b).drive = b.drive := by
  unfold enterRetry; split <;> simp

@[simp] theorem enterRetry_plan  (b : Block) : (enterRetry b).plan = b.plan := by
  unfold enterRetry; split <;> simp

@[simp] theorem enterRetry_coord  (b : Block) : (enterRetry b).coord = b.coord := by
  unfold enterRetry; split <;> simp

@[simp] theorem enterRetry_conveyor  (b : Block) : (enterRetry b).conveyor = b.conveyor := by
  unfold enterRetry; split <;> simp

@[simp] theorem enterRetry_store  (b : Block) : (enterRetry b).store = b.store := by
  unfold enterRetry; split <;> simp


@[simp] theorem joinRetry_station (c : Cause) (p l : Nat) (b : Block) : ((joinRetry c p l b).1).station = b.station := by
  unfold joinRetry; repeat' split
  all_goals simp

@[simp] theorem joinRetry_share (c : Cause) (p l : Nat) (b : Block) : ((joinRetry c p l b).1).share = b.share := by
  unfold joinRetry; repeat' split
  all_goals simp

@[simp] theorem joinRetry_peers (c : Cause) (p l : Nat) (b : Block) : ((joinRetry c p l b).1).peers = b.peers := by
  unfold joinRetry; repeat' split
  all_goals simp

@[simp] theorem joinRetry_line (c : Cause) (p l : Nat) (b : Block) : ((joinRetry c p l b).1).line = b.line := by
  unfold joinRetry; repeat' split
  all_goals simp

@[simp] theorem joinRetry_drive (c : Cause) (p l : Nat) (b : Block) : ((joinRetry c p l b).1).drive = b.drive := by
  unfold joinRetry; repeat' split
  all_goals simp

@[simp] theorem joinRetry_plan (c : Cause) (p l : Nat) (b : Block) : ((joinRetry c p l b).1).plan = b.plan := by
  unfold joinRetry; repeat' split
  all_goals simp

@[simp] theorem joinRetry_coord (c : Cause) (p l : Nat) (b : Block) : ((joinRetry c p l b).1).coord = b.coord := by
  unfold joinRetry; repeat' split
  all_goals simp

@[simp] theorem joinRetry_conveyor (c : Cause) (p l : Nat) (b : Block) : ((joinRetry c p l b).1).conveyor = b.conveyor := by
  unfold joinRetry; repeat' split
  all_goals simp

@[simp] theorem joinRetry_pager (c : Cause) (p l : Nat) (b : Block) : ((joinRetry c p l b).1).pager = b.pager := by
  unfold joinRetry; repeat' split
  all_goals simp

@[simp] theorem joinRetry_store (c : Cause) (p l : Nat) (b : Block) : ((joinRetry c p l b).1).store = b.store := by
  unfold joinRetry; repeat' split
  all_goals simp


@[simp] theorem raiseWith_station (c : Cause) (p l : Nat) (b : Block) : ((raiseWith c p l b).1).station = b.station := by
  unfold raiseWith; repeat' split
  all_goals simp

@[simp] theorem raiseWith_share (c : Cause) (p l : Nat) (b : Block) : ((raiseWith c p l b).1).share = b.share := by
  unfold raiseWith; repeat' split
  all_goals simp

@[simp] theorem raiseWith_peers (c : Cause) (p l : Nat) (b : Block) : ((raiseWith c p l b).1).peers = b.peers := by
  unfold raiseWith; repeat' split
  all_goals simp

@[simp] theorem raiseWith_drive (c : Cause) (p l : Nat) (b : Block) : ((raiseWith c p l b).1).drive = b.drive := by
  unfold raiseWith; repeat' split
  all_goals simp

@[simp] theorem raiseWith_plan (c : Cause) (p l : Nat) (b : Block) : ((raiseWith c p l b).1).plan = b.plan := by
  unfold raiseWith; repeat' split
  all_goals simp

@[simp] theorem raiseWith_coord (c : Cause) (p l : Nat) (b : Block) : ((raiseWith c p l b).1).coord = b.coord := by
  unfold raiseWith; repeat' split
  all_goals simp

@[simp] theorem raiseWith_conveyor (c : Cause) (p l : Nat) (b : Block) : ((raiseWith c p l b).1).conveyor = b.conveyor := by
  unfold raiseWith; repeat' split
  all_goals simp

@[simp] theorem raiseWith_store (c : Cause) (p l : Nat) (b : Block) : ((raiseWith c p l b).1).store = b.store := by
  unfold raiseWith; repeat' split
  all_goals simp


@[simp] theorem raise_station (k : CauseKind) (n : Nat) (b : Block) : (raise k n b).station = b.station := by
  simp [raise]

@[simp] theorem raise_share (k : CauseKind) (n : Nat) (b : Block) : (raise k n b).share = b.share := by
  simp [raise]

@[simp] theorem raise_peers (k : CauseKind) (n : Nat) (b : Block) : (raise k n b).peers = b.peers := by
  simp [raise]

@[simp] theorem raise_drive (k : CauseKind) (n : Nat) (b : Block) : (raise k n b).drive = b.drive := by
  simp [raise]

@[simp] theorem raise_plan (k : CauseKind) (n : Nat) (b : Block) : (raise k n b).plan = b.plan := by
  simp [raise]

@[simp] theorem raise_coord (k : CauseKind) (n : Nat) (b : Block) : (raise k n b).coord = b.coord := by
  simp [raise]

@[simp] theorem raise_conveyor (k : CauseKind) (n : Nat) (b : Block) : (raise k n b).conveyor = b.conveyor := by
  simp [raise]

@[simp] theorem raise_store (k : CauseKind) (n : Nat) (b : Block) : (raise k n b).store = b.store := by
  simp [raise]


@[simp] theorem removeEntry_station (i : Nat) (e : PageEntry) (g : Nat) (b : Block) : (removeEntry i e g b).station = b.station := by
  simp [removeEntry]

@[simp] theorem removeEntry_share (i : Nat) (e : PageEntry) (g : Nat) (b : Block) : (removeEntry i e g b).share = b.share := by
  simp [removeEntry]

@[simp] theorem removeEntry_peers (i : Nat) (e : PageEntry) (g : Nat) (b : Block) : (removeEntry i e g b).peers = b.peers := by
  simp [removeEntry]

@[simp] theorem removeEntry_drive (i : Nat) (e : PageEntry) (g : Nat) (b : Block) : (removeEntry i e g b).drive = b.drive := by
  simp [removeEntry]

@[simp] theorem removeEntry_plan (i : Nat) (e : PageEntry) (g : Nat) (b : Block) : (removeEntry i e g b).plan = b.plan := by
  simp [removeEntry]

@[simp] theorem removeEntry_coord (i : Nat) (e : PageEntry) (g : Nat) (b : Block) : (removeEntry i e g b).coord = b.coord := by
  simp [removeEntry]

@[simp] theorem removeEntry_conveyor (i : Nat) (e : PageEntry) (g : Nat) (b : Block) : (removeEntry i e g b).conveyor = b.conveyor := by
  simp [removeEntry]

@[simp] theorem removeEntry_store (i : Nat) (e : PageEntry) (g : Nat) (b : Block) : (removeEntry i e g b).store = b.store := by
  simp [removeEntry]


@[simp] theorem offerClear_station (i : Nat) (e : PageEntry) (b : Block) : (offerClear i e b).station = b.station := by
  unfold offerClear; dsimp only; split <;> simp

@[simp] theorem offerClear_share (i : Nat) (e : PageEntry) (b : Block) : (offerClear i e b).share = b.share := by
  unfold offerClear; dsimp only; split <;> simp

@[simp] theorem offerClear_peers (i : Nat) (e : PageEntry) (b : Block) : (offerClear i e b).peers = b.peers := by
  unfold offerClear; dsimp only; split <;> simp

@[simp] theorem offerClear_drive (i : Nat) (e : PageEntry) (b : Block) : (offerClear i e b).drive = b.drive := by
  unfold offerClear; dsimp only; split <;> simp

@[simp] theorem offerClear_plan (i : Nat) (e : PageEntry) (b : Block) : (offerClear i e b).plan = b.plan := by
  unfold offerClear; dsimp only; split <;> simp

@[simp] theorem offerClear_coord (i : Nat) (e : PageEntry) (b : Block) : (offerClear i e b).coord = b.coord := by
  unfold offerClear; dsimp only; split <;> simp

@[simp] theorem offerClear_conveyor (i : Nat) (e : PageEntry) (b : Block) : (offerClear i e b).conveyor = b.conveyor := by
  unfold offerClear; dsimp only; split <;> simp

@[simp] theorem offerClear_store (i : Nat) (e : PageEntry) (b : Block) : (offerClear i e b).store = b.store := by
  unfold offerClear; dsimp only; split <;> simp


@[simp] theorem resolve_station (c : Cause) (b : Block) : (resolve c b).station = b.station := by
  unfold resolve; repeat' split
  all_goals simp

@[simp] theorem resolve_share (c : Cause) (b : Block) : (resolve c b).share = b.share := by
  unfold resolve; repeat' split
  all_goals simp

@[simp] theorem resolve_peers (c : Cause) (b : Block) : (resolve c b).peers = b.peers := by
  unfold resolve; repeat' split
  all_goals simp

@[simp] theorem resolve_drive (c : Cause) (b : Block) : (resolve c b).drive = b.drive := by
  unfold resolve; repeat' split
  all_goals simp

@[simp] theorem resolve_plan (c : Cause) (b : Block) : (resolve c b).plan = b.plan := by
  unfold resolve; repeat' split
  all_goals simp

@[simp] theorem resolve_coord (c : Cause) (b : Block) : (resolve c b).coord = b.coord := by
  unfold resolve; repeat' split
  all_goals simp

@[simp] theorem resolve_conveyor (c : Cause) (b : Block) : (resolve c b).conveyor = b.conveyor := by
  unfold resolve; repeat' split
  all_goals simp

@[simp] theorem resolve_store (c : Cause) (b : Block) : (resolve c b).store = b.store := by
  unfold resolve; repeat' split
  all_goals simp


@[simp] theorem resolved_station (k : CauseKind) (n : Nat) (b : Block) : (resolved k n b).station = b.station := by
  simp [resolved]

@[simp] theorem resolved_share (k : CauseKind) (n : Nat) (b : Block) : (resolved k n b).share = b.share := by
  simp [resolved]

@[simp] theorem resolved_peers (k : CauseKind) (n : Nat) (b : Block) : (resolved k n b).peers = b.peers := by
  simp [resolved]

@[simp] theorem resolved_drive (k : CauseKind) (n : Nat) (b : Block) : (resolved k n b).drive = b.drive := by
  simp [resolved]

@[simp] theorem resolved_plan (k : CauseKind) (n : Nat) (b : Block) : (resolved k n b).plan = b.plan := by
  simp [resolved]

@[simp] theorem resolved_coord (k : CauseKind) (n : Nat) (b : Block) : (resolved k n b).coord = b.coord := by
  simp [resolved]

@[simp] theorem resolved_conveyor (k : CauseKind) (n : Nat) (b : Block) : (resolved k n b).conveyor = b.conveyor := by
  simp [resolved]

@[simp] theorem resolved_store (k : CauseKind) (n : Nat) (b : Block) : (resolved k n b).store = b.store := by
  simp [resolved]


end Sys2Proof.Machine
end

