-- ==== Sys2Proof/Laws/Blocks.lean ====
section
/-! SUPPORT. The blocks that the Course Coordinator and the Conveyor Tracker leave unchanged, and what their small decisions can be. -/

namespace Sys2Proof.Machine

/-! ## Courses -/

@[simp] theorem setCourse_station (i : Nat) (c : Option Course) (b : Block) : (setCourse i c b).station = b.station := by
  simp [setCourse]

@[simp] theorem setCourse_share (i : Nat) (c : Option Course) (b : Block) : (setCourse i c b).share = b.share := by
  simp [setCourse]

@[simp] theorem setCourse_peers (i : Nat) (c : Option Course) (b : Block) : (setCourse i c b).peers = b.peers := by
  simp [setCourse]

@[simp] theorem setCourse_line (i : Nat) (c : Option Course) (b : Block) : (setCourse i c b).line = b.line := by
  simp [setCourse]

@[simp] theorem setCourse_drive (i : Nat) (c : Option Course) (b : Block) : (setCourse i c b).drive = b.drive := by
  simp [setCourse]

@[simp] theorem setCourse_coord (i : Nat) (c : Option Course) (b : Block) : (setCourse i c b).coord = b.coord := by
  simp [setCourse]

@[simp] theorem setCourse_conveyor (i : Nat) (c : Option Course) (b : Block) : (setCourse i c b).conveyor = b.conveyor := by
  simp [setCourse]

@[simp] theorem setCourse_pages (i : Nat) (c : Option Course) (b : Block) : (setCourse i c b).pages = b.pages := by
  simp [setCourse]

@[simp] theorem setCourse_pager (i : Nat) (c : Option Course) (b : Block) : (setCourse i c b).pager = b.pager := by
  simp [setCourse]

@[simp] theorem setCourse_port (i : Nat) (c : Option Course) (b : Block) : (setCourse i c b).port = b.port := by
  simp [setCourse]

@[simp] theorem setCourse_store (i : Nat) (c : Option Course) (b : Block) : (setCourse i c b).store = b.store := by
  simp [setCourse]


@[simp] theorem storeCourseState_station (i : Nat) (n : CourseState) (b : Block) : (storeCourseState i n b).station = b.station := by
  unfold storeCourseState; dsimp only; repeat' split
  all_goals simp

@[simp] theorem storeCourseState_share (i : Nat) (n : CourseState) (b : Block) : (storeCourseState i n b).share = b.share := by
  unfold storeCourseState; dsimp only; repeat' split
  all_goals simp

@[simp] theorem storeCourseState_peers (i : Nat) (n : CourseState) (b : Block) : (storeCourseState i n b).peers = b.peers := by
  unfold storeCourseState; dsimp only; repeat' split
  all_goals simp

@[simp] theorem storeCourseState_drive (i : Nat) (n : CourseState) (b : Block) : (storeCourseState i n b).drive = b.drive := by
  unfold storeCourseState; dsimp only; repeat' split
  all_goals simp

@[simp] theorem storeCourseState_coord (i : Nat) (n : CourseState) (b : Block) : (storeCourseState i n b).coord = b.coord := by
  unfold storeCourseState; dsimp only; repeat' split
  all_goals simp

@[simp] theorem storeCourseState_conveyor (i : Nat) (n : CourseState) (b : Block) : (storeCourseState i n b).conveyor = b.conveyor := by
  unfold storeCourseState; dsimp only; repeat' split
  all_goals simp

@[simp] theorem storeCourseState_store (i : Nat) (n : CourseState) (b : Block) : (storeCourseState i n b).store = b.store := by
  unfold storeCourseState; dsimp only; repeat' split
  all_goals simp


@[simp] theorem storeLateDue_station (i : Nat) (d : Bool) (b : Block) : (storeLateDue i d b).station = b.station := by
  unfold storeLateDue; repeat' split
  all_goals simp

@[simp] theorem storeLateDue_share (i : Nat) (d : Bool) (b : Block) : (storeLateDue i d b).share = b.share := by
  unfold storeLateDue; repeat' split
  all_goals simp

@[simp] theorem storeLateDue_peers (i : Nat) (d : Bool) (b : Block) : (storeLateDue i d b).peers = b.peers := by
  unfold storeLateDue; repeat' split
  all_goals simp

@[simp] theorem storeLateDue_drive (i : Nat) (d : Bool) (b : Block) : (storeLateDue i d b).drive = b.drive := by
  unfold storeLateDue; repeat' split
  all_goals simp

@[simp] theorem storeLateDue_coord (i : Nat) (d : Bool) (b : Block) : (storeLateDue i d b).coord = b.coord := by
  unfold storeLateDue; repeat' split
  all_goals simp

@[simp] theorem storeLateDue_conveyor (i : Nat) (d : Bool) (b : Block) : (storeLateDue i d b).conveyor = b.conveyor := by
  unfold storeLateDue; repeat' split
  all_goals simp

@[simp] theorem storeLateDue_store (i : Nat) (d : Bool) (b : Block) : (storeLateDue i d b).store = b.store := by
  unfold storeLateDue; repeat' split
  all_goals simp


@[simp] theorem deriveCourse_station (i : Nat) (b : Block) : (deriveCourse i b).station = b.station := by
  unfold deriveCourse; dsimp only; repeat' split
  all_goals simp

@[simp] theorem deriveCourse_share (i : Nat) (b : Block) : (deriveCourse i b).share = b.share := by
  unfold deriveCourse; dsimp only; repeat' split
  all_goals simp

@[simp] theorem deriveCourse_peers (i : Nat) (b : Block) : (deriveCourse i b).peers = b.peers := by
  unfold deriveCourse; dsimp only; repeat' split
  all_goals simp

@[simp] theorem deriveCourse_drive (i : Nat) (b : Block) : (deriveCourse i b).drive = b.drive := by
  unfold deriveCourse; dsimp only; repeat' split
  all_goals simp

@[simp] theorem deriveCourse_coord (i : Nat) (b : Block) : (deriveCourse i b).coord = b.coord := by
  unfold deriveCourse; dsimp only; repeat' split
  all_goals simp

@[simp] theorem deriveCourse_conveyor (i : Nat) (b : Block) : (deriveCourse i b).conveyor = b.conveyor := by
  unfold deriveCourse; dsimp only; repeat' split
  all_goals simp

@[simp] theorem deriveCourse_store (i : Nat) (b : Block) : (deriveCourse i b).store = b.store := by
  unfold deriveCourse; dsimp only; repeat' split
  all_goals simp


@[simp] theorem evalReady_station (i : Nat) (b : Block) : (evalReady i b).station = b.station := by
  unfold evalReady; dsimp only; repeat' split
  all_goals simp

@[simp] theorem evalReady_share (i : Nat) (b : Block) : (evalReady i b).share = b.share := by
  unfold evalReady; dsimp only; repeat' split
  all_goals simp

@[simp] theorem evalReady_peers (i : Nat) (b : Block) : (evalReady i b).peers = b.peers := by
  unfold evalReady; dsimp only; repeat' split
  all_goals simp

@[simp] theorem evalReady_drive (i : Nat) (b : Block) : (evalReady i b).drive = b.drive := by
  unfold evalReady; dsimp only; repeat' split
  all_goals simp

@[simp] theorem evalReady_coord (i : Nat) (b : Block) : (evalReady i b).coord = b.coord := by
  unfold evalReady; dsimp only; repeat' split
  all_goals simp

@[simp] theorem evalReady_conveyor (i : Nat) (b : Block) : (evalReady i b).conveyor = b.conveyor := by
  unfold evalReady; dsimp only; repeat' split
  all_goals simp

@[simp] theorem evalReady_store (i : Nat) (b : Block) : (evalReady i b).store = b.store := by
  unfold evalReady; dsimp only; repeat' split
  all_goals simp


@[simp] theorem evalEach_station (l : List Nat) (b : Block) : (l.foldl (fun acc i => evalReady i acc) b).station = b.station := by
  induction l generalizing b with
  | nil => rfl
  | cons c rest ih => simp [ih]

@[simp] theorem evalEach_share (l : List Nat) (b : Block) : (l.foldl (fun acc i => evalReady i acc) b).share = b.share := by
  induction l generalizing b with
  | nil => rfl
  | cons c rest ih => simp [ih]

@[simp] theorem evalEach_peers (l : List Nat) (b : Block) : (l.foldl (fun acc i => evalReady i acc) b).peers = b.peers := by
  induction l generalizing b with
  | nil => rfl
  | cons c rest ih => simp [ih]

@[simp] theorem evalEach_drive (l : List Nat) (b : Block) : (l.foldl (fun acc i => evalReady i acc) b).drive = b.drive := by
  induction l generalizing b with
  | nil => rfl
  | cons c rest ih => simp [ih]

@[simp] theorem evalEach_coord (l : List Nat) (b : Block) : (l.foldl (fun acc i => evalReady i acc) b).coord = b.coord := by
  induction l generalizing b with
  | nil => rfl
  | cons c rest ih => simp [ih]

@[simp] theorem evalEach_conveyor (l : List Nat) (b : Block) : (l.foldl (fun acc i => evalReady i acc) b).conveyor = b.conveyor := by
  induction l generalizing b with
  | nil => rfl
  | cons c rest ih => simp [ih]

@[simp] theorem evalEach_store (l : List Nat) (b : Block) : (l.foldl (fun acc i => evalReady i acc) b).store = b.store := by
  induction l generalizing b with
  | nil => rfl
  | cons c rest ih => simp [ih]


@[simp] theorem evalAllReady_station  (b : Block) : (evalAllReady b).station = b.station := by
  simp [evalAllReady]

@[simp] theorem evalAllReady_share  (b : Block) : (evalAllReady b).share = b.share := by
  simp [evalAllReady]

@[simp] theorem evalAllReady_peers  (b : Block) : (evalAllReady b).peers = b.peers := by
  simp [evalAllReady]

@[simp] theorem evalAllReady_drive  (b : Block) : (evalAllReady b).drive = b.drive := by
  simp [evalAllReady]

@[simp] theorem evalAllReady_coord  (b : Block) : (evalAllReady b).coord = b.coord := by
  simp [evalAllReady]

@[simp] theorem evalAllReady_conveyor  (b : Block) : (evalAllReady b).conveyor = b.conveyor := by
  simp [evalAllReady]

@[simp] theorem evalAllReady_store  (b : Block) : (evalAllReady b).store = b.store := by
  simp [evalAllReady]


@[simp] theorem courseChange_station (i : Nat) (b : Block) : (courseChange i b).station = b.station := by
  simp [courseChange]

@[simp] theorem courseChange_share (i : Nat) (b : Block) : (courseChange i b).share = b.share := by
  simp [courseChange]

@[simp] theorem courseChange_peers (i : Nat) (b : Block) : (courseChange i b).peers = b.peers := by
  simp [courseChange]

@[simp] theorem courseChange_drive (i : Nat) (b : Block) : (courseChange i b).drive = b.drive := by
  simp [courseChange]

@[simp] theorem courseChange_coord (i : Nat) (b : Block) : (courseChange i b).coord = b.coord := by
  simp [courseChange]

@[simp] theorem courseChange_conveyor (i : Nat) (b : Block) : (courseChange i b).conveyor = b.conveyor := by
  simp [courseChange]

@[simp] theorem courseChange_store (i : Nat) (b : Block) : (courseChange i b).store = b.store := by
  simp [courseChange]


@[simp] theorem adoptVersion_station (i v o : Nat) (h : Bool) (b : Block) : (adoptVersion i v o h b).station = b.station := by
  unfold adoptVersion; dsimp only; repeat' split
  all_goals simp

@[simp] theorem adoptVersion_share (i v o : Nat) (h : Bool) (b : Block) : (adoptVersion i v o h b).share = b.share := by
  unfold adoptVersion; dsimp only; repeat' split
  all_goals simp

@[simp] theorem adoptVersion_peers (i v o : Nat) (h : Bool) (b : Block) : (adoptVersion i v o h b).peers = b.peers := by
  unfold adoptVersion; dsimp only; repeat' split
  all_goals simp

@[simp] theorem adoptVersion_drive (i v o : Nat) (h : Bool) (b : Block) : (adoptVersion i v o h b).drive = b.drive := by
  unfold adoptVersion; dsimp only; repeat' split
  all_goals simp

@[simp] theorem adoptVersion_coord (i v o : Nat) (h : Bool) (b : Block) : (adoptVersion i v o h b).coord = b.coord := by
  unfold adoptVersion; dsimp only; repeat' split
  all_goals simp

@[simp] theorem adoptVersion_conveyor (i v o : Nat) (h : Bool) (b : Block) : (adoptVersion i v o h b).conveyor = b.conveyor := by
  unfold adoptVersion; dsimp only; repeat' split
  all_goals simp

@[simp] theorem adoptVersion_store (i v o : Nat) (h : Bool) (b : Block) : (adoptVersion i v o h b).store = b.store := by
  unfold adoptVersion; dsimp only; repeat' split
  all_goals simp


@[simp] theorem mapCourses_station (f : Course → Course) (b : Block) : (mapCourses f b).station = b.station := by
  simp [mapCourses]

@[simp] theorem mapCourses_share (f : Course → Course) (b : Block) : (mapCourses f b).share = b.share := by
  simp [mapCourses]

@[simp] theorem mapCourses_peers (f : Course → Course) (b : Block) : (mapCourses f b).peers = b.peers := by
  simp [mapCourses]

@[simp] theorem mapCourses_line (f : Course → Course) (b : Block) : (mapCourses f b).line = b.line := by
  simp [mapCourses]

@[simp] theorem mapCourses_drive (f : Course → Course) (b : Block) : (mapCourses f b).drive = b.drive := by
  simp [mapCourses]

@[simp] theorem mapCourses_coord (f : Course → Course) (b : Block) : (mapCourses f b).coord = b.coord := by
  simp [mapCourses]

@[simp] theorem mapCourses_conveyor (f : Course → Course) (b : Block) : (mapCourses f b).conveyor = b.conveyor := by
  simp [mapCourses]

@[simp] theorem mapCourses_pages (f : Course → Course) (b : Block) : (mapCourses f b).pages = b.pages := by
  simp [mapCourses]

@[simp] theorem mapCourses_pager (f : Course → Course) (b : Block) : (mapCourses f b).pager = b.pager := by
  simp [mapCourses]

@[simp] theorem mapCourses_port (f : Course → Course) (b : Block) : (mapCourses f b).port = b.port := by
  simp [mapCourses]

@[simp] theorem mapCourses_store (f : Course → Course) (b : Block) : (mapCourses f b).store = b.store := by
  simp [mapCourses]


/-! ## Conveyor -/

@[simp] theorem computeSpeed_station  (b : Block) : (computeSpeed b).station = b.station := by
  simp [computeSpeed]

@[simp] theorem computeSpeed_share  (b : Block) : (computeSpeed b).share = b.share := by
  simp [computeSpeed]

@[simp] theorem computeSpeed_peers  (b : Block) : (computeSpeed b).peers = b.peers := by
  simp [computeSpeed]

@[simp] theorem computeSpeed_line  (b : Block) : (computeSpeed b).line = b.line := by
  simp [computeSpeed]

@[simp] theorem computeSpeed_drive  (b : Block) : (computeSpeed b).drive = b.drive := by
  simp [computeSpeed]

@[simp] theorem computeSpeed_plan  (b : Block) : (computeSpeed b).plan = b.plan := by
  simp [computeSpeed]

@[simp] theorem computeSpeed_coord  (b : Block) : (computeSpeed b).coord = b.coord := by
  simp [computeSpeed]

@[simp] theorem computeSpeed_pages  (b : Block) : (computeSpeed b).pages = b.pages := by
  simp [computeSpeed]

@[simp] theorem computeSpeed_pager  (b : Block) : (computeSpeed b).pager = b.pager := by
  simp [computeSpeed]

@[simp] theorem computeSpeed_port  (b : Block) : (computeSpeed b).port = b.port := by
  simp [computeSpeed]

@[simp] theorem computeSpeed_store  (b : Block) : (computeSpeed b).store = b.store := by
  simp [computeSpeed]


@[simp] theorem readRinse_station  (b : Block) : (readRinse b).station = b.station := by
  unfold readRinse; dsimp only; split <;> simp

@[simp] theorem readRinse_share  (b : Block) : (readRinse b).share = b.share := by
  unfold readRinse; dsimp only; split <;> simp

@[simp] theorem readRinse_peers  (b : Block) : (readRinse b).peers = b.peers := by
  unfold readRinse; dsimp only; split <;> simp

@[simp] theorem readRinse_line  (b : Block) : (readRinse b).line = b.line := by
  unfold readRinse; dsimp only; split <;> simp

@[simp] theorem readRinse_drive  (b : Block) : (readRinse b).drive = b.drive := by
  unfold readRinse; dsimp only; split <;> simp

@[simp] theorem readRinse_plan  (b : Block) : (readRinse b).plan = b.plan := by
  unfold readRinse; dsimp only; split <;> simp

@[simp] theorem readRinse_coord  (b : Block) : (readRinse b).coord = b.coord := by
  unfold readRinse; dsimp only; split <;> simp

@[simp] theorem readRinse_pages  (b : Block) : (readRinse b).pages = b.pages := by
  unfold readRinse; dsimp only; split <;> simp

@[simp] theorem readRinse_pager  (b : Block) : (readRinse b).pager = b.pager := by
  unfold readRinse; dsimp only; split <;> simp

@[simp] theorem readRinse_port  (b : Block) : (readRinse b).port = b.port := by
  unfold readRinse; dsimp only; split <;> simp

@[simp] theorem readRinse_store  (b : Block) : (readRinse b).store = b.store := by
  unfold readRinse; dsimp only; split <;> simp


@[simp] theorem setDishWants_station  (b : Block) : (setDishWants b).station = b.station := by
  simp [setDishWants]

@[simp] theorem setDishWants_share  (b : Block) : (setDishWants b).share = b.share := by
  simp [setDishWants]

@[simp] theorem setDishWants_peers  (b : Block) : (setDishWants b).peers = b.peers := by
  simp [setDishWants]

@[simp] theorem setDishWants_line  (b : Block) : (setDishWants b).line = b.line := by
  simp [setDishWants]

@[simp] theorem setDishWants_plan  (b : Block) : (setDishWants b).plan = b.plan := by
  simp [setDishWants]

@[simp] theorem setDishWants_coord  (b : Block) : (setDishWants b).coord = b.coord := by
  simp [setDishWants]

@[simp] theorem setDishWants_conveyor  (b : Block) : (setDishWants b).conveyor = b.conveyor := by
  simp [setDishWants]

@[simp] theorem setDishWants_pages  (b : Block) : (setDishWants b).pages = b.pages := by
  simp [setDishWants]

@[simp] theorem setDishWants_pager  (b : Block) : (setDishWants b).pager = b.pager := by
  simp [setDishWants]

@[simp] theorem setDishWants_port  (b : Block) : (setDishWants b).port = b.port := by
  simp [setDishWants]

@[simp] theorem setDishWants_store  (b : Block) : (setDishWants b).store = b.store := by
  simp [setDishWants]


@[simp] theorem closeHold_station  (b : Block) : (closeHold b).station = b.station := by
  unfold closeHold; dsimp only; split <;> simp

@[simp] theorem closeHold_share  (b : Block) : (closeHold b).share = b.share := by
  unfold closeHold; dsimp only; split <;> simp

@[simp] theorem closeHold_peers  (b : Block) : (closeHold b).peers = b.peers := by
  unfold closeHold; dsimp only; split <;> simp

@[simp] theorem closeHold_drive  (b : Block) : (closeHold b).drive = b.drive := by
  unfold closeHold; dsimp only; split <;> simp

@[simp] theorem closeHold_plan  (b : Block) : (closeHold b).plan = b.plan := by
  unfold closeHold; dsimp only; split <;> simp

@[simp] theorem closeHold_coord  (b : Block) : (closeHold b).coord = b.coord := by
  unfold closeHold; dsimp only; split <;> simp

@[simp] theorem closeHold_store  (b : Block) : (closeHold b).store = b.store := by
  unfold closeHold; dsimp only; split <;> simp


@[simp] theorem raiseHold_station (c : Nat) (b : Block) : (raiseHold c b).station = b.station := by
  simp [raiseHold]

@[simp] theorem raiseHold_share (c : Nat) (b : Block) : (raiseHold c b).share = b.share := by
  simp [raiseHold]

@[simp] theorem raiseHold_peers (c : Nat) (b : Block) : (raiseHold c b).peers = b.peers := by
  simp [raiseHold]

@[simp] theorem raiseHold_drive (c : Nat) (b : Block) : (raiseHold c b).drive = b.drive := by
  simp [raiseHold]

@[simp] theorem raiseHold_plan (c : Nat) (b : Block) : (raiseHold c b).plan = b.plan := by
  simp [raiseHold]

@[simp] theorem raiseHold_coord (c : Nat) (b : Block) : (raiseHold c b).coord = b.coord := by
  simp [raiseHold]

@[simp] theorem raiseHold_store (c : Nat) (b : Block) : (raiseHold c b).store = b.store := by
  simp [raiseHold]


@[simp] theorem settleHold_station (x y : ConveyorState) (b : Block) : (settleHold x y b).station = b.station := by
  unfold settleHold; dsimp only; repeat' split
  all_goals simp

@[simp] theorem settleHold_share (x y : ConveyorState) (b : Block) : (settleHold x y b).share = b.share := by
  unfold settleHold; dsimp only; repeat' split
  all_goals simp

@[simp] theorem settleHold_peers (x y : ConveyorState) (b : Block) : (settleHold x y b).peers = b.peers := by
  unfold settleHold; dsimp only; repeat' split
  all_goals simp

@[simp] theorem settleHold_drive (x y : ConveyorState) (b : Block) : (settleHold x y b).drive = b.drive := by
  unfold settleHold; dsimp only; repeat' split
  all_goals simp

@[simp] theorem settleHold_plan (x y : ConveyorState) (b : Block) : (settleHold x y b).plan = b.plan := by
  unfold settleHold; dsimp only; repeat' split
  all_goals simp

@[simp] theorem settleHold_coord (x y : ConveyorState) (b : Block) : (settleHold x y b).coord = b.coord := by
  unfold settleHold; dsimp only; repeat' split
  all_goals simp

@[simp] theorem settleHold_store (x y : ConveyorState) (b : Block) : (settleHold x y b).store = b.store := by
  unfold settleHold; dsimp only; repeat' split
  all_goals simp


@[simp] theorem endAdvance_station (o : AdvanceOutcome) (b : Block) : (endAdvance o b).station = b.station := by
  unfold endAdvance; split <;> simp

@[simp] theorem endAdvance_share (o : AdvanceOutcome) (b : Block) : (endAdvance o b).share = b.share := by
  unfold endAdvance; split <;> simp

@[simp] theorem endAdvance_peers (o : AdvanceOutcome) (b : Block) : (endAdvance o b).peers = b.peers := by
  unfold endAdvance; split <;> simp

@[simp] theorem endAdvance_line (o : AdvanceOutcome) (b : Block) : (endAdvance o b).line = b.line := by
  unfold endAdvance; split <;> simp

@[simp] theorem endAdvance_drive (o : AdvanceOutcome) (b : Block) : (endAdvance o b).drive = b.drive := by
  unfold endAdvance; split <;> simp

@[simp] theorem endAdvance_plan (o : AdvanceOutcome) (b : Block) : (endAdvance o b).plan = b.plan := by
  unfold endAdvance; split <;> simp

@[simp] theorem endAdvance_coord (o : AdvanceOutcome) (b : Block) : (endAdvance o b).coord = b.coord := by
  unfold endAdvance; split <;> simp

@[simp] theorem endAdvance_pages (o : AdvanceOutcome) (b : Block) : (endAdvance o b).pages = b.pages := by
  unfold endAdvance; split <;> simp

@[simp] theorem endAdvance_pager (o : AdvanceOutcome) (b : Block) : (endAdvance o b).pager = b.pager := by
  unfold endAdvance; split <;> simp

@[simp] theorem endAdvance_store (o : AdvanceOutcome) (b : Block) : (endAdvance o b).store = b.store := by
  unfold endAdvance; split <;> simp


@[simp] theorem supersedeAdvance_station (x : ConveyorState) (b : Block) : (supersedeAdvance x b).station = b.station := by
  unfold supersedeAdvance; split <;> simp

@[simp] theorem supersedeAdvance_share (x : ConveyorState) (b : Block) : (supersedeAdvance x b).share = b.share := by
  unfold supersedeAdvance; split <;> simp

@[simp] theorem supersedeAdvance_peers (x : ConveyorState) (b : Block) : (supersedeAdvance x b).peers = b.peers := by
  unfold supersedeAdvance; split <;> simp

@[simp] theorem supersedeAdvance_line (x : ConveyorState) (b : Block) : (supersedeAdvance x b).line = b.line := by
  unfold supersedeAdvance; split <;> simp

@[simp] theorem supersedeAdvance_drive (x : ConveyorState) (b : Block) : (supersedeAdvance x b).drive = b.drive := by
  unfold supersedeAdvance; split <;> simp

@[simp] theorem supersedeAdvance_plan (x : ConveyorState) (b : Block) : (supersedeAdvance x b).plan = b.plan := by
  unfold supersedeAdvance; split <;> simp

@[simp] theorem supersedeAdvance_coord (x : ConveyorState) (b : Block) : (supersedeAdvance x b).coord = b.coord := by
  unfold supersedeAdvance; split <;> simp

@[simp] theorem supersedeAdvance_pages (x : ConveyorState) (b : Block) : (supersedeAdvance x b).pages = b.pages := by
  unfold supersedeAdvance; split <;> simp

@[simp] theorem supersedeAdvance_pager (x : ConveyorState) (b : Block) : (supersedeAdvance x b).pager = b.pager := by
  unfold supersedeAdvance; split <;> simp

@[simp] theorem supersedeAdvance_store (x : ConveyorState) (b : Block) : (supersedeAdvance x b).store = b.store := by
  unfold supersedeAdvance; split <;> simp


@[simp] theorem deriveConveyor_station  (b : Block) : (deriveConveyor b).station = b.station := by
  unfold deriveConveyor; dsimp only; split <;> simp

@[simp] theorem deriveConveyor_share  (b : Block) : (deriveConveyor b).share = b.share := by
  unfold deriveConveyor; dsimp only; split <;> simp

@[simp] theorem deriveConveyor_peers  (b : Block) : (deriveConveyor b).peers = b.peers := by
  unfold deriveConveyor; dsimp only; split <;> simp

@[simp] theorem deriveConveyor_plan  (b : Block) : (deriveConveyor b).plan = b.plan := by
  unfold deriveConveyor; dsimp only; split <;> simp

@[simp] theorem deriveConveyor_coord  (b : Block) : (deriveConveyor b).coord = b.coord := by
  unfold deriveConveyor; dsimp only; split <;> simp

@[simp] theorem deriveConveyor_store  (b : Block) : (deriveConveyor b).store = b.store := by
  unfold deriveConveyor; dsimp only; split <;> simp

/-! ## What the small decisions can be -/

/-- A task's second first makes a task that stands HEATING at a HOLD stage HOLDING, and does nothing else (R87, R107). -/
theorem Task.enterHold_cases (v : TaskView) (k : Task) :
    k.enterHold v = k ∨ (k.state = .heating ∧ k.enterHold v = { k with state := .holding }) := by
  unfold Task.enterHold
  split
  · exact .inr ⟨‹_ ∧ _›.1, rfl⟩
  · exact .inl rfl

/-- Several inputs have status OK exactly when every one has (R134). -/
theorem jointStatus_eq_ok (inputs : List TempInput) : jointStatus inputs = .ok ↔ ∀ t ∈ inputs, t.status = .ok := by
  induction inputs with
  | nil => simp [jointStatus]
  | cons x rest ih =>
    rw [List.forall_mem_cons, ← ih]
    by_cases h : x.status = .ok <;> simp [jointStatus, h]

/-- The remembered top level after a generation is 0 or as it stood (R149). -/
theorem topAfter_cases (r : MemRecord) (g : Nat) : topAfter r g = 0 ∨ topAfter r g = r.topLevel := by
  unfold topAfter
  split
  · exact .inl rfl
  · exact .inr rfl

end Sys2Proof.Machine
end

