-- ==== Sys2Proof/Laws/Held.lean ====
section
/-! SUPPORT. What the port holds for the host (its slot, what was delivered, the command number) stands under every
operation but a transfer's own. -/

namespace Sys2Proof.Machine

/-- What the port holds for the host. -/
def Block.held (b : Block) : Option Response × Option Response × Nat :=
  (b.port.slot, b.port.delivered, b.port.commandNumber)

/-- A fold of steps that keep it keeps it. -/
theorem held_foldl {α : Type} (f : Block → α → Block) (xs : List α) (h : ∀ b x, (f b x).held = b.held) {b : Block} :
    (xs.foldl f b).held = b.held := by
  induction xs generalizing b with
  | nil => rfl
  | cons x rest ih => rw [List.foldl_cons, ih, h]

@[simp] theorem held_onStation (f : Station → Station) (b : Block) : (b.onStation f).held = b.held := rfl
@[simp] theorem held_onShare (f : LoadShare → LoadShare) (b : Block) : (b.onShare f).held = b.held := rfl
@[simp] theorem held_onPeers (f : List Peer → List Peer) (b : Block) : (b.onPeers f).held = b.held := rfl
@[simp] theorem held_onLine (f : Line → Line) (b : Block) : (b.onLine f).held = b.held := rfl
@[simp] theorem held_onDrive (f : Drive → Drive) (b : Block) : (b.onDrive f).held = b.held := rfl
@[simp] theorem held_onPlan (f : Plan → Plan) (b : Block) : (b.onPlan f).held = b.held := rfl
@[simp] theorem held_onCoord (f : Coordinator → Coordinator) (b : Block) : (b.onCoord f).held = b.held := rfl
@[simp] theorem held_onConveyor (f : Conveyor → Conveyor) (b : Block) : (b.onConveyor f).held = b.held := rfl
@[simp] theorem held_onPages (f : Pages → Pages) (b : Block) : (b.onPages f).held = b.held := rfl
@[simp] theorem held_onPager (f : Pager → Pager) (b : Block) : (b.onPager f).held = b.held := rfl
@[simp] theorem held_onStore (f : Store → Store) (b : Block) : (b.onStore f).held = b.held := rfl

/-! ## Ops -/

@[simp] theorem held_countBy (n : CounterName) (k : Nat) (b : Block) : (countBy n k b).held = b.held := rfl

@[simp] theorem held_count (n : CounterName) (b : Block) : (count n b).held = b.held := rfl

@[simp] theorem held_offer (e : EventBody) (b : Block) : (offer e b).held = b.held := by
  unfold offer Block.held; dsimp only [Block.onPort]; split <;> rfl

@[simp] theorem held_markDemand (b : Block) : (markDemand b).held = b.held := by
  unfold markDemand; split <;> rfl

@[simp] theorem held_markCourse (b : Block) : (markCourse b).held = b.held := by
  unfold markCourse; split <;> rfl

@[simp] theorem held_queueShift (e : ShiftEntry) (b : Block) : (queueShift e b).held = b.held := by
  unfold queueShift; try dsimp only
  repeat' split
  all_goals simp

@[simp] theorem held_queuePage (f : PageFrame) (b : Block) : (queuePage f b).2.held = b.held := by
  unfold queuePage; try dsimp only
  repeat' split
  all_goals simp

@[simp] theorem held_setMemory (c : Cause) (r : MemRecord) (b : Block) : (setMemory c r b).held = b.held := rfl

@[simp] theorem held_setPage (i : Nat) (e : Option PageEntry) (b : Block) : (setPage i e b).held = b.held := rfl

@[simp] theorem held_placeSend (c : Cause) (b : Block) : (placeSend c b).held = b.held := by
  unfold placeSend; try dsimp only
  repeat' split
  all_goals simp

@[simp] theorem held_unlist (c : Cause) (b : Block) : (unlist c b).held = b.held := rfl

@[simp] theorem held_decideElection (b : Block) : (decideElection b).held = b.held := by
  unfold decideElection; split
  · split
    · rfl
    · rw [held_foldl _ _ fun b c => by simp]; rfl
  · rfl

@[simp] theorem held_changeState (n : StationState) (r : EntryReason) (b : Block) : (changeState n r b).held = b.held := by
  simp [changeState]

@[simp] theorem held_cutGrant (b : Block) : (cutGrant b).held = b.held := rfl

/-! ## Pages -/

@[simp] theorem held_pageEvent (e : PageEntry) (b : Block) : (pageEvent e b).held = b.held := by
  simp [pageEvent]

@[simp] theorem held_removedEvent (e : PageEntry) (b : Block) : (removedEvent e b).held = b.held := by
  simp [removedEvent]

@[simp] theorem held_learn (c : Cause) (g : Nat) (x : Bool) (b : Block) : (learn c g x b).held = b.held := by
  simp [learn]

@[simp] theorem held_makeEntry (i : Nat) (w : Waiting) (b : Block) : (makeEntry i w b).held = b.held := by
  simp [makeEntry]

@[simp] theorem held_enterRetry (b : Block) : (enterRetry b).held = b.held := by
  unfold enterRetry; try dsimp only
  repeat' split
  all_goals simp

@[simp] theorem held_joinRetry (c : Cause) (p l : Nat) (b : Block) : (joinRetry c p l b).1.held = b.held := by
  unfold joinRetry; try dsimp only
  repeat' split
  all_goals simp

@[simp] theorem held_raiseWith (c : Cause) (p l : Nat) (b : Block) : (raiseWith c p l b).1.held = b.held := by
  unfold raiseWith; try dsimp only
  repeat' split
  all_goals simp

@[simp] theorem held_raise (k : CauseKind) (n : Nat) (b : Block) : (raise k n b).held = b.held := by
  simp [raise]

@[simp] theorem held_removeEntry (i : Nat) (e : PageEntry) (g : Nat) (b : Block) : (removeEntry i e g b).held = b.held := by
  simp [removeEntry]

@[simp] theorem held_offerClear (i : Nat) (e : PageEntry) (b : Block) : (offerClear i e b).held = b.held := by
  unfold offerClear; try dsimp only
  repeat' split
  all_goals simp

@[simp] theorem held_resolve (c : Cause) (b : Block) : (resolve c b).held = b.held := by
  unfold resolve; try dsimp only
  repeat' split
  all_goals simp

@[simp] theorem held_resolved (k : CauseKind) (n : Nat) (b : Block) : (resolved k n b).held = b.held := by
  simp [resolved]

@[simp] theorem held_copyAt (i : Nat) (f : RaiseBody) (b : Block) : (copyAt i f b).held = b.held := by
  simp [copyAt]

@[simp] theorem held_mergeRaise (i : Nat) (e : PageEntry) (f : RaiseBody) (b : Block) : (mergeRaise i e f b).held = b.held := by
  unfold mergeRaise; try dsimp only
  repeat' split
  all_goals simp

@[simp] theorem held_raiseAbsent (f : RaiseBody) (m : MemRecord) (b : Block) : (raiseAbsent f m b).held = b.held := by
  unfold raiseAbsent; try dsimp only
  repeat' split
  all_goals simp

@[simp] theorem held_heardRaise (f : RaiseBody) (b : Block) : (heardRaise f b).held = b.held := by
  unfold heardRaise; try dsimp only
  repeat' split
  all_goals simp

@[simp] theorem held_ackEntry (i : Nat) (e : PageEntry) (b : Block) : (ackEntry i e b).held = b.held := by
  simp [ackEntry]

@[simp] theorem held_clearIfOneShot (c : Cause) (b : Block) : (clearIfOneShot c b).held = b.held := by
  unfold clearIfOneShot; try dsimp only
  repeat' split
  all_goals simp

@[simp] theorem held_heardAck (c : Cause) (g : Nat) (b : Block) : (heardAck c g b).held = b.held := by
  unfold heardAck; try dsimp only
  repeat' split
  all_goals simp

@[simp] theorem held_heardClear (c : Cause) (g : Nat) (b : Block) : (heardClear c g b).held = b.held := by
  unfold heardClear; try dsimp only
  repeat' split
  all_goals simp

@[simp] theorem held_radioAck (c : Option Cause) (g : Nat) (b : Block) : (radioAck c g b).held = b.held := by
  unfold radioAck; try dsimp only
  repeat' split
  all_goals simp

@[simp] theorem held_expireAck (i : Nat) (b : Block) : (expireAck i b).held = b.held := by
  unfold expireAck; try dsimp only
  repeat' split
  all_goals simp

@[simp] theorem held_retryClear (i : Nat) (b : Block) : (retryClear i b).held = b.held := by
  unfold retryClear; try dsimp only
  repeat' split
  all_goals simp

@[simp] theorem held_adoptPage (l : Nat) (c : Cause) (b : Block) : (adoptPage l c b).held = b.held := by
  unfold adoptPage; try dsimp only
  repeat' split
  all_goals simp

@[simp] theorem held_orphanPages (l : Nat) (x : Option Nat) (b : Block) : (orphanPages l x b).held = b.held := by
  unfold orphanPages; split
  · exact held_foldl _ _ fun b c => by simp
  · rfl

@[simp] theorem held_withdraw (r : Received) (b : Block) : (withdraw r b).held = b.held := rfl

/-! ## Courses -/

@[simp] theorem held_setCourse (i : Nat) (c : Option Course) (b : Block) : (setCourse i c b).held = b.held := rfl

@[simp] theorem held_mapCourses (f : Course → Course) (b : Block) : (mapCourses f b).held = b.held := rfl

@[simp] theorem held_storeCourseState (i : Nat) (n : CourseState) (b : Block) : (storeCourseState i n b).held = b.held := by
  unfold storeCourseState; try dsimp only
  repeat' split
  all_goals simp

@[simp] theorem held_storeLateDue (i : Nat) (d : Bool) (b : Block) : (storeLateDue i d b).held = b.held := by
  unfold storeLateDue; try dsimp only
  repeat' split
  all_goals simp

@[simp] theorem held_deriveCourse (i : Nat) (b : Block) : (deriveCourse i b).held = b.held := by
  unfold deriveCourse; try dsimp only
  repeat' split
  all_goals simp

@[simp] theorem held_evalReady (i : Nat) (b : Block) : (evalReady i b).held = b.held := by
  unfold evalReady; try dsimp only
  repeat' split
  all_goals simp

@[simp] theorem held_evalAllReady (b : Block) : (evalAllReady b).held = b.held := by
  exact held_foldl _ _ fun b i => by simp

@[simp] theorem held_courseChange (i : Nat) (b : Block) : (courseChange i b).held = b.held := by
  simp [courseChange]

@[simp] theorem held_courseSecond (i : Nat) (b : Block) : (courseSecond i b).held = b.held := by
  unfold courseSecond; try dsimp only
  repeat' split
  all_goals simp

@[simp] theorem held_coursesSecond (b : Block) : (coursesSecond b).held = b.held := by
  exact held_foldl _ _ fun b i => by simp

@[simp] theorem held_adoptVersion (i v o : Nat) (h : Bool) (b : Block) : (adoptVersion i v o h b).held = b.held := by
  unfold adoptVersion; try dsimp only
  repeat' split
  all_goals simp

@[simp] theorem held_takeCourseItem (s : Nat) (x : CourseItem) (b : Block) : (takeCourseItem s b x).held = b.held := by
  unfold takeCourseItem; try dsimp only
  repeat' split
  all_goals simp

@[simp] theorem held_heardCourse (s : Nat) (xs : List CourseItem) (b : Block) : (heardCourse s xs b).held = b.held := by
  unfold heardCourse; dsimp only
  rw [held_evalAllReady, held_mapCourses, held_foldl _ _ fun b x => by simp]; rfl

@[simp] theorem held_heardShift (x : ShiftBody) (b : Block) : (heardShift x b).held = b.held := by
  unfold heardShift; try dsimp only
  repeat' split
  all_goals simp

@[simp] theorem held_dropFromCourses (l : Nat) (b : Block) : (dropFromCourses l b).held = b.held := rfl

@[simp] theorem held_pruneParticipants (b : Block) : (pruneParticipants b).held = b.held := by
  simp [pruneParticipants]

@[simp] theorem held_toggleParity (b : Block) : (toggleParity b).held = b.held := by
  unfold toggleParity; try dsimp only
  repeat' split
  all_goals simp

@[simp] theorem held_shiftCourse (i : Nat) (c : Course) (o : Nat) (h : Bool) (b : Block) : (shiftCourse i c o h b).held = b.held := by
  simp [shiftCourse]

/-! ## Conveyor -/

@[simp] theorem held_readRinse (b : Block) : (readRinse b).held = b.held := by
  unfold readRinse; dsimp only; split <;> rfl

@[simp] theorem held_computeSpeed (b : Block) : (computeSpeed b).held = b.held := rfl

@[simp] theorem held_setDishWants (b : Block) : (setDishWants b).held = b.held := rfl

@[simp] theorem held_closeHold (b : Block) : (closeHold b).held = b.held := by
  unfold closeHold; try dsimp only
  repeat' split
  all_goals simp

@[simp] theorem held_raiseHold (c : Nat) (b : Block) : (raiseHold c b).held = b.held := by
  simp [raiseHold]

@[simp] theorem held_settleHold (x y : ConveyorState) (b : Block) : (settleHold x y b).held = b.held := by
  unfold settleHold; try dsimp only
  repeat' split
  all_goals simp

@[simp] theorem held_endAdvance (o : AdvanceOutcome) (b : Block) : (endAdvance o b).held = b.held := by
  unfold endAdvance; try dsimp only
  repeat' split
  all_goals simp

@[simp] theorem held_supersedeAdvance (a : ConveyorState) (b : Block) : (supersedeAdvance a b).held = b.held := by
  unfold supersedeAdvance; try dsimp only
  repeat' split
  all_goals simp

@[simp] theorem held_deriveConveyor (b : Block) : (deriveConveyor b).held = b.held := by
  unfold deriveConveyor; try dsimp only
  repeat' split
  all_goals simp

@[simp] theorem held_settleEmpty (b : Block) : (settleEmpty b).held = b.held := by
  unfold settleEmpty; try dsimp only
  repeat' split
  all_goals simp

@[simp] theorem held_countHold (b : Block) : (countHold b).held = b.held := by
  unfold countHold; split <;> rfl

@[simp] theorem held_timeoutHold (b : Block) : (timeoutHold b).held = b.held := by
  unfold timeoutHold; try dsimp only
  repeat' split
  all_goals simp

@[simp] theorem held_countAdvance (b : Block) : (countAdvance b).held = b.held := rfl

@[simp] theorem held_timeoutAdvance (b : Block) : (timeoutAdvance b).held = b.held := by
  unfold timeoutAdvance; try dsimp only
  repeat' split
  all_goals simp

@[simp] theorem held_rinseHealthChanged (r : Role) (b : Block) : (rinseHealthChanged r b).held = b.held := by
  unfold rinseHealthChanged; try dsimp only
  repeat' split
  all_goals simp

@[simp] theorem held_conveyorSecond (b : Block) : (conveyorSecond b).held = b.held := by
  unfold conveyorSecond; try dsimp only
  repeat' split
  all_goals simp

@[simp] theorem held_endJam (b : Block) : (endJam b).held = b.held := by
  unfold endJam; try dsimp only
  repeat' split
  all_goals simp

@[simp] theorem held_pulse (b : Block) : (pulse b).held = b.held := by
  simp [pulse]

@[simp] theorem held_tenth (b : Block) : (tenth b).held = b.held := by
  unfold tenth; try dsimp only
  repeat' split
  all_goals simp

@[simp] theorem held_appendRack (l : LoadKind) (p : Nat) (b : Block) : (appendRack l p b).held = b.held := by
  simp [appendRack]

@[simp] theorem held_rackEnters (b : Block) : (rackEnters b).held = b.held := by
  unfold rackEnters; try dsimp only
  repeat' split
  all_goals simp

@[simp] theorem held_rackLeaves (b : Block) : (rackLeaves b).held = b.held := by
  unfold rackLeaves; try dsimp only
  repeat' split
  all_goals simp

@[simp] theorem held_dropUntracked (b : Block) : (dropUntracked b).held = b.held := by
  unfold dropUntracked; try dsimp only
  repeat' split
  all_goals simp

@[simp] theorem held_removeHead (r : Rack) (rs : List Rack) (b : Block) : (removeHead r rs b).held = b.held := by
  unfold removeHead; try dsimp only
  repeat' split
  all_goals simp

/-! ## Plan -/

@[simp] theorem held_setTask (t : Nat) (k : Option Task) (b : Block) : (setTask t k b).held = b.held := rfl

@[simp] theorem held_releaseWants (m : Mask8) (b : Block) : (releaseWants m b).held = b.held := by
  unfold releaseWants; exact held_foldl _ _ fun b i => held_onDrive _ b

@[simp] theorem held_taskEvent (t : Nat) (x : TaskState) (b : Block) : (taskEvent t x b).held = b.held := by
  unfold taskEvent; try dsimp only
  repeat' split
  all_goals simp

@[simp] theorem held_testPlates (c : Nat) (b : Block) : (testPlates c b).held = b.held := by
  unfold testPlates; try dsimp only
  repeat' split
  all_goals simp

@[simp] theorem held_setProfile (i : Nat) (p : Profile) (b : Block) : (setProfile i p b).held = b.held := rfl

@[simp] theorem held_passTask (c t : Nat) (b : Block) : (passTask c t b).held = b.held := by
  unfold passTask; try dsimp only
  repeat' split
  all_goals simp

@[simp] theorem held_applyEdit (t : Nat) (b : Block) : (applyEdit t b).held = b.held := by
  unfold applyEdit; try dsimp only
  repeat' split
  all_goals simp

@[simp] theorem held_planClear (b : Block) : (planClear b).held = b.held := by
  unfold planClear; dsimp only
  rw [held_markCourse, held_foldl _ _ fun b c => by simp]; rfl

/-! ## Engine -/

@[simp] theorem held_presentWants (v : TaskView) (k : Task) (b : Block) : (presentWants v k b).held = b.held := by
  unfold presentWants; exact held_foldl _ _ fun b i => held_onDrive _ b

@[simp] theorem held_faultTask (t : Nat) (k : Task) (w : TaskFault) (b : Block) : (faultTask t k w b).held = b.held := by
  simp [faultTask]

@[simp] theorem held_plateTest (v : TaskView) (k : Task) (b : Block) : (plateTest v k b).2.held = b.held := by
  unfold plateTest; try dsimp only
  repeat' split
  all_goals simp

@[simp] theorem held_runTask (t : Nat) (k : Task) (d : Direct) (b : Block) : (runTask t k d b).held = b.held := by
  simp [runTask]

@[simp] theorem held_testAndRun (t : Nat) (k : Task) (b : Block) : (testAndRun t k b).held = b.held := by
  unfold testAndRun; try dsimp only
  repeat' split
  all_goals simp

@[simp] theorem held_resolveTask (t : Nat) (k : Task) (b : Block) : (resolveTask t k b).held = b.held := by
  unfold resolveTask; try dsimp only
  repeat' split
  all_goals simp

@[simp] theorem held_taskWork (t : Nat) (b : Block) : (taskWork t b).held = b.held := by
  unfold taskWork; try dsimp only
  repeat' split
  all_goals simp

@[simp] theorem held_noteTask (t : Nat) (x : TaskState) (b : Block) : (noteTask t x b).held = b.held := by
  unfold noteTask; try dsimp only
  repeat' split
  all_goals simp

@[simp] theorem held_taskSecond (t : Nat) (b : Block) : (taskSecond t b).held = b.held := by
  unfold taskSecond; try dsimp only
  repeat' split
  all_goals simp

@[simp] theorem held_handOn (ts : List (Option Task)) (t : Nat) (b : Block) : (handOn ts t b).held = b.held := by
  unfold handOn; try dsimp only
  repeat' split
  all_goals simp

@[simp] theorem held_engineSecond (b : Block) : (engineSecond b).held = b.held := by
  unfold engineSecond; dsimp only
  rw [held_foldl _ _ fun b t => by simp, held_foldl _ _ fun b t => by simp]; rfl

@[simp] theorem held_editApplies (t : Nat) (b : Block) : (editApplies t b).held = b.held := by
  unfold editApplies; try dsimp only
  repeat' split
  all_goals simp

/-! ## Drive -/

@[simp] theorem held_readInput (i : Nat) (x : SensorInput) (b : Block) : (readInput i x b).held = b.held := by
  unfold readInput; try dsimp only
  repeat' split
  all_goals simp

@[simp] theorem held_setChannel (k : Nat) (c : Channel) (b : Block) : (setChannel k c b).held = b.held := rfl

@[simp] theorem held_settleStarved (k : Nat) (b : Block) : (settleStarved k b).held = b.held := by
  unfold settleStarved; try dsimp only
  repeat' split
  all_goals simp

@[simp] theorem held_completeWindow (b : Block) : (completeWindow b).held = b.held := by
  exact (held_foldl _ _ fun b k => by simp).trans rfl

@[simp] theorem held_openWindow (b : Block) : (openWindow b).held = b.held := by
  unfold openWindow; try dsimp only
  repeat' split
  all_goals simp

@[simp] theorem held_windowStart (b : Block) : (windowStart b).held = b.held := by
  unfold windowStart; try dsimp only
  repeat' split
  all_goals simp

@[simp] theorem held_sampleLine (v : Nat) (b : Block) : (sampleLine v b).held = b.held := by
  unfold sampleLine; try dsimp only
  repeat' split
  all_goals simp

@[simp] theorem held_elementFault (k : Nat) (h : Health) (r : Nat) (b : Block) : (elementFault k h r b).held = b.held := by
  simp [elementFault]

@[simp] theorem held_completeCheck (k a : Nat) (b : Block) : (completeCheck k a b).held = b.held := by
  unfold completeCheck; try dsimp only
  repeat' split
  all_goals simp

@[simp] theorem held_checkChannel (t : Nat) (a : List Nat) (k : Nat) (b : Block) : (checkChannel t a k b).held = b.held := by
  unfold checkChannel; try dsimp only
  repeat' split
  all_goals simp

@[simp] theorem held_tick (v : Nat) (a : List Nat) (b : Block) : (tick v a b).held = b.held := by
  unfold tick; dsimp only; split
  · rw [held_foldl _ _ fun b k => by simp]; simp
  · rfl

@[simp] theorem held_readInputs (i : Nat) (xs : List SensorInput) (b : Block) : (readInputs i xs b).held = b.held := by
  induction xs generalizing i b with
  | nil => rfl
  | cons x rest ih => simp [readInputs, ih]

/-! ## Load -/

@[simp] theorem held_formInputs (b : Block) : (formInputs b).held = b.held := rfl

@[simp] theorem held_divideFeeder (b : Block) : (divideFeeder b).held = b.held := rfl

@[simp] theorem held_applyGrant (b : Block) : (applyGrant b).held = b.held := by
  unfold applyGrant; try dsimp only
  repeat' split
  all_goals simp

@[simp] theorem held_bookOvercommit (b : Block) : (bookOvercommit b).held = b.held := by
  unfold bookOvercommit; try dsimp only
  repeat' split
  all_goals simp

/-! ## Line -/

@[simp] theorem held_setPosition (p : Position) (b : Block) : (setPosition p b).held = b.held := rfl

@[simp] theorem held_beginCycle (b : Block) : (beginCycle b).held = b.held := by
  unfold beginCycle; try dsimp only
  repeat' split
  all_goals simp

@[simp] theorem held_slotStart (r : Bool) (b : Block) : (slotStart r b).held = b.held := by
  unfold slotStart; try dsimp only
  repeat' split
  all_goals simp

@[simp] theorem held_activitySeen (b : Block) : (activitySeen b).held = b.held := by
  unfold activitySeen; try dsimp only
  repeat' split
  all_goals simp

@[simp] theorem held_complete (b : Block) : (complete b).held = b.held := by
  unfold complete; try dsimp only
  repeat' split
  all_goals simp

@[simp] theorem held_collide (b : Block) : (collide b).held = b.held := by
  unfold collide; try dsimp only
  repeat' split
  all_goals simp

@[simp] theorem held_corrupt (b : Block) : (corrupt b).held = b.held := by
  unfold corrupt; try dsimp only
  repeat' split
  all_goals simp

@[simp] theorem held_enterLocal (b : Block) : (enterLocal b).held = b.held := by
  simp [enterLocal]

@[simp] theorem held_duplicate (b : Block) : (duplicate b).held = b.held := by
  unfold duplicate; try dsimp only
  repeat' split
  all_goals simp

@[simp] theorem held_judgeSignature (i : Nat) (g : Word16) (b : Block) : (judgeSignature i g b).held = b.held := by
  unfold judgeSignature; try dsimp only
  repeat' split
  all_goals simp

@[simp] theorem held_heardDemand (i s : Nat) (d : Demand) (b : Block) : (heardDemand i s d b).held = b.held := by
  unfold heardDemand; try dsimp only
  repeat' split
  all_goals simp

@[simp] theorem held_handle (x s : Nat) (r : Received) (b : Block) : (handle x s r b).held = b.held := by
  unfold handle; try dsimp only
  repeat' split
  all_goals simp

@[simp] theorem held_acceptFrame (x s : Nat) (f : Option FrameForm) (bs : List Byte) (b : Block) : (acceptFrame x s f bs b).held = b.held := by
  unfold acceptFrame; try dsimp only
  repeat' split
  all_goals simp

@[simp] theorem held_receive (x s : Byte) (f : Option FrameForm) (bs : List Byte) (b : Block) : (receive x s f bs b).held = b.held := by
  unfold receive; try dsimp only
  repeat' split
  all_goals simp

/-! ## Control -/

@[simp] theorem held_halt (r : EntryReason) (b : Block) : (halt r b).held = b.held := rfl

@[simp] theorem held_takeSettings (x : Settings) (g : Word16) (b : Block) : (takeSettings x g b).held = b.held := rfl

@[simp] theorem held_readImage (b : Block) : (readImage b).held = b.held := rfl

@[simp] theorem held_checkSettings (b : Block) : (checkSettings b).held = b.held := by
  unfold checkSettings; try dsimp only
  repeat' split
  all_goals simp

@[simp] theorem held_enterListen (xs : List SensorInput) (b : Block) : (enterListen xs b).held = b.held := by
  simp [enterListen]

@[simp] theorem held_loopbackDone (p : Bool) (xs : List SensorInput) (b : Block) : (loopbackDone p xs b).held = b.held := by
  unfold loopbackDone; try dsimp only
  repeat' split
  all_goals simp

@[simp] theorem held_holdReset (b : Block) : (holdReset b).held = b.held := rfl

@[simp] theorem held_losePeer (i : Nat) (b : Block) : (losePeer b i).held = b.held := by
  simp [losePeer]

@[simp] theorem held_agePeers (b : Block) : (agePeers b).held = b.held := by
  unfold agePeers; dsimp only
  rw [held_foldl _ _ fun b i => by simp]; rfl

@[simp] theorem held_enterActive (r : EntryReason) (b : Block) : (enterActive r b).held = b.held := by
  simp [enterActive]

@[simp] theorem held_enterIsolated (r : EntryReason) (b : Block) : (enterIsolated r b).held = b.held := by
  simp [enterIsolated]

@[simp] theorem held_controlRound (b : Block) : (controlRound b).held = b.held := by
  unfold controlRound; try dsimp only
  repeat' split
  all_goals simp

@[simp] theorem held_shareRound (b : Block) : (shareRound b).held = b.held := by
  simp [shareRound]

@[simp] theorem held_handOnDemand (b : Block) : (handOnDemand b).held = b.held := by
  unfold handOnDemand; try dsimp only
  repeat' split
  all_goals simp

@[simp] theorem held_runRound (b : Block) : (runRound b).held = b.held := by
  unfold runRound; try dsimp only
  repeat' split
  all_goals simp

@[simp] theorem held_settleSecond (b : Block) : (settleSecond b).held = b.held := by
  unfold settleSecond; dsimp only; split
  all_goals try simp only [held_timeoutAdvance, held_timeoutHold]
  all_goals rw [held_foldl _ _ fun b i => held_retryClear i b, held_foldl _ _ fun b i => held_expireAck i b]

@[simp] theorem held_tickClock (b : Block) : (tickClock b).held = b.held := rfl

@[simp] theorem held_runSecond (xs : List SensorInput) (b : Block) : (runSecond xs b).held = b.held := by
  unfold runSecond; try dsimp only
  repeat' split
  all_goals simp

@[simp] theorem held_setRadio (r : Radio) (b : Block) : (setRadio r b).held = b.held := by
  unfold setRadio; try dsimp only
  repeat' split
  all_goals simp

@[simp] theorem held_radioStatus (r : Radio) (b : Block) : (radioStatus r b).held = b.held := by
  unfold radioStatus; try dsimp only
  repeat' split
  all_goals simp

@[simp] theorem held_sendHead (b : Block) : (sendHead b).held = b.held := by
  unfold sendHead; try dsimp only
  repeat' split
  all_goals simp

@[simp] theorem held_taken (c : Option Cause) (g : Nat) (b : Block) : (taken c g b).held = b.held := by
  unfold taken; try dsimp only
  repeat' split
  all_goals simp

@[simp] theorem held_sendExpired (b : Block) : (sendExpired b).held = b.held := by
  unfold sendExpired; try dsimp only
  repeat' split
  all_goals simp

@[simp] theorem held_radioAcks (c : Option Cause) (g : Nat) (b : Block) : (radioAcks c g b).held = b.held := by
  unfold radioAcks; try dsimp only
  repeat' split
  all_goals simp

end Sys2Proof.Machine
end

