-- ==== Sys2Proof/Laws/Spec.lean ====
section
/-! SUPPORT. What each shared operation can do, said once: the event queue, the PAGE queue, the generation memory's
read and write, the cut of the grant. -/

namespace Sys2Proof.Machine

/-! ## Outcomes of the shared operations -/

/-- An offered event joins the tail, or finds the queue full and sets overflow; either way the number advances. -/
theorem offer_cases (e : EventBody) (b : Block) :
    (b.port.events.length < Config.eventPlaces ∧
      (offer e b).port = { b.port with
        events := b.port.events ++ [{ number := b.port.eventNumber, second := b.now, body := e }],
        eventNumber := next8 b.port.eventNumber }) ∨
    (Config.eventPlaces ≤ b.port.events.length ∧
      (offer e b).port = { b.port with overflow := true, eventNumber := next8 b.port.eventNumber }) := by
  by_cases h : b.port.events.length < Config.eventPlaces
  · exact .inl ⟨h, by simp [offer, h]⟩
  · exact .inr ⟨by omega, by simp [offer, h]⟩

/-- A PAGE frame joins the tail, is refused by the full queue with two counts, or is not taken by the station state. -/
theorem queuePage_cases (f : PageFrame) (b : Block) :
    (b.lineTakes = true ∧ b.line.pageQueue.length < Config.pagePlaces ∧
      queuePage f b = (true, b.onLine fun l => { l with pageQueue := l.pageQueue ++ [f] })) ∨
    (b.lineTakes = true ∧ Config.pagePlaces ≤ b.line.pageQueue.length ∧
      queuePage f b = (false, count .pagesLost (count .framesDropped b))) ∨
    (b.lineTakes = false ∧ queuePage f b = (true, b)) := by
  by_cases h : b.lineTakes = true
  · by_cases g : b.line.pageQueue.length < Config.pagePlaces
    · exact .inl ⟨h, g, by simp [queuePage, h, g]⟩
    · exact .inr (.inl ⟨h, by omega, by simp [queuePage, h, g]⟩)
  · exact .inr (.inr ⟨by simpa using h, by simp [queuePage, h]⟩)

/-- The election changes the pager's record alone: electable, it is elected; otherwise list and SEND are gone. -/
theorem decideElection_cases (b : Block) :
    (electable b = false ∧
      decideElection b = b.onPager fun g => { g with elected := false, sendList := [], outstanding := none }) ∨
    (electable b = true ∧ b.pager.elected = true ∧ decideElection b = b) ∨
    (electable b = true ∧ b.pager.elected = false ∧
      decideElection b = (heldCauses b).foldl (fun acc c => placeSend c acc)
        (b.onPager fun g => { g with elected := true })) := by
  by_cases h : electable b = true
  · by_cases e : b.pager.elected = true
    · exact .inr (.inl ⟨h, e, by simp [decideElection, h, e]⟩)
    · exact .inr (.inr ⟨h, by simpa using e, by simp [decideElection, h, e]⟩)
  · exact .inl ⟨by simpa using h, by simp [decideElection, h]⟩

@[simp] theorem changeState_state (n : StationState) (r : EntryReason) (b : Block) :
    (changeState n r b).station = { b.station with state := n, reason := r } := by
  simp [changeState]

@[simp] theorem cutGrant_applied (b : Block) :
    (cutGrant b).share.applied = min b.share.applied b.cfg.safeAllowance := by
  simp [cutGrant]

/-- A counter never passes 65,535 by an advance. -/
theorem satTo_le (cap n : Nat) : satTo cap n ≤ cap := by simp [satTo]

/-! ## The generation memory -/

/-- Every key of a canonical memory lies above a bound. -/
def keysAbove (bound : Nat) : List (Nat × MemRecord) → Prop
  | [] => True
  | (k, _) :: _ => bound < k

theorem memoryWf_cons (k : Nat) (r : MemRecord) (rest : List (Nat × MemRecord)) :
    memoryWf ((k, r) :: rest) = true ↔ r ≠ {} ∧ keysAbove k rest ∧ memoryWf rest = true := by
  cases rest with
  | nil => simp [memoryWf, keysAbove]
  | cons x rest => obtain ⟨k', r'⟩ := x; simp [memoryWf, keysAbove]; tauto

/-- Below its first key a canonical memory lists nothing. -/
theorem memoryRead_below (m : List (Nat × MemRecord)) (bound key : Nat) (hw : memoryWf m = true)
    (ha : keysAbove bound m) (hk : key ≤ bound) : memoryRead m key = {} := by
  induction m generalizing bound with
  | nil => rfl
  | cons x rest ih =>
    obtain ⟨k, r⟩ := x
    have hb := ha
    rw [memoryWf_cons] at hw
    simp only [keysAbove] at hb
    simp only [memoryRead]
    rw [if_neg (by omega)]
    exact ih k hw.2.2 hw.2.1 (by omega)

theorem keysAbove_write (m : List (Nat × MemRecord)) (bound key : Nat) (r : MemRecord) (hw : memoryWf m = true)
    (ha : keysAbove bound m) (hk : bound < key) : keysAbove bound (memoryWrite m key r) := by
  cases m with
  | nil => simp only [memoryWrite]; split <;> simp [keysAbove, hk]
  | cons x rest =>
    obtain ⟨k, y⟩ := x
    rw [memoryWf_cons] at hw
    simp only [keysAbove] at ha
    simp only [memoryWrite]
    split
    · split <;> simp [keysAbove, ha, hk]
    · split
      · split
        · cases rest with
          | nil => trivial
          | cons z rest => obtain ⟨k', _⟩ := z; have := hw.2.1; simp only [keysAbove] at this ⊢; omega
        · simp [keysAbove, hk]
      · simpa [keysAbove] using ha

/-- A write keeps the canonical form. -/
theorem memoryWrite_wf (m : List (Nat × MemRecord)) (key : Nat) (r : MemRecord) (hw : memoryWf m = true) :
    memoryWf (memoryWrite m key r) = true := by
  induction m with
  | nil => simp only [memoryWrite]; split <;> simp_all [memoryWf]
  | cons x rest ih =>
    obtain ⟨k, y⟩ := x
    have hw' := (memoryWf_cons k y rest).1 hw
    simp only [memoryWrite]
    split
    · split
      · exact hw
      · rename_i hlt hr
        rw [memoryWf_cons]
        exact ⟨hr, by simpa [keysAbove] using hlt, hw⟩
    · split
      · split
        · exact hw'.2.2
        · rename_i he hr
          subst he
          rw [memoryWf_cons]
          exact ⟨hr, hw'.2.1, hw'.2.2⟩
      · rw [memoryWf_cons]
        exact ⟨hw'.1, keysAbove_write rest k key r hw'.2.2 hw'.2.1 (by omega), ih hw'.2.2⟩

/-- A read after a write to the same key gives what was written. -/
theorem memoryRead_write_same (m : List (Nat × MemRecord)) (key : Nat) (r : MemRecord) (hw : memoryWf m = true) :
    memoryRead (memoryWrite m key r) key = r := by
  induction m with
  | nil => simp only [memoryWrite]; split <;> simp_all [memoryRead]
  | cons x rest ih =>
    obtain ⟨k, y⟩ := x
    have hw' := (memoryWf_cons k y rest).1 hw
    simp only [memoryWrite]
    split
    · rename_i hlt
      split
      · rename_i hr
        rw [hr]
        exact memoryRead_below _ (k - 1) key hw (by simp only [keysAbove]; omega) (by omega)
      · simp [memoryRead]
    · split
      · rename_i he
        split
        · rename_i hr
          rw [hr]
          exact memoryRead_below rest k key hw'.2.2 hw'.2.1 (by omega)
        · simp [memoryRead]
      · simp only [memoryRead]
        rw [if_neg (by omega)]
        exact ih hw'.2.2

/-- A write leaves every other key alone. -/
theorem memoryRead_write_other (m : List (Nat × MemRecord)) (key other : Nat) (r : MemRecord) (h : other ≠ key) :
    memoryRead (memoryWrite m key r) other = memoryRead m other := by
  induction m with
  | nil => simp only [memoryWrite]; split <;> simp [memoryRead, Ne.symm h]
  | cons x rest ih =>
    obtain ⟨k, y⟩ := x
    simp only [memoryWrite]
    split
    · split
      · rfl
      · simp [memoryRead, Ne.symm h]
    · split
      · rename_i he
        split
        · simp [memoryRead, ← he, Ne.symm h]
        · simp [memoryRead, ← he, Ne.symm h]
      · simp only [memoryRead]; split
        · rfl
        · exact ih

/-- The write of one cause's record keeps the canonical form of the generation memory. -/
theorem setMemory_wf (c : Cause) (r : MemRecord) (b : Block) (h : memoryWf b.pages.memory = true) :
    memoryWf (setMemory c r b).pages.memory = true := by
  simp only [setMemory, Block.onPages_pages]
  exact memoryWrite_wf _ _ _ h

end Sys2Proof.Machine
end

