-- ==== Sys2Proof/Laws/Port.lean ====
section
/-! SUPPORT. What a transfer of the appliance port can do, and the frame of a command record by record. -/

namespace Sys2Proof.Machine

/-! ## Completion and frames -/

/-- A command whose meaning acts on the block alone completes with whatever that act establishes. -/
theorem completes_of {c : Instr} {s : State} {P : Block → Prop} (f : Block → Block) (h : exec c s = onBlock f s)
    (hp : P (f s.block)) : completes c s P := ⟨_, h, rfl, hp⟩

/-- A frame, record by record. -/
theorem changesOnly_iff (ps : List Part) (b b' : Block) : changesOnly ps b b' ↔
    (.station ∉ ps → b'.station = b.station) ∧ (.share ∉ ps → b'.share = b.share) ∧ (.peers ∉ ps → b'.peers = b.peers) ∧
    (.line ∉ ps → b'.line = b.line) ∧ (.drive ∉ ps → b'.drive = b.drive) ∧ (.plan ∉ ps → b'.plan = b.plan) ∧
    (.coord ∉ ps → b'.coord = b.coord) ∧ (.conveyor ∉ ps → b'.conveyor = b.conveyor) ∧
    (.pages ∉ ps → b'.pages = b.pages) ∧ (.pager ∉ ps → b'.pager = b.pager) ∧ (.port ∉ ps → b'.port = b.port) ∧
    (.store ∉ ps → b'.store = b.store) := by
  constructor
  · intro h
    exact ⟨h .station, h .share, h .peers, h .line, h .drive, h .plan, h .coord, h .conveyor, h .pages, h .pager, h .port,
      h .store⟩
  · rintro ⟨a, b, c, d, e, f, g, h, i, j, k, l⟩ p hp
    cases p <;> simp_all [Part.same]

/-! ## Transfers (R168, R169) -/

@[simp] theorem deliver_station (b : Block) : (deliver b).station = b.station := rfl
@[simp] theorem deliver_share (b : Block) : (deliver b).share = b.share := rfl
@[simp] theorem deliver_peers (b : Block) : (deliver b).peers = b.peers := rfl
@[simp] theorem deliver_line (b : Block) : (deliver b).line = b.line := rfl
@[simp] theorem deliver_drive (b : Block) : (deliver b).drive = b.drive := rfl
@[simp] theorem deliver_plan (b : Block) : (deliver b).plan = b.plan := rfl
@[simp] theorem deliver_coord (b : Block) : (deliver b).coord = b.coord := rfl
@[simp] theorem deliver_conveyor (b : Block) : (deliver b).conveyor = b.conveyor := rfl
@[simp] theorem deliver_pages (b : Block) : (deliver b).pages = b.pages := rfl
@[simp] theorem deliver_pager (b : Block) : (deliver b).pager = b.pager := rfl
@[simp] theorem deliver_store (b : Block) : (deliver b).store = b.store := rfl
@[simp] theorem deliver_port (b : Block) :
    (deliver b).port = { b.port with delivered := b.port.slot, slot := none } := rfl
@[simp] theorem deliver_cfg (b : Block) : (deliver b).cfg = b.cfg := rfl

/-- A command that passes the gates and that its owner accepts: the owner's block, with the answer in the slot. -/
theorem transfer_accepted {code : Nat} {gate : StateGate} {dishOnly : Bool} {own : Block → Answer} {b after : Block}
    {data : List Byte} (hp : b.portAnswers = true) (hg : gate.passes b.station.state = true)
    (hd : dishOnly = true → b.cfg.kind = .dish) (ho : own (deliver b) = .ok (after, data)) :
    transfer code false gate dishOnly own b =
      answer { code := code, number := b.port.commandNumber, refused := none, data := data } (numbered8 after) := by
  cases dishOnly <;> simp_all [transfer, gates, conclude]

/-- A command that its owner refuses: the answer in the slot and the next number, nothing else. -/
theorem transfer_refused {code : Nat} {gate : StateGate} {dishOnly : Bool} {own : Block → Answer} {b : Block} {r : Reason}
    (hp : b.portAnswers = true) (hg : gate.passes b.station.state = true)
    (hd : dishOnly = true → b.cfg.kind = .dish) (ho : own (deliver b) = .error r) :
    transfer code false gate dishOnly own b =
      answer { code := code, number := b.port.commandNumber, refused := some r, data := [] }
        (numbered8 (deliver b)) := by
  cases dishOnly <;> simp_all [transfer, gates, conclude]

/-- What an accepted answer leaves of the owner's block: all but the slot and the command number. -/
theorem answeredWith_of {code : Nat} {data : List Byte} {b after : Block}
    (hd : after.port.delivered = b.port.slot) (hn : after.port.commandNumber = b.port.commandNumber) :
    answeredWith code none data b
      (answer { code := code, number := b.port.commandNumber, refused := none, data := data } (numbered8 after)) := by
  simp [answeredWith, answer, numbered8, hd, hn]

/-- Checks that all pass accept. -/
theorem checked_passes {fails : List (Bool × Reason)} {a : Answer} (h : ∀ f ∈ fails, f.1 = false) :
    checked fails a = a := by
  have : fails.find? (fun f => f.1) = none := by
    rw [List.find?_eq_none]; intro x hx; simp [h x hx]
  simp [checked, this]

end Sys2Proof.Machine
end

