-- ==== Sys2Proof/Laws/Rounds.lean ====
section
/-! SUPPORT. The records that the steps of a round leave as they stand, and what a round leaves of the rest. -/

namespace Sys2Proof.Machine

/-- A fold of steps that keep a view of the block keeps it. -/
theorem foldl_keeps {α β : Type} (v : Block → β) (f : Block → α → Block) (xs : List α) (h : ∀ b x, v (f b x) = v b)
    {b : Block} : v (xs.foldl f b) = v b := by
  induction xs generalizing b with
  | nil => rfl
  | cons x rest ih => rw [List.foldl_cons, ih, h]

@[simp] theorem adoptPage_station (l : Nat) (c : Cause) (b : Block) : (adoptPage l c b).station = b.station := by
  unfold adoptPage; try dsimp only
  repeat' split
  all_goals simp

@[simp] theorem adoptPage_share (l : Nat) (c : Cause) (b : Block) : (adoptPage l c b).share = b.share := by
  unfold adoptPage; try dsimp only
  repeat' split
  all_goals simp

@[simp] theorem adoptPage_peers (l : Nat) (c : Cause) (b : Block) : (adoptPage l c b).peers = b.peers := by
  unfold adoptPage; try dsimp only
  repeat' split
  all_goals simp

@[simp] theorem adoptPage_drive (l : Nat) (c : Cause) (b : Block) : (adoptPage l c b).drive = b.drive := by
  unfold adoptPage; try dsimp only
  repeat' split
  all_goals simp

@[simp] theorem adoptPage_plan (l : Nat) (c : Cause) (b : Block) : (adoptPage l c b).plan = b.plan := by
  unfold adoptPage; try dsimp only
  repeat' split
  all_goals simp

@[simp] theorem adoptPage_coord (l : Nat) (c : Cause) (b : Block) : (adoptPage l c b).coord = b.coord := by
  unfold adoptPage; try dsimp only
  repeat' split
  all_goals simp

@[simp] theorem adoptPage_conveyor (l : Nat) (c : Cause) (b : Block) : (adoptPage l c b).conveyor = b.conveyor := by
  unfold adoptPage; try dsimp only
  repeat' split
  all_goals simp

@[simp] theorem adoptPage_store (l : Nat) (c : Cause) (b : Block) : (adoptPage l c b).store = b.store := by
  unfold adoptPage; try dsimp only
  repeat' split
  all_goals simp

@[simp] theorem orphanPages_station (l : Nat) (x : Option Nat) (b : Block) : (orphanPages l x b).station = b.station := by
  unfold orphanPages; split
  · exact foldl_keeps Block.station _ _ fun b c => by simp
  · rfl

@[simp] theorem orphanPages_share (l : Nat) (x : Option Nat) (b : Block) : (orphanPages l x b).share = b.share := by
  unfold orphanPages; split
  · exact foldl_keeps Block.share _ _ fun b c => by simp
  · rfl

@[simp] theorem orphanPages_peers (l : Nat) (x : Option Nat) (b : Block) : (orphanPages l x b).peers = b.peers := by
  unfold orphanPages; split
  · exact foldl_keeps Block.peers _ _ fun b c => by simp
  · rfl

@[simp] theorem orphanPages_drive (l : Nat) (x : Option Nat) (b : Block) : (orphanPages l x b).drive = b.drive := by
  unfold orphanPages; split
  · exact foldl_keeps Block.drive _ _ fun b c => by simp
  · rfl

@[simp] theorem orphanPages_plan (l : Nat) (x : Option Nat) (b : Block) : (orphanPages l x b).plan = b.plan := by
  unfold orphanPages; split
  · exact foldl_keeps Block.plan _ _ fun b c => by simp
  · rfl

@[simp] theorem orphanPages_coord (l : Nat) (x : Option Nat) (b : Block) : (orphanPages l x b).coord = b.coord := by
  unfold orphanPages; split
  · exact foldl_keeps Block.coord _ _ fun b c => by simp
  · rfl

@[simp] theorem orphanPages_conveyor (l : Nat) (x : Option Nat) (b : Block) : (orphanPages l x b).conveyor = b.conveyor := by
  unfold orphanPages; split
  · exact foldl_keeps Block.conveyor _ _ fun b c => by simp
  · rfl

@[simp] theorem orphanPages_store (l : Nat) (x : Option Nat) (b : Block) : (orphanPages l x b).store = b.store := by
  unfold orphanPages; split
  · exact foldl_keeps Block.store _ _ fun b c => by simp
  · rfl

@[simp] theorem dropFromCourses_station (l : Nat) (b : Block) : (dropFromCourses l b).station = b.station := by
  simp [dropFromCourses]

@[simp] theorem dropFromCourses_share (l : Nat) (b : Block) : (dropFromCourses l b).share = b.share := by
  simp [dropFromCourses]

@[simp] theorem dropFromCourses_peers (l : Nat) (b : Block) : (dropFromCourses l b).peers = b.peers := by
  simp [dropFromCourses]

@[simp] theorem dropFromCourses_line (l : Nat) (b : Block) : (dropFromCourses l b).line = b.line := by
  simp [dropFromCourses]

@[simp] theorem dropFromCourses_drive (l : Nat) (b : Block) : (dropFromCourses l b).drive = b.drive := by
  simp [dropFromCourses]

@[simp] theorem dropFromCourses_coord (l : Nat) (b : Block) : (dropFromCourses l b).coord = b.coord := by
  simp [dropFromCourses]

@[simp] theorem dropFromCourses_conveyor (l : Nat) (b : Block) : (dropFromCourses l b).conveyor = b.conveyor := by
  simp [dropFromCourses]

@[simp] theorem dropFromCourses_pages (l : Nat) (b : Block) : (dropFromCourses l b).pages = b.pages := by
  simp [dropFromCourses]

@[simp] theorem dropFromCourses_pager (l : Nat) (b : Block) : (dropFromCourses l b).pager = b.pager := by
  simp [dropFromCourses]

@[simp] theorem dropFromCourses_port (l : Nat) (b : Block) : (dropFromCourses l b).port = b.port := by
  simp [dropFromCourses]

@[simp] theorem dropFromCourses_store (l : Nat) (b : Block) : (dropFromCourses l b).store = b.store := by
  simp [dropFromCourses]

@[simp] theorem losePeer_station (i : Nat) (b : Block) : (losePeer b i).station = b.station := by
  simp [losePeer]

@[simp] theorem losePeer_share (i : Nat) (b : Block) : (losePeer b i).share = b.share := by
  simp [losePeer]

@[simp] theorem losePeer_peers (i : Nat) (b : Block) : (losePeer b i).peers = b.peers := by
  simp [losePeer]

@[simp] theorem losePeer_drive (i : Nat) (b : Block) : (losePeer b i).drive = b.drive := by
  simp [losePeer]

@[simp] theorem losePeer_coord (i : Nat) (b : Block) : (losePeer b i).coord = b.coord := by
  simp [losePeer]

@[simp] theorem losePeer_conveyor (i : Nat) (b : Block) : (losePeer b i).conveyor = b.conveyor := by
  simp [losePeer]

@[simp] theorem losePeer_store (i : Nat) (b : Block) : (losePeer b i).store = b.store := by
  simp [losePeer]

@[simp] theorem agePeers_station (b : Block) : (agePeers b).station = b.station := by
  unfold agePeers; dsimp only
  rw [foldl_keeps Block.station _ _ fun b i => by simp]; simp

@[simp] theorem agePeers_share (b : Block) : (agePeers b).share = b.share := by
  unfold agePeers; dsimp only
  rw [foldl_keeps Block.share _ _ fun b i => by simp]; simp

@[simp] theorem agePeers_drive (b : Block) : (agePeers b).drive = b.drive := by
  unfold agePeers; dsimp only
  rw [foldl_keeps Block.drive _ _ fun b i => by simp]; simp

@[simp] theorem agePeers_coord (b : Block) : (agePeers b).coord = b.coord := by
  unfold agePeers; dsimp only
  rw [foldl_keeps Block.coord _ _ fun b i => by simp]; simp

@[simp] theorem agePeers_conveyor (b : Block) : (agePeers b).conveyor = b.conveyor := by
  unfold agePeers; dsimp only
  rw [foldl_keeps Block.conveyor _ _ fun b i => by simp]; simp

@[simp] theorem agePeers_store (b : Block) : (agePeers b).store = b.store := by
  unfold agePeers; dsimp only
  rw [foldl_keeps Block.store _ _ fun b i => by simp]; simp

@[simp] theorem enterActive_share (r : EntryReason) (b : Block) : (enterActive r b).share = b.share := by
  simp [enterActive]

@[simp] theorem enterActive_peers (r : EntryReason) (b : Block) : (enterActive r b).peers = b.peers := by
  simp [enterActive]

@[simp] theorem enterActive_line (r : EntryReason) (b : Block) : (enterActive r b).line = b.line := by
  simp [enterActive]

@[simp] theorem enterActive_drive (r : EntryReason) (b : Block) : (enterActive r b).drive = b.drive := by
  simp [enterActive]

@[simp] theorem enterActive_plan (r : EntryReason) (b : Block) : (enterActive r b).plan = b.plan := by
  simp [enterActive]

@[simp] theorem enterActive_coord (r : EntryReason) (b : Block) : (enterActive r b).coord = b.coord := by
  simp [enterActive]

@[simp] theorem enterActive_conveyor (r : EntryReason) (b : Block) : (enterActive r b).conveyor = b.conveyor := by
  simp [enterActive]

@[simp] theorem enterActive_pages (r : EntryReason) (b : Block) : (enterActive r b).pages = b.pages := by
  simp [enterActive]

@[simp] theorem enterActive_store (r : EntryReason) (b : Block) : (enterActive r b).store = b.store := by
  simp [enterActive]

@[simp] theorem enterIsolated_peers (r : EntryReason) (b : Block) : (enterIsolated r b).peers = b.peers := by
  simp [enterIsolated]

@[simp] theorem enterIsolated_line (r : EntryReason) (b : Block) : (enterIsolated r b).line = b.line := by
  simp [enterIsolated]

@[simp] theorem enterIsolated_drive (r : EntryReason) (b : Block) : (enterIsolated r b).drive = b.drive := by
  simp [enterIsolated]

@[simp] theorem enterIsolated_plan (r : EntryReason) (b : Block) : (enterIsolated r b).plan = b.plan := by
  simp [enterIsolated]

@[simp] theorem enterIsolated_coord (r : EntryReason) (b : Block) : (enterIsolated r b).coord = b.coord := by
  simp [enterIsolated]

@[simp] theorem enterIsolated_conveyor (r : EntryReason) (b : Block) : (enterIsolated r b).conveyor = b.conveyor := by
  simp [enterIsolated]

@[simp] theorem enterIsolated_pages (r : EntryReason) (b : Block) : (enterIsolated r b).pages = b.pages := by
  simp [enterIsolated]

@[simp] theorem enterIsolated_store (r : EntryReason) (b : Block) : (enterIsolated r b).store = b.store := by
  simp [enterIsolated]

@[simp] theorem controlRound_peers (b : Block) : (controlRound b).peers = b.peers := by
  unfold controlRound; try dsimp only
  repeat' split
  all_goals simp

@[simp] theorem controlRound_line (b : Block) : (controlRound b).line = b.line := by
  unfold controlRound; try dsimp only
  repeat' split
  all_goals simp

@[simp] theorem controlRound_drive (b : Block) : (controlRound b).drive = b.drive := by
  unfold controlRound; try dsimp only
  repeat' split
  all_goals simp

@[simp] theorem controlRound_plan (b : Block) : (controlRound b).plan = b.plan := by
  unfold controlRound; try dsimp only
  repeat' split
  all_goals simp

@[simp] theorem controlRound_coord (b : Block) : (controlRound b).coord = b.coord := by
  unfold controlRound; try dsimp only
  repeat' split
  all_goals simp

@[simp] theorem controlRound_conveyor (b : Block) : (controlRound b).conveyor = b.conveyor := by
  unfold controlRound; try dsimp only
  repeat' split
  all_goals simp

@[simp] theorem controlRound_pages (b : Block) : (controlRound b).pages = b.pages := by
  unfold controlRound; try dsimp only
  repeat' split
  all_goals simp

@[simp] theorem controlRound_store (b : Block) : (controlRound b).store = b.store := by
  unfold controlRound; try dsimp only
  repeat' split
  all_goals simp

@[simp] theorem pruneParticipants_station (b : Block) : (pruneParticipants b).station = b.station := by
  simp [pruneParticipants]

@[simp] theorem pruneParticipants_share (b : Block) : (pruneParticipants b).share = b.share := by
  simp [pruneParticipants]

@[simp] theorem pruneParticipants_peers (b : Block) : (pruneParticipants b).peers = b.peers := by
  simp [pruneParticipants]

@[simp] theorem pruneParticipants_drive (b : Block) : (pruneParticipants b).drive = b.drive := by
  simp [pruneParticipants]

@[simp] theorem pruneParticipants_conveyor (b : Block) : (pruneParticipants b).conveyor = b.conveyor := by
  simp [pruneParticipants]

@[simp] theorem pruneParticipants_store (b : Block) : (pruneParticipants b).store = b.store := by
  simp [pruneParticipants]

@[simp] theorem formInputs_station (b : Block) : (formInputs b).station = b.station := by
  simp [formInputs]

@[simp] theorem formInputs_peers (b : Block) : (formInputs b).peers = b.peers := by
  simp [formInputs]

@[simp] theorem formInputs_line (b : Block) : (formInputs b).line = b.line := by
  simp [formInputs]

@[simp] theorem formInputs_drive (b : Block) : (formInputs b).drive = b.drive := by
  simp [formInputs]

@[simp] theorem formInputs_plan (b : Block) : (formInputs b).plan = b.plan := by
  simp [formInputs]

@[simp] theorem formInputs_coord (b : Block) : (formInputs b).coord = b.coord := by
  simp [formInputs]

@[simp] theorem formInputs_conveyor (b : Block) : (formInputs b).conveyor = b.conveyor := by
  simp [formInputs]

@[simp] theorem formInputs_pages (b : Block) : (formInputs b).pages = b.pages := by
  simp [formInputs]

@[simp] theorem formInputs_pager (b : Block) : (formInputs b).pager = b.pager := by
  simp [formInputs]

@[simp] theorem formInputs_port (b : Block) : (formInputs b).port = b.port := by
  simp [formInputs]

@[simp] theorem formInputs_store (b : Block) : (formInputs b).store = b.store := by
  simp [formInputs]

@[simp] theorem divideFeeder_station (b : Block) : (divideFeeder b).station = b.station := by
  simp [divideFeeder]

@[simp] theorem divideFeeder_peers (b : Block) : (divideFeeder b).peers = b.peers := by
  simp [divideFeeder]

@[simp] theorem divideFeeder_line (b : Block) : (divideFeeder b).line = b.line := by
  simp [divideFeeder]

@[simp] theorem divideFeeder_drive (b : Block) : (divideFeeder b).drive = b.drive := by
  simp [divideFeeder]

@[simp] theorem divideFeeder_plan (b : Block) : (divideFeeder b).plan = b.plan := by
  simp [divideFeeder]

@[simp] theorem divideFeeder_coord (b : Block) : (divideFeeder b).coord = b.coord := by
  simp [divideFeeder]

@[simp] theorem divideFeeder_conveyor (b : Block) : (divideFeeder b).conveyor = b.conveyor := by
  simp [divideFeeder]

@[simp] theorem divideFeeder_pages (b : Block) : (divideFeeder b).pages = b.pages := by
  simp [divideFeeder]

@[simp] theorem divideFeeder_pager (b : Block) : (divideFeeder b).pager = b.pager := by
  simp [divideFeeder]

@[simp] theorem divideFeeder_port (b : Block) : (divideFeeder b).port = b.port := by
  simp [divideFeeder]

@[simp] theorem divideFeeder_store (b : Block) : (divideFeeder b).store = b.store := by
  simp [divideFeeder]

@[simp] theorem applyGrant_station (b : Block) : (applyGrant b).station = b.station := by
  unfold applyGrant; try dsimp only
  repeat' split
  all_goals simp

@[simp] theorem applyGrant_peers (b : Block) : (applyGrant b).peers = b.peers := by
  unfold applyGrant; try dsimp only
  repeat' split
  all_goals simp

@[simp] theorem applyGrant_line (b : Block) : (applyGrant b).line = b.line := by
  unfold applyGrant; try dsimp only
  repeat' split
  all_goals simp

@[simp] theorem applyGrant_drive (b : Block) : (applyGrant b).drive = b.drive := by
  unfold applyGrant; try dsimp only
  repeat' split
  all_goals simp

@[simp] theorem applyGrant_plan (b : Block) : (applyGrant b).plan = b.plan := by
  unfold applyGrant; try dsimp only
  repeat' split
  all_goals simp

@[simp] theorem applyGrant_coord (b : Block) : (applyGrant b).coord = b.coord := by
  unfold applyGrant; try dsimp only
  repeat' split
  all_goals simp

@[simp] theorem applyGrant_conveyor (b : Block) : (applyGrant b).conveyor = b.conveyor := by
  unfold applyGrant; try dsimp only
  repeat' split
  all_goals simp

@[simp] theorem applyGrant_pages (b : Block) : (applyGrant b).pages = b.pages := by
  unfold applyGrant; try dsimp only
  repeat' split
  all_goals simp

@[simp] theorem applyGrant_pager (b : Block) : (applyGrant b).pager = b.pager := by
  unfold applyGrant; try dsimp only
  repeat' split
  all_goals simp

@[simp] theorem applyGrant_store (b : Block) : (applyGrant b).store = b.store := by
  unfold applyGrant; try dsimp only
  repeat' split
  all_goals simp

@[simp] theorem bookOvercommit_station (b : Block) : (bookOvercommit b).station = b.station := by
  unfold bookOvercommit; try dsimp only
  repeat' split
  all_goals simp

@[simp] theorem bookOvercommit_peers (b : Block) : (bookOvercommit b).peers = b.peers := by
  unfold bookOvercommit; try dsimp only
  repeat' split
  all_goals simp

@[simp] theorem bookOvercommit_drive (b : Block) : (bookOvercommit b).drive = b.drive := by
  unfold bookOvercommit; try dsimp only
  repeat' split
  all_goals simp

@[simp] theorem bookOvercommit_plan (b : Block) : (bookOvercommit b).plan = b.plan := by
  unfold bookOvercommit; try dsimp only
  repeat' split
  all_goals simp

@[simp] theorem bookOvercommit_coord (b : Block) : (bookOvercommit b).coord = b.coord := by
  unfold bookOvercommit; try dsimp only
  repeat' split
  all_goals simp

@[simp] theorem bookOvercommit_conveyor (b : Block) : (bookOvercommit b).conveyor = b.conveyor := by
  unfold bookOvercommit; try dsimp only
  repeat' split
  all_goals simp

@[simp] theorem bookOvercommit_store (b : Block) : (bookOvercommit b).store = b.store := by
  unfold bookOvercommit; try dsimp only
  repeat' split
  all_goals simp

@[simp] theorem shareRound_station (b : Block) : (shareRound b).station = b.station := by
  simp [shareRound]

@[simp] theorem shareRound_peers (b : Block) : (shareRound b).peers = b.peers := by
  simp [shareRound]

@[simp] theorem shareRound_drive (b : Block) : (shareRound b).drive = b.drive := by
  simp [shareRound]

@[simp] theorem shareRound_plan (b : Block) : (shareRound b).plan = b.plan := by
  simp [shareRound]

@[simp] theorem shareRound_coord (b : Block) : (shareRound b).coord = b.coord := by
  simp [shareRound]

@[simp] theorem shareRound_conveyor (b : Block) : (shareRound b).conveyor = b.conveyor := by
  simp [shareRound]

@[simp] theorem shareRound_store (b : Block) : (shareRound b).store = b.store := by
  simp [shareRound]

@[simp] theorem toggleParity_station (b : Block) : (toggleParity b).station = b.station := by
  unfold toggleParity; try dsimp only
  repeat' split
  all_goals simp

@[simp] theorem toggleParity_share (b : Block) : (toggleParity b).share = b.share := by
  unfold toggleParity; try dsimp only
  repeat' split
  all_goals simp

@[simp] theorem toggleParity_peers (b : Block) : (toggleParity b).peers = b.peers := by
  unfold toggleParity; try dsimp only
  repeat' split
  all_goals simp

@[simp] theorem toggleParity_drive (b : Block) : (toggleParity b).drive = b.drive := by
  unfold toggleParity; try dsimp only
  repeat' split
  all_goals simp

@[simp] theorem toggleParity_plan (b : Block) : (toggleParity b).plan = b.plan := by
  unfold toggleParity; try dsimp only
  repeat' split
  all_goals simp

@[simp] theorem toggleParity_conveyor (b : Block) : (toggleParity b).conveyor = b.conveyor := by
  unfold toggleParity; try dsimp only
  repeat' split
  all_goals simp

@[simp] theorem toggleParity_pages (b : Block) : (toggleParity b).pages = b.pages := by
  unfold toggleParity; try dsimp only
  repeat' split
  all_goals simp

@[simp] theorem toggleParity_pager (b : Block) : (toggleParity b).pager = b.pager := by
  unfold toggleParity; try dsimp only
  repeat' split
  all_goals simp

@[simp] theorem toggleParity_port (b : Block) : (toggleParity b).port = b.port := by
  unfold toggleParity; try dsimp only
  repeat' split
  all_goals simp

@[simp] theorem toggleParity_store (b : Block) : (toggleParity b).store = b.store := by
  unfold toggleParity; try dsimp only
  repeat' split
  all_goals simp

@[simp] theorem handOnDemand_station (b : Block) : (handOnDemand b).station = b.station := by
  unfold handOnDemand; try dsimp only
  repeat' split
  all_goals simp

@[simp] theorem handOnDemand_share (b : Block) : (handOnDemand b).share = b.share := by
  unfold handOnDemand; try dsimp only
  repeat' split
  all_goals simp

@[simp] theorem handOnDemand_peers (b : Block) : (handOnDemand b).peers = b.peers := by
  unfold handOnDemand; try dsimp only
  repeat' split
  all_goals simp

@[simp] theorem handOnDemand_drive (b : Block) : (handOnDemand b).drive = b.drive := by
  unfold handOnDemand; try dsimp only
  repeat' split
  all_goals simp

@[simp] theorem handOnDemand_plan (b : Block) : (handOnDemand b).plan = b.plan := by
  unfold handOnDemand; try dsimp only
  repeat' split
  all_goals simp

@[simp] theorem handOnDemand_coord (b : Block) : (handOnDemand b).coord = b.coord := by
  unfold handOnDemand; try dsimp only
  repeat' split
  all_goals simp

@[simp] theorem handOnDemand_conveyor (b : Block) : (handOnDemand b).conveyor = b.conveyor := by
  unfold handOnDemand; try dsimp only
  repeat' split
  all_goals simp

@[simp] theorem handOnDemand_pages (b : Block) : (handOnDemand b).pages = b.pages := by
  unfold handOnDemand; try dsimp only
  repeat' split
  all_goals simp

@[simp] theorem handOnDemand_pager (b : Block) : (handOnDemand b).pager = b.pager := by
  unfold handOnDemand; try dsimp only
  repeat' split
  all_goals simp

@[simp] theorem handOnDemand_port (b : Block) : (handOnDemand b).port = b.port := by
  unfold handOnDemand; try dsimp only
  repeat' split
  all_goals simp

@[simp] theorem handOnDemand_store (b : Block) : (handOnDemand b).store = b.store := by
  unfold handOnDemand; try dsimp only
  repeat' split
  all_goals simp

/-- Aging leaves each entry one older and removes those of age 8 (R27, R28). -/
@[simp] theorem agePeers_peers (b : Block) : (agePeers b).peers =
    (b.peers.map fun p => { p with age := p.age + 1 }).filter fun p => decide (p.age < Config.removeAge) := by
  unfold agePeers; dsimp only
  rw [foldl_keeps Block.peers _ _ fun b i => by simp]; simp

@[simp] theorem enterActive_station (r : EntryReason) (b : Block) : (enterActive r b).station =
    { b.station with state := .active, reason := r, shortRun := 0, goodRun := 0 } := by simp [enterActive]

@[simp] theorem enterIsolated_station (r : EntryReason) (b : Block) : (enterIsolated r b).station =
    { b.station with state := .isolated, reason := r, shortRun := 0, goodRun := 0 } := by simp [enterIsolated]

/-- Stage 3 ends at most at its target (R13 to R15). -/
theorem newGrant_le_target (b : Block) : newGrant b ≤ target b := by
  unfold newGrant increase; split
  · omega
  · have := Nat.min_le_left (target b - b.share.applied) (min b.cfg.ramp ((headroom b).toNat / risingCount b))
    omega

/-- Stage 3 raises the grant by at most the ramp limit (R15). -/
theorem newGrant_le_ramp (b : Block) : newGrant b ≤ b.share.applied + b.cfg.ramp := by
  unfold newGrant increase; split
  · omega
  · have h := Nat.min_le_right (target b - b.share.applied) (min b.cfg.ramp ((headroom b).toNat / risingCount b))
    have g := Nat.min_le_left b.cfg.ramp ((headroom b).toNat / risingCount b)
    omega

/-- The share record after a round's last step (R10 to R16): the division's figures, the new grant, its rising flag. -/
theorem shareRound_share (b : Block) :
    (shareRound b).share = { (divideFeeder (formInputs b)).share with
      applied := newGrant (divideFeeder (formInputs b)),
      rising := decide (newGrant (divideFeeder (formInputs b)) < target (divideFeeder (formInputs b))),
      cleanRun := (shareRound b).share.cleanRun } := by
  have book : ∀ c, (bookOvercommit c).share = { c.share with cleanRun := (bookOvercommit c).share.cleanRun } := by
    intro c; unfold bookOvercommit; try dsimp only
    repeat' split
    all_goals simp
  have grant : ∀ c, (applyGrant c).share =
      { c.share with applied := newGrant c, rising := decide (newGrant c < target c) } := by
    intro c; unfold applyGrant; try dsimp only
    repeat' split
    all_goals simp
  unfold shareRound
  rw [book, grant]

end Sys2Proof.Machine
end

