-- ==== Sys2Proof/Tests/Slice0.lean ====
section
/-! SUPPORT. Checks of the model: ill-formed commands that WellFormed refuses, records and frames spelled out from the
manual's layouts, figures from its worked cases, and for each statement with hypotheses a state that meets them. Check
words in the byte strings were computed apart from the model. -/

namespace Sys2Proof.Tests

set_option Elab.async false

open Sys2Proof Sys2Proof.Machine

/-! ## States the checks stand on -/

/-- A settings image in range: two HEAT channels, one RINSE, one TANK, one DRY. -/
def image (kind : Kind) : Settings :=
  { feeder := 1000, guardPercent := 10, period := 1000, ramp := 40, ackTimeout := 90, kind := kind, safeAllowance := 60,
    minPeers := 1, blanking := 10, lowLine := 200,
    channels := [⟨some .heat, 80, 0⟩, ⟨some .heat, 80, 1⟩, ⟨some .rinse, 90, 2⟩, ⟨some .tank, 60, 3⟩, ⟨some .dry, 50, 4⟩,
      {}, {}, {}],
    tunnelLength := 24, b1 := 8, b2 := 14, b3 := 20, requiredDwell := 10, sanitizingMinimum := 820, vMax := 20, vMin := 6,
    holdTimeout := 120, rackPitch := 3 }

/-- A station of a kind in a state, strapped to 3, at second 100. -/
def part (kind : Kind) (st : StationState) : Block :=
  { station :=
      { state := st, reason := .checksPassed, strapId := 3, image := some (image kind), signature := 7, clock := 100,
        announceTimer := some 1000, initStep := .finished },
    drive := { channels := (image kind).channels.map configuredChannel } }

def stateOf (b : Block) : State := { block := b, pending := [] }

/-- The part after one command. -/
def after (c : Instr) (b : Block) : Block :=
  match exec c (stateOf b) with
  | .next t => t.block
  | _ => {}

def course (tag : Nat) (st : CourseState) : Course := { tag := tag, version := 1, passTime := 6100, leadMargin := 60, state := st }

def task (st : TaskState) : Task :=
  { course := 0, profile := 2, resolved := some 2, mask := 1, sensor := 0, platesRequired := 0, state := st }

/-- A RAMP to 65.0 °C and a HOLD. -/
def heatUp : Profile := .direct { stages := [⟨.ramp, 650, 100⟩, ⟨.hold, 650, 0⟩], ready := 700, band := 40 }

/-- A plan with one course, of tag 40, and one task on it. -/
def planned (kind : Kind) (c : Course) (k : Task) : Block :=
  (part kind .active).onPlan fun p =>
    { p with profiles := p.profiles.set 2 heatUp, courses := p.courses.set 0 (some c), tasks := p.tasks.set 0 (some k) }

def racks (ps : List Nat) (b : Block) : Block :=
  b.onConveyor fun c => { c with queue := ps.map fun p => { number := p, load := .plates, plates := 20, position := p } }

/-- A staff call of subject 7 in entry 0. -/
def call (owner : Nat) (st : PageState) (deadline : Option Nat) (clearDue : Bool) : PageEntry :=
  { cause := ⟨.staffCall, 7⟩, generation := 2, owner := owner, level := 1, state := st, priority := 3, merges := 1,
    raisedAt := 10, deadline := deadline, oneShot := true, adopted := false, clearDue := clearDue }

def paged (e : PageEntry) (b : Block) : Block := setPage 0 (some e) b

def lineAt (p : Position) (b : Block) : Block := setPosition p b

def flight (kind : FrameKind) : Flight := { kind := kind, sequence := 0, bytes := [] }

def eight (x : SensorInput) : List SensorInput := List.replicate 8 x

def oldPeer : Peer :=
  { id := 5, kind := .oven, signature := 7, state := .active, floor := 10, want := 20, cls := 1, applied := 10,
    rising := false, draw := 10, rated := 100, lastSequence := 55, missed := 0, age := 2, dish := none, base := none }

/-- A peer of signature 7 heard `age` rounds ago. -/
def peerAt (id age : Nat) : Peer := { oldPeer with id := id, age := age, signature := 7 }

/-- Sixteen staff calls of subjects 100 to 115, each older than the one before it. -/
def crowdEntry (owner priority i : Nat) : PageEntry :=
  { call owner .raised none false with cause := ⟨.staffCall, 100 + i⟩, priority := priority, raisedAt := 50 - i }
def crowd (owner priority : Nat) (b : Block) : Block :=
  b.onPages fun g => { g with table := (List.range 16).map fun i => some (crowdEntry owner priority i) }

/-- What the generation memory holds for a cause. -/
def remembering (c : Cause) (r : MemRecord) (b : Block) : Block :=
  b.onPages fun g => { g with memory := [(causeKey c, r)] }

def owed (c : Cause) (merges : Nat) : Waiting := { cause := c, priority := 2, level := 1, merges := merges }

def fullPageQueue (n : Nat) (b : Block) : Block :=
  b.onLine fun l => { l with pageQueue := List.replicate n (clearFrame ⟨.staffCall, 200⟩ 0) }

/-- What holds of the entries listed holds of every entry an index finds. -/
theorem of_entries {α : Type} (l : List (Option α)) (P : Nat → α → Prop)
    (h : ∀ j < l.length, ∀ x ∈ l.getD j none, P j x) : ∀ j x, l.getD j none = some x → P j x := by
  intro j x hx
  by_cases hj : j < l.length
  · exact h j hj x hx
  · rw [List.getD_eq_default _ _ (by omega)] at hx; cases hx

/-- The one task, and the one course, of a planned part. -/
theorem planned_task {kind : Kind} {c : Course} {k x : Task} {t : Nat} (h : taskAt t (planned kind c k) = some x) :
    t = 0 ∧ x = k := by
  rcases t with _ | t
  · exact ⟨rfl, (Option.some.inj h).symm⟩
  · by_cases ht : t < 23
    · have := (by decide : ∀ t < 23, taskAt (t + 1) (part .oven .active) = none) t ht
      exact absurd (h.symm.trans this) nofun
    · exact absurd (h.symm.trans (List.getD_eq_default _ _ (Nat.succ_le_succ (Nat.le_of_not_lt ht)))) nofun
theorem planned_course {kind : Kind} {c x : Course} {k : Task} {i : Nat} (h : courseAt i (planned kind c k) = some x) :
    i = 0 ∧ x = c := by
  rcases i with _ | i
  · exact ⟨rfl, (Option.some.inj h).symm⟩
  · by_cases hi : i < 7
    · have := (by decide : ∀ i < 7, courseAt (i + 1) (part .oven .active) = none) i hi
      exact absurd (h.symm.trans this) nofun
    · exact absurd (h.symm.trans (List.getD_eq_default _ _ (Nat.succ_le_succ (Nat.le_of_not_lt hi)))) nofun
theorem bit_lt {m : Mask8} {j : Nat} (h : m.getLsbD j = true) : j < 8 :=
  Nat.lt_of_not_le fun hle => absurd (h.symm.trans (BitVec.getLsbD_of_ge m j hle)) nofun
theorem no_common_bit {a b : Mask8} (h : a &&& b = 0) {j : Nat} (ha : a.getLsbD j = true) : b.getLsbD j = false := by
  have := congrArg (fun m : Mask8 => m.getLsbD j) h
  simpa [ha] using this

/-- Where a check passes in a planned part: the course is not locked, the index is none of the task's, the fields are in
range, the mask is not held by another. -/
theorem not_lockedProfile {kind : Kind} {c : Course} {k : Task} {i : Nat}
    (h : c.lock = false ∨ (k.profile ≠ i ∧ k.resolved ≠ some i)) : ¬ lockedProfile i (planned kind c k) := by
  rintro ⟨t, x, d, ht, hi, hc, hl⟩
  obtain ⟨rfl, rfl⟩ := planned_task ht
  obtain ⟨-, rfl⟩ := planned_course hc
  rcases h with h | h
  · exact absurd (hl.symm.trans h) nofun
  · exact hi.elim h.1 h.2
theorem not_usedProfile {kind : Kind} {c : Course} {k : Task} {i : Nat}
    (h : k.state.runs = false ∨ k.resolved ≠ some i) : ¬ usedProfile i (planned kind c k) := by
  rintro ⟨-, t, x, ht, hr, hx⟩
  obtain ⟨-, rfl⟩ := planned_task ht
  exact h.elim (fun h => absurd (hr.symm.trans h) nofun) (fun h => h hx)
theorem not_courseLocked {kind : Kind} {c : Course} {k : Task} (h : c.lock = false) (t : Nat) :
    ¬ courseLocked t (planned kind c k) := by
  rintro ⟨x, d, -, hc, hl⟩
  obtain ⟨-, rfl⟩ := planned_course hc
  exact absurd (hl.symm.trans h) nofun
theorem not_heldByOther {kind : Kind} {c : Course} {k : Task} {mask : Mask8} {self : Option Nat}
    (h : mask &&& k.holds = 0 ∨ self = some 0) : ¬ heldByOther mask self (planned kind c k) := by
  rintro ⟨j, u, x, hj, hu, hx, hs⟩
  obtain ⟨rfl, rfl⟩ := planned_task hu
  exact h.elim (fun h => absurd (hx.symm.trans (no_common_bit h hj)) nofun) (fun h => hs h.symm)
theorem not_fieldsBad {kind : Kind} {c : Course} {k : Task} {profile : Byte} {mask : Mask8} {sensor : Byte} {plates : Word16}
    (hp : profile.toNat ≤ 31) (hm : mask ≠ 0) (h : mask &&& 0xFC = 0) (hs : sensor.toNat ≤ 7) (hn : plates.toNat ≤ 999) :
    ¬ fieldsBad profile mask sensor plates (planned kind c k) := by
  rintro (g | g | ⟨j, hj, g⟩ | g | g)
  · omega
  · exact hm g
  · have hb : (0xFC : Mask8).getLsbD j = false := no_common_bit h hj
    have hf : ∀ j < 8, (0xFC : Mask8).getLsbD j = false →
        (channelAt j (part .oven .active)).fitted = true ∧ (channelAt j (part .oven .active)).role = .heat := by decide
    exact g (hf j (bit_lt hj) hb)
  · omega
  · omega

/-! ## WellFormed refuses -/

theorem test_wf_refuses_seven_inputs :
    Instr.wf (.second (List.replicate 7 .openCircuit)) = false ∧ Instr.wf (.loopbackTestDone true []) = false := by decide
theorem test_wf_refuses_seven_currents : Instr.wf (.driveTick 230000 [0, 0, 0, 0, 0, 0, 0]) = false := by decide
theorem test_wf_refuses_entry_numbers :
    Instr.wf (.taskEditApply 24) = false ∧ Instr.wf (.ackTimerExpiry 16) = false ∧ Instr.wf (.clearRetry 16) = false := by
  decide
theorem test_wf_refuses_source_id : Instr.wf (.shiftFrame 32 0 [0, 0, 0, 0, 0]) = false := by decide
theorem test_wf_refuses_body_lengths :
    [Instr.demandFrame 1 0 [], .courseFrame 1 0 [0], .shiftFrame 1 0 [0], .pageRaiseFrame 1 0 [0], .pageAckFrame 1 0 [],
      .pageClearFrame 1 0 []].all (fun c => !c.wf) = true := by decide
theorem test_wf_refuses_known_frame_as_unknown :
    Instr.wf (.unknownFrame 1 0x20 0 [0, 0, 0, 0, 0]) = false ∧ Instr.wf (.unknownFrame 32 0 0 []) = false ∧
      Instr.wf (.unknownFrame 1 0 0 (List.replicate 57 0)) = false := by decide
theorem test_wf_refuses_selector : Instr.wf (.readTable 7) = false := by decide
theorem test_wf_refuses_long_profile :
    Instr.wf (.postProfile 0 (.direct (List.replicate 50 ⟨1, 0, 1⟩) 0 10)) = false := by decide
theorem test_wf_refuses_short_block : Instr.wf (.writeSettings (List.replicate 50 0)) = false := by decide
theorem test_wf_refuses_none_as_unknown : Instr.wf (.unknownCommand 0) = false := by decide

/-! ## Records and frames from the manual's layouts (chapter 11) -/

/-- R178's own check: "123456789" ends at 29B1. -/
theorem test_check_word : checkWord [0x31, 0x32, 0x33, 0x34, 0x35, 0x36, 0x37, 0x38, 0x39] = 0x29B1#16 := by decide +kernel

/-- Command codes and fields of R181 and R182, each clocked on to the 5 bytes of an empty slot's NONE record. -/
theorem test_command_records :
    decodeCommand 0 none [1, 0, 0, 0, 0] = .readStatus ∧ decodeCommand 0 none [3, 1, 6, 0, 0] = .readTable 6 ∧
    decodeCommand 0 none [8, 4, 40, 1, 0x17, 0x70] = .postCourse 40 1 6000 none ∧
    decodeCommand 0 none [12, 4, 40, 0x0E, 0x10, 1] = .shiftCourse 40 3600 1 ∧
    decodeCommand 0 none [14, 6, 40, 2, 0x0F, 1, 0, 60] = .postTask 40 2 0x0F 1 60 ∧
    decodeCommand 0 none [6, 11, 2, 1, 1, 1, 0x02, 0x8A, 0, 100, 0x02, 0xBC, 0, 40] = .unknownCommand 6 ∧
    decodeCommand 0 none [6, 12, 2, 1, 1, 1, 0x02, 0x8A, 0, 100, 0x02, 0xBC, 0, 40]
      = .postProfile 2 (.direct [⟨1, 650, 100⟩] 700 40) ∧
    decodeCommand 0 none [22, 2, 1, 9, 0] = .rackRemoved ⟨1, 9⟩ ∧
    decodeCommand 0 none [22, 2, 0, 0, 0] = .rackRemoved ⟨0, 0⟩ := by decide

/-- R168, R169: a record that ends early, an unknown code, a selector above 6; the code NONE carries no command. -/
theorem test_records_that_fail :
    decodeCommand 0 none [8, 4, 40, 1, 0] = .transferCutShort ∧ decodeCommand 0 none [30, 0, 0, 0, 0] = .unknownCommand 30 ∧
      decodeCommand 0 none [3, 1, 7, 0, 0] = .unknownCommand 3 ∧ decodeCommand 0 none [0, 2, 9, 9, 0] = .noneTransfer := by
  decide

/-- R168: with an answer of 2 data bytes in the slot a transfer is complete at 7 bytes and cut short at 6; with none, at the
5 bytes of NONE and at 4 (log 78). -/
theorem test_slot_response_is_clocked_through :
    let slot : Option Response := some { code := 2, number := 0, refused := none, data := [1, 2] }
    decodeCommand 0 slot [1, 0, 0, 0, 0, 0] = .transferCutShort ∧
      decodeCommand 0 slot [1, 0, 0, 0, 0, 0, 0] = .readStatus ∧
      decodeCommand 0 none [1, 0, 0, 0] = .transferCutShort ∧ decodeCommand 0 none [1, 0, 0, 0, 0] = .readStatus := by decide

/-- Chapter 11.6: station 3's DEMAND, sequence 57, floor 40, want 300, class 2, applied 240, rising, rated 320. -/
def demandBody : List Byte := [0x12, 0x34, 0, 2, 0, 40, 1, 44, 2, 0, 240, 1, 0, 200, 1, 64]

theorem test_demand_frame :
    decodeLine ([0x9D, 3, 0x40, 57, 16] ++ demandBody ++ [0xE5, 0x5A]) = .demandFrame 3 57 demandBody := by decide +kernel

theorem test_demand_fields : parseDemand demandBody = some
    { signature := 0x1234, kind := .oven, state := .active, floor := 40, want := 300, cls := 2, applied := 240,
      rising := true, draw := 200, rated := 320, dish := none, base := none } := by decide +kernel

/-- Chapter 11.6: with class byte 4 the body is discarded (R180). -/
theorem test_demand_class_four : parseDemand (demandBody.set 8 4) = none := by decide +kernel

/-- A PAGE RAISE and a SHIFT frame (R177, R179), and what R60 calls corrupt. -/
theorem test_page_and_shift_frames :
    decodeLine [0x9D, 5, 0x11, 9, 7, 9, 7, 2, 5, 1, 3, 0, 0xDA, 0x3E] = .pageRaiseFrame 5 9 [9, 7, 2, 5, 1, 3, 0] ∧
      decodeLine [0x9D, 5, 0x20, 9, 5, 40, 2, 0x0F, 0x6E, 0, 0x9F, 0xFE] = .shiftFrame 5 9 [40, 2, 0x0F, 0x6E, 0] ∧
      parseRaise [9, 7, 2, 5, 1, 3, 0] = some
        { cause := ⟨.staffCall, 7⟩, generation := 2, owner := 5, level := 1, priority := 3, adopted := false } ∧
      parseShift [40, 2, 0x0F, 0x6E, 0] = some { tag := 40, version := 2, offset := 3950, hold := false } := by decide +kernel
theorem test_corrupt_frames :
    decodeLine [0x9C, 5, 0x20, 9, 5, 40, 2, 0x0F, 0x6E, 0, 0x9F, 0xFE] = .corruptFrame .startFlag ∧
      decodeLine [0x9D, 32, 0x20, 9, 5, 40, 2, 0x0F, 0x6E, 0, 0x9F, 0xFE] = .corruptFrame .sourceId ∧
      decodeLine [0x9D, 5, 0x20, 9, 57, 0, 0] = .corruptFrame .bodyLength ∧
      decodeLine [0x9D, 5, 0x20, 9, 5, 40, 2] = .corruptFrame .cutShort ∧
      decodeLine [0x9D, 5, 0x20, 9, 5, 40, 2, 0x0F, 0x6E, 0, 0x9F, 0xFF] = .corruptFrame .checkWord := by decide +kernel

/-- STATUS and TAKEN records of the radio (R183); a wrong check word is no record (R184). -/
theorem test_radio_records :
    decodeRadio [1, 1, 1, 0xD8, 0xBC] = .radioStatusRecord true ∧
      decodeRadio [3, 3, 9, 7, 2, 0x43, 0x46] = .takenRecord 9 7 2 ∧
      decodeRadio [1, 1, 1, 0xD8, 0xBD] = .badRadioRecord := by decide +kernel

/-- A settings block of an OVEN in R185's layout: feeder 1,200, guard 5, four HEAT channels of 80 LU. -/
def ovenBlock : List Byte :=
  [0x04, 0xB0, 5, 1, 40, 0, 90, 0, 0, 60, 1, 10, 200, 1, 80, 0, 1, 80, 0, 1, 80, 0, 1, 80, 0]
    ++ List.replicate 24 0 ++ [0x3C, 0xBC]

theorem test_settings_block :
    (settingsOfBlock ovenBlock).map (fun s => (s.feeder, s.guardPercent, s.period, s.ackTimeout, s.safeAllowance,
        s.ratedLoad)) = some (1200, 5, 1000, 90, 60, 320) ∧
      signatureOfBlock ovenBlock = 0x4A9F ∧ settingsOfBlock (ovenBlock.set 2 21) = none := by decide +kernel

/-- Every table entry has the width its presence byte promises when it is free. -/
theorem test_row_widths :
    (courseRow (course 0 .empty)).length = courseWidth ∧ (taskRow (task .waiting)).length = taskWidth ∧
      (pageRow (call 3 .raised none false)).length = pageWidth := by decide +kernel

/-! ## Figures of the manual -/

/-- R1: an 8-bit serial is newer by 1 to 127. -/
theorem test_serial_numbers : newer 0 255 = true ∧ newer 127 0 = true ∧ newer 128 0 = false ∧ newer 5 5 = false := by decide

/-- The table of R10. -/
theorem test_budgets :
    budgetOf { feeder := 1200, guardPercent := 5 } = 1140 ∧ budgetOf { feeder := 1000, guardPercent := 10 } = 900 ∧
      budgetOf { feeder := 1250, guardPercent := 20 } = 1000 ∧ budgetOf { feeder := 999, guardPercent := 3 } = 969 := by decide

/-- Chapter 1, floors above the available load: 740 LU over floors of 350, 300 and 200. -/
theorem test_overcommitted_division :
    let cs : List Claimant := [⟨4, 350, 500, 1⟩, ⟨11, 300, 320, 0⟩, ⟨18, 200, 400, 2⟩]
    cs.map (shareOf 740 cs) = [304, 261, 174] := by decide

/-- R51: with last sender 7 station 3's DEMAND slot is 96 + (3 - 7 - 1) mod 32; with NONE it is 96 + 3. -/
theorem test_slots : slotOf 3 (some 7) 3 = 123 ∧ slotOf 3 none 3 = 99 ∧ slotOf 3 (some 3) 0 = 31 := by decide

/-- R105: the fraction is 125 at the least. -/
theorem test_power_fraction : powerFraction 40 320 = 125 ∧ powerFraction 240 320 = 750 ∧ powerFraction 0 0 = 125 := by decide

/-- R141, R142: a rack pushed in behind one at position 2, pitch 3, is crowded; a sanitized rack leaves clean. -/
theorem test_racks :
    ((after .entrySensor (racks [2] (part .dish .active))).conveyor.queue.map Rack.crowded) = [false, true] ∧
      (after .exitSensor ((part .dish .active).onConveyor fun c =>
        { c with queue := [{ number := 1, load := .plates, plates := 20, position := 23, sanitized := true }] })).conveyor.clean
        = 20 := by decide +kernel

/-- R165, R152: a staff call in range is ENTERED, and held with the host's priority. -/
theorem test_staff_call :
    ((after (.raiseStaffCall 7 3 1) (part .base .active)).port.slot.map Response.data) = some [0] ∧
      ((heldPage ⟨.staffCall, 7⟩ (after (.raiseStaffCall 7 3 1) (part .base .active))).map PageEntry.priority) = some 3 := by
  decide +kernel

/-- A LISTEN station at its fourth round with no peer, min_peers 1, becomes ISOLATED (R40). -/
theorem test_end_of_listen :
    (after .round ((part .oven .listen).onStation fun s => { s with listenRounds := 3 })).station.state = .isolated := by
  decide +kernel

/-- A step takes the front command and leaves the rest. -/
theorem test_step_order :
    step { block := part .oven .active, pending := [.noneTransfer, .readStatus] }
      = .next { block := after .noneTransfer (part .oven .active), pending := [.readStatus] } := rfl

/-! ## A state for the hypotheses of each statement -/

theorem witness_StartsAndHeldReset : (part .oven .active).portAnswers = true := by decide

def atSettings : Block := { store := { block := ovenBlock } }
def atLoopback : Block := (part .oven .initial).onStation fun s => { s with initStep := .loopback }

theorem witness_InitStepsLoadListenOrHalt :
    initAt .settings atSettings = true ∧ atSettings.store.writing = none ∧
      (settingsOfBlock atSettings.store.block).isSome = true ∧
      initAt .settings State.reset.block = true ∧ State.reset.block.store.writing = none ∧
      settingsOfBlock State.reset.block.store.block = none ∧
      initAt .loopback atLoopback = true ∧ (eight .openCircuit).length = 8 ∧ atLoopback.drive.inputs.length = 8 ∧
      atLoopback.cfg.kind ≠ .dish := by decide +kernel

/-- A DISH station's tracker at the entry to LISTEN. -/
theorem witness_dish_enters_listen :
    let b := (part .dish .initial).onStation fun s => { s with initStep := .loopback }
    initAt .loopback b = true ∧ b.cfg.kind = .dish ∧ b.conveyor = {} ∧ b.drive.inputs.length = 8 := by decide +kernel

/-- The statements about a round, in every state in which rounds run. -/
theorem witness_rounds :
    ([StationState.listen, .active, .isolated, .localOnly].all fun st =>
      (part .oven st).runs && (part .oven st).station.announceTimer.isSome) = true ∧
      (part .oven .active).cfg.sharedOk = true := by decide +kernel

/-- R5: a DISH station with a PLATES_SHORT page, RAISED by another or ACKED, or waiting behind a full table. -/
def shortPage (st : PageState) : PageEntry := { call 5 st none false with cause := ⟨.platesShort, 40⟩ }

theorem witness_class_lift :
    let held := fun st => paged (shortPage st) (part .dish .active)
    let waits := (crowd 5 2 (part .dish .active)).onPages fun g => { g with retry := [owed ⟨.platesShort, 40⟩ 1] }
    (held .acked).runs = true ∧ pageAt 0 (held .raised) = some (shortPage .raised) ∧ (held .acked).peers = [] ∧
      (after .round (held .acked)).share.classSelf = 2 ∧ waits.runs = true ∧ (after .round waits).share.classSelf = 0 ∧
      (after .round (paged (shortPage .raised) (part .oven .active))).share.classSelf = 0 := by decide +kernel

/-- Peer 5 is lost: a page of its CONFIG_MISMATCH is this station's, none of its STATION_LOST stands. -/
def losing : Block :=
  (paged { call 3 .raised none false with cause := ⟨.configMismatch, 5⟩ } (planned .oven
    { course 40 .pending with participants := addId 5 0, readySet := addId 5 0 } (task .heating))).onPeers fun _ => [peerAt 5 7]

theorem witness_RoundAgesPeersAndMarksSlots :
    losing.runs = true ∧ peerAt 5 7 ∈ losing.peers ∧ locatePage ⟨.stationLost, 5⟩ losing = none ∧
      locatePage ⟨.configMismatch, 5⟩ losing =
        some (0, { call 3 .raised none false with cause := ⟨.configMismatch, 5⟩ }) ∧
      losing.lineTakes = true ∧ isWaiting ⟨.configMismatch, 5⟩ losing = false ∧ memoryCanonical losing = true ∧
      (courseAt 0 (after .round losing)).isSome = true := by decide +kernel

/-- A floor of 80 with 5 LU left beside a peer that is not counted; and a clean run of 4 with the page owned. -/
def overBooked : Block :=
  (setChannel 0 { (channelAt 0 (part .oven .active)) with want := { amount := 80 } } (part .oven .active)).onPeers
    fun _ => [{ peerAt 5 3 with applied := 895 }]
def cleanFour : Block :=
  ((paged { call 3 .raised none false with cause := overcommitCause } (part .oven .active)).onShare fun s =>
    { s with cleanRun := 4 }).onPeers fun _ => [peerAt 5 6]

theorem witness_OvercommitIsBooked :
    overBooked.runs = true ∧ (after .round overBooked).station.state = .active ∧
      (after .round overBooked).share.overcommitted = true ∧ cleanFour.share.cleanRun = 4 ∧
      (after .round cleanFour).station.state = .active ∧ (after .round cleanFour).share.overcommitted = false ∧
      (∀ p ∈ cleanFour.peers, p.age < 7) ∧ isWaiting overcommitCause cleanFour = false ∧
      locatePage overcommitCause cleanFour = some (0, { call 3 .raised none false with cause := overcommitCause }) ∧
      (after .round (part .oven .localOnly)).station.state ≠ .active := by decide +kernel

/-- A BASE whose radio is UP and that is not elected yet, with a RAISED page; the DEMAND of a BASE, and of an OVEN. -/
def baseUp : Block := (paged (call 5 .raised none false) (part .base .active)).onPager fun p => { p with radio := .up }
def baseBody : List Byte := [0, 7, 3, 2, 0, 0, 0, 0, 0, 0, 0, 0, 0, 0, 0, 0, 0]

theorem witness_ElectionIsDecidedAfresh :
    baseUp.runs = true ∧ baseUp.pager.elected = false ∧ (after .round baseUp).pager.elected = true ∧
      locatePage ⟨.staffCall, 7⟩ (after .round baseUp) = some (0, call 5 .raised none false) ∧
      listening (lineAt .gap baseUp) = true ∧ FrameForm.demand.admits baseBody.length = true ∧
      (parseDemand baseBody).map Demand.kind = some .base ∧
      (after (.demandFrame 5 1 baseBody) (lineAt .gap baseUp)).pager.elected = true ∧
      (parseDemand demandBody).map Demand.kind = some .oven := by decide +kernel

/-- R161: a BASE that a round elects lists the OVERCOMMIT page it holds. -/
theorem witness_election_lists_overcommit :
    let e : PageEntry := { call 5 .raised none false with cause := overcommitCause }
    let b := setPage 0 (some e) baseUp
    b.runs = true ∧ b.station.announceTimer.isSome = true ∧ pagesDistinct b = true ∧ b.pager.elected = false ∧
      (after .round b).pager.elected = true ∧ locatePage overcommitCause (after .round b) = some (0, e) ∧
      overcommitCause ∈ (after .round b).pager.sendList := by decide +kernel

/-- Peer 5, last heard seven rounds ago, owns the page of entry 0; peer 1 is counted, or there is none beside it. -/
def orphaned (st : StationState) (page : PageState) (age : Nat) (others : List Peer) : Block :=
  lineAt .gap ((paged (call 5 page none false) (part .oven st)).onPeers fun _ => others ++ [peerAt 5 age])

theorem witness_OrphanedPagesAreAdopted :
    ([StationState.active, .localOnly].all fun st => [PageState.raised, .acked].all fun p =>
      let b := orphaned st p 7 []
      let d := orphaned st p 3 []
      b.runs && decide (peerAt 5 7 ∈ b.peers) && decide (locatePage ⟨.staffCall, 7⟩ b = some (0, call 5 p none false)) &&
        !isWaiting ⟨.staffCall, 7⟩ b && memoryCanonical b && listening d && decide (findPeer 5 d = some (peerAt 5 3)) &&
        decide (locatePage ⟨.staffCall, 7⟩ d = some (0, call 5 p none false))) = true ∧
      (after .round (orphaned .active .raised 7 [])).peers = [] ∧
      countedIn (after .round (orphaned .active .raised 7 [peerAt 1 0])) (peerAt 1 1) = true ∧
      peerAt 1 1 ∈ (after .round (orphaned .active .raised 7 [peerAt 1 0])).peers ∧
      ((after (.demandFrame 5 0 demandBody) (orphaned .active .raised 3 [])).peers.all fun p => decide (p.id = 5)) = true ∧
      peerAt 1 0 ∈ (after (.demandFrame 5 0 demandBody) (orphaned .active .raised 3 [peerAt 1 0])).peers := by
  decide +kernel

theorem witness_one_orphan (j : Nat) (x : PageEntry) (h : pageAt j (orphaned .active .raised 3 []) = some x) : j = 0 :=
  of_entries (orphaned .active .raised 3 []).pages.table (fun j _ => j = 0) (by decide +kernel) j x h

def kitchen : List Claimant := [⟨4, 350, 500, 3⟩, ⟨11, 300, 320, 0⟩]

theorem witness_DivisionPlacesTheAmount :
    kitchen.Pairwise (fun x y => x.number ≠ y.number) ∧ (∀ x ∈ kitchen, x.floor ≤ x.want ∧ x.cls ≤ 3) ∧
      overcommits 650 kitchen = false ∧ overcommits 649 kitchen = true ∧
      extrasOf kitchen 3 = 150 ∧ leftFor 800 kitchen 3 = 150 ∧ leftFor 799 kitchen 3 = 149 ∧ leftFor 799 kitchen 0 = 0 := by
  decide

/-- R7: of 11 LU over three extras of 10 of one class, 3 each, and the 2 left over to the lowest numbers. -/
theorem test_leftover_in_ascending_number :
    let cs : List Claimant := [⟨18, 0, 10, 1⟩, ⟨4, 0, 10, 1⟩, ⟨11, 0, 10, 1⟩]
    cs.map (shareOf 11 cs) = [3, 4, 4] := by decide

theorem witness_DriveTickSwitchesChannels :
    (part .oven .active).runs = true ∧ (part .oven .active).drive.ticksDriven < 200 ∧
      7 < (part .oven .active).drive.channels.length ∧
      (channelAt 7 (part .oven .active)).planned ≠ some (part .oven .active).drive.ticksDriven := by decide

/-- R73: at 199 V the line goes low and every low count is 0; at 199.5 V, which is 200 V, it does not. -/
theorem test_line_goes_low :
    let b := setChannel 1 { channelAt 1 (part .oven .active) with lowCount := 2 } (part .oven .active)
    let low := after (.driveTick 199000 []) b
    low.drive.lowLine = true ∧ (channelAt 1 low).lowCount = 0 ∧ low.port.events.map Event.body = [.lineStatus 199] ∧
      (after (.driveTick 199500 []) b).drive.lowLine = false ∧ (channelAt 1 (after (.driveTick 199500 []) b)).lowCount = 2 := by
  decide +kernel

/-- Channel 1 stands at its sample tick, 199 of the window, twice low. -/
def atSample : Block :=
  (setChannel 1 { (channelAt 1 (part .oven .active)) with planned := some 199, onTicks := 40, lowCount := 2 }
    (part .oven .active)).onDrive fun d => { d with ticksDriven := 199 }

theorem witness_ChecksTripAndOpen :
    atSample.runs = true ∧ atSample.drive.ticksDriven < 200 ∧ atSample.drive.channels.length = 8 ∧
      (channelAt 1 atSample).planned = some atSample.drive.ticksDriven ∧ (channelAt 1 atSample).healthy = true ∧
      (channelAt 1 atSample).lowCount = 2 ∧ (channelAt 1 (after (.driveTick 230000 [0, 0]) atSample)).health = .opened ∧
      (channelAt 1 (after (.driveTick 230000 [0, 60000]) atSample)).health = .tripped ∧
      (channelAt 1 (after (.driveTick 230000 [0, 35000]) atSample)).health = .ok ∧
      (channelAt 1 (setChannel 1 { (channelAt 1 atSample) with health := .unverified } atSample)).healthy = true := by
  decide +kernel

def windowEnd : Block := (part .oven .active).onDrive fun d => { d with ticksDriven := 200 }

theorem witness_WindowStartDividesGrant :
    let c := channelAt 0 windowEnd
    windowEnd.runs = true ∧ windowEnd.drive.ticksDriven = 200 ∧ windowEnd.drive.channels.length = 8 ∧
      (channelAt 0 (after .burstWindowStart (setChannel 0 { c with starved := 29, onTicks := 1 } windowEnd))).health
        = .unverified ∧
      (channelAt 0 (after .burstWindowStart ((setChannel 0 { c with want := { amount := 80 } } windowEnd).onShare fun s =>
        { s with applied := 80 }))).planned = some 10 ∧
      (channelAt 0 (after .burstWindowStart windowEnd)).planned = none := by decide +kernel

/-- R74: with blanking 40 the check of channel 7 falls in the next window, at its tick 15, if the channel was on at the end. -/
theorem test_check_planned_across_windows :
    let wide := windowEnd.onStation fun s => { s with image := s.image.map fun x => { x with blanking := 40 } }
    let at7 := fun (on : Bool) => (setChannel 7
      { fitted := true, rated := 80, role := .heat, want := { amount := 80 }, output := on } wide).onShare fun s =>
        { s with applied := 80 }
    (channelAt 7 (after .burstWindowStart (at7 true))).planned = some 15 ∧
      (channelAt 7 (after .burstWindowStart (at7 false))).planned = none := by decide +kernel

def broken : Block :=
  setChannel 0 { (channelAt 0 (part .oven .active)) with health := .opened }
    (planned .oven (course 40 .pending) (task .heating))
def warm : List SensorInput := eight (.tenths 650)

theorem witness_SecondReadsInputsAndFaults :
    let b := planned .oven (course 40 .pending) (task .heating)
    let w := planned .oven (course 40 .pending) { task .waiting with profile := 3 }
    b.station.resetHeld = false ∧ (eight .openCircuit).length = 8 ∧ b.drive.inputs.length = 8 ∧ b.runs = true ∧
      taskAt 0 b = some (task .heating) ∧ (task .heating).state.runs = true ∧ (task .heating).edit = none ∧
      (inputSeen b (eight .openCircuit) 0).status = .opened ∧ (part .oven .halted).station.state.works = false ∧
      taskAt 0 w = some { task .waiting with profile := 3 } ∧ resolveProfile 3 w = none ∧
      resolveProfile 2 (planned .oven (course 40 .pending) (task .waiting)) = some 2 ∧
      (inputSeen broken warm 0).status = .ok ∧ taskAt 0 broken = some (task .heating) := by decide +kernel

theorem witness_no_channel : ¬ hasChannel broken (task .heating) := by
  rintro ⟨j, h, -, g⟩
  have hj : j = 0 := by
    by_cases hlt : j < 8
    · have := (by decide : ∀ j < 8, (task .heating).mask.getLsbD j = true → j = 0); exact this j hlt h
    · rw [BitVec.getLsbD_of_ge _ _ (by omega)] at h; cases h
  subst hj
  exact absurd g (by decide)

/-- R113, R115: a task that faults at a second leaves its channel a want of 0. -/
theorem test_fault_releases :
    let b := setChannel 0 { channelAt 0 (part .oven .active) with want := { amount := 70, kind := .extra, cls := 2 } }
      (planned .oven (course 40 .pending) (task .heating))
    (taskAt 0 (after (.second (eight .openCircuit)) b)).map Task.state = some .faulted ∧ (channelAt 0 b).role = .heat ∧
      (channelAt 0 (after (.second (eight .openCircuit)) b)).want = {} := by decide +kernel

/-- The run of a task through its two stages: at 65.0 °C the ramp is over; the hold is over at second 101 where the pass time is
that second; below 65.0 °C nothing is. -/
def runAt (st : TaskState) (i : Nat) (passTime : Nat) : Block :=
  planned .oven { course 40 .pending with passTime := passTime, leadMargin := 0 }
    { task st with stageIndex := i, stageStart := 90 }

theorem witness_TaskSecondRunsTheTask :
    let d : Direct := { stages := [⟨.ramp, 650, 100⟩, ⟨.hold, 650, 0⟩], ready := 700, band := 40 }
    let b := runAt .heating 0 6100
    b.runs = true ∧ warm.length = 8 ∧ b.drive.inputs.length = 8 ∧ (task .heating).edit = none ∧
      (inputSeen b warm 0).status = .ok ∧ (task .heating).mask.getLsbD 0 = true ∧ (channelAt 0 b).fitted = true ∧
      (channelAt 0 b).health = .ok ∧ (channelAt 0 b).role = .heat ∧ profileAt 2 b = .direct d ∧
      (d.stages.filter fun x => decide (x.kind = .hold)).length = 1 ∧
      resolveProfile (task .waiting).profile b = some 2 ∧ (task .heating).resolved = some 2 ∧
      stagePlace d 0 = .heating ∧ stagePlace d 1 = .holding ∧
      stageOver (viewAt b warm (task .heating) d) 0 90 = true ∧
      stageOver (viewAt b (eight (.tenths 649)) (task .heating) d) 0 90 = false ∧
      stageOver (viewAt b warm (task .heating) d) 1 101 = false ∧
      stageOver (viewAt (runAt .heating 0 101) warm (task .heating) d) 1 101 = true := by decide +kernel

/-- R106 by hand, at half power: 150 tenths at 100 tenths a minute are 90 s at full power and 180 s at half, a soak of 60 s is
45 s after 15; the finish run starts from the HOLD setpoint and takes 50 tenths at 50, which is 120 s, and a soak of 30 s. -/
theorem test_estimates :
    let d : Direct := {
      stages := [⟨.ramp, 650, 100⟩, ⟨.soak, 650, 60⟩, ⟨.hold, 650, 0⟩, ⟨.ramp, 700, 50⟩, ⟨.soak, 700, 30⟩], ready := 700,
      band := 40 }
    let v : TaskView := {
      now := 105, reading := 500, phi := 500, profile := d, passTime := 1000, leadMargin := 60, hold := false }
    let at' := fun st i => (Task.judged v { task st with stageIndex := i, stageStart := 90 }).urgency
    ((at' .heating 0).stageEstimate, (at' .heating 0).finishEstimate, (at' .heating 0).deadline) = (240, 150, some 790) ∧
      (at' .heating 1).stageEstimate = 45 ∧ ((at' .finishing 4).stageEstimate, (at' .finishing 4).deadline) = (15, some 1000) ∧
      stagesLeft v { task .heating with stageIndex := 0, stageStart := 90 } = 240 ∧ finishRun 500 d = 150 := by decide +kernel

theorem witness_one_task (u : Nat) (x : Task) (h : taskAt u (runAt .heating 0 6100) = some x) : u = 0 :=
  of_entries (runAt .heating 0 6100).plan.tasks (fun u _ => u = 0) (by decide +kernel) u x h

/-- A WARMER's task that passes its finish start in this second with 5 plates required and none loaded. -/
def shortOfPlates : Block :=
  planned .warmer { course 40 .pending with passTime := 101, leadMargin := 0 }
    { task .heating with stageStart := 90, platesRequired := 5 }

theorem witness_plate_test :
    shortOfPlates.runs = true ∧ shortOfPlates.cfg.kind = .warmer ∧ taskAt 0 shortOfPlates =
        some { task .heating with stageStart := 90, platesRequired := 5 } ∧ (task .heating).urgency.plateTest = false ∧
      (taskAt 0 (after (.second warm) shortOfPlates)).map Task.state = some .ready ∧
      causeHeld ⟨.platesShort, 40⟩ (after (.second warm) shortOfPlates) = true ∧
      (taskAt 0 (after (.second warm) (runAt .heating 0 6100))).map Task.state = some .holding := by decide +kernel

theorem witness_one_course (j : Nat) (c : Course) (h : courseAt j shortOfPlates = some c) : j = 0 :=
  of_entries shortOfPlates.plan.courses (fun j _ => j = 0) (by decide +kernel) j c h

/-- Courses at second 101: one whose pass time has come, one whose task is READY with a COURSE_LATE page of this station's. -/
def lateCourse : Block := planned .oven { course 40 .pending with passTime := 101 } (task .heating)
def readyCourse : Block :=
  paged { call 3 .raised none false with cause := ⟨.courseLate, 40⟩ }
    (planned .oven { course 40 .late with lateDue := true } (task .ready))

theorem witness_CoursesFollowTheirTasks :
    lateCourse.runs = true ∧ courseAt 0 lateCourse = some { course 40 .pending with passTime := 101 } ∧
      (courseAt 0 (after (.second (eight (.tenths 640))) lateCourse)).map (fun c => (c.state, c.lateDue)) = some (.late, true) ∧
      readyCourse.runs = true ∧ courseAt 0 readyCourse = some { course 40 .late with lateDue := true } ∧
      (courseAt 0 (after (.second warm) readyCourse)).map (fun c => (c.state, c.allReady)) = some (.ready, true) ∧
      locatePage ⟨.courseLate, 40⟩ readyCourse =
        some (0, { call 3 .raised none false with cause := ⟨.courseLate, 40⟩ }) ∧
      readyCourse.lineTakes = true ∧ isWaiting ⟨.courseLate, 40⟩ readyCourse = false ∧
      listening (lineAt .gap lateCourse) = true ∧ (parseDemand demandBody).isSome = true ∧
      (parseCourse [0, 0, 0, 0]).isSome = true := by decide +kernel

theorem witness_one_late_course (j : Nat) (c : Course) :
    (courseAt j lateCourse = some c → j = 0) ∧ (courseAt j readyCourse = some c → j = 0) :=
  ⟨of_entries lateCourse.plan.courses (fun j _ => j = 0) (by decide +kernel) j c,
    of_entries readyCourse.plan.courses (fun j _ => j = 0) (by decide +kernel) j c⟩

/-- R87, R107: a task whose first stage is the HOLD is HOLDING from its first second. -/
theorem test_first_stage_hold :
    let b := (planned .oven (course 40 .pending) (task .waiting)).onPlan fun p =>
      { p with profiles := p.profiles.set 2 (.direct { stages := [⟨.hold, 650, 0⟩], ready := 700, band := 40 }) }
    (taskAt 0 (after (.second warm) b)).map Task.state = some .holding := by decide +kernel

def anEdit : Edit := { profile := 3, mask := 2, sensor := 1, plates := 0 }
/-- A task with an edit to `profile`, which is another entry, an alias of the task's own, or free. -/
def edited (st : TaskState) (profile : Nat) : Block :=
  (planned .oven (course 40 .pending) { task st with edit := some { anEdit with profile := profile } }).onPlan fun p =>
    { p with profiles := (p.profiles.set 3 heatUp).set 4 (.aliasTo 2) }

/-- R104: a READY task restarted by an edit whose one ramp is over at once places one TASK_STATE event in that second. -/
theorem test_passes_through :
    let b := (edited .ready 5).onPlan fun p =>
      { p with profiles := p.profiles.set 5 (.direct { stages := [⟨.ramp, 500, 100⟩], ready := 700, band := 40 }) }
    (taskAt 0 (after (.second warm) b)).map Task.state = some .ready ∧
      (after (.second warm) b).port.events.length = (after (.second warm) (edited .ready 2)).port.events.length + 1 := by
  decide +kernel

theorem witness_PendingEditsApply :
    ([TaskState.waiting, .heating, .holding, .finishing, .ready].all fun st => [2, 3, 4, 5].all fun q =>
      (edited st q).runs &&
        decide (taskAt 0 (edited st q) = some { task st with edit := some { anEdit with profile := q } })) = true ∧
      resolveProfile 3 (edited .heating 3) = some 3 ∧ resolveProfile 4 (edited .heating 4) = some 2 ∧
      resolveProfile 5 (edited .heating 5) = none ∧ (task .heating).resolved = some 2 ∧ (task .heating).profile = 2 ∧
      (task .heating).mask.getLsbD 0 = true ∧ anEdit.mask.getLsbD 0 = false ∧
      (edited .heating 3).drive.channels.length = 8 ∧ taskAt 0 (edited .faulted 3) ≠ none := by decide +kernel

/-- A TEMP_HOLD of 120 seconds with a rack in the tunnel. -/
def heldLong : Block :=
  (racks [5] (part .dish .active)).onConveyor fun c => { c with state := .tempHold, holdSeconds := 120, runRequest := true }
def advanceOver : Block := (part .dish .active).onConveyor fun c => { c with advance := some 0 }

def hotRinse : Block := (racks [24, 14, 19] (part .dish .active)).onConveyor fun c => { c with rinseTemp := 820 }

theorem witness_PulsesTenthsAndTimeoutsAct :
    heldLong.dishRuns = true ∧ holdDue heldLong = true ∧ heldLong.conveyor.state.holdCode = some 2 ∧
      advanceOver.dishRuns = true ∧ advanceOver.conveyor.advance = some 0 ∧
      hotRinse.dishRuns = true ∧ rinseHot hotRinse = true ∧ (part .dish .active).dishRuns = true ∧
      rinseHot (part .dish .active) = false ∧ hotRinse.conveyor.state ≠ .jammed ∧
      (after .encoderPulse hotRinse).conveyor.state = .jammed := by decide +kernel

/-- A timed hold with its page recorded, its rinse hot or cold, its run request set or not; a jam not yet derived; and the end
of a window with the RINSE channel wanting all of its rating. -/
def holding (hold : ConveyorState) (page : Option Nat) (run : Bool) : Block :=
  (racks [5] (part .dish .active)).onConveyor fun c => { c with state := hold, holdPage := page, runRequest := run }
def dishWindow : Block :=
  ((setChannel 2 { channelAt 2 (part .dish .active) with want := { amount := 90 } } (part .dish .active)).onDrive fun d =>
    { d with ticksDriven := 200 }).onShare fun s => { s with applied := 90 }

theorem witness_ConveyorIsJudged :
    let hot := eight (.tenths 820)
    let moved := after (.second hot) (holding .tempHold (some 2) true)
    let left := after (.second hot) (holding .tempHold (some 2) false)
    let jam := after (.second hot) ((holding .running none true).onConveyor fun c => { c with jammed := true })
    (holding .tempHold (some 2) true).dishRuns = true ∧ hot.length = 8 ∧ moved.conveyor.rinseTemp = 820 ∧
      moved.conveyor.state = .powerHold ∧ moved.conveyor.state.holdCode = some 1 ∧ moved.conveyor.holdPage = some 1 ∧
      left.conveyor.state = .stopped ∧ jam.conveyor.state = .jammed ∧ jam.conveyor.holdPage = some 4 ∧
      (inputSeen (part .dish .active) (eight .openCircuit) 2).status ≠ .ok ∧ dishWindow.dishRuns = true ∧
      dishWindow.drive.ticksDriven = 200 ∧ dishWindow.drive.channels.length = 8 ∧
      (after .burstWindowStart dishWindow).conveyor.speed = 20 ∧
      (∀ c ∈ (holding .tempHold (some 2) true).drive.channels, c.sensor < 8) ∧
      ((part .dish .active).drive.channels.map Channel.sensor).any (0 < ·) = true := by decide +kernel

/-- R144: a manual advance under way loses a second in a hold, and is superseded by a change to RUNNING. -/
theorem test_manual_advance_superseded :
    let b := (holding .powerHold none true).onConveyor fun c => { c with advance := some 10 }
    (after (.second (eight (.tenths 820))) b).conveyor.advance = some 9 ∧
      (after (.second (eight (.tenths 820))) (b.onConveyor fun c => { c with speed := 20 })).conveyor.advance = none := by
  decide +kernel

theorem witness_RacksEnterAndLeave :
    let tracked := racks (List.range 15) (part .dish .active)
    let full := racks (List.range 16) (part .dish .active)
    let untracked := (part .dish .active).onConveyor fun c => { c with untracked := 1 }
    let due := racks [23] (part .dish .active)
    let short := racks [22] (part .dish .active)
    tracked.dishRuns = true ∧ tracked.conveyor.untracked = 0 ∧ tracked.conveyor.queue.length < 16 ∧ full.dishRuns = true ∧
      16 ≤ full.conveyor.queue.length ∧ full.conveyor.state ≠ .entryFault ∧ untracked.dishRuns = true ∧
      0 < untracked.conveyor.untracked ∧ due.dishRuns = true ∧
      (∃ r, due.conveyor.queue = [r] ∧ due.cfg.tunnelLength ≤ r.position + 1) ∧ short.dishRuns = true ∧
      (∀ r rest, short.conveyor.queue = r :: rest → r.position + 1 < short.cfg.tunnelLength) := by
  refine ⟨rfl, rfl, by decide, rfl, by decide, by decide, rfl, by decide, rfl, ⟨_, rfl, by decide⟩, rfl, fun r rest h => ?_⟩
  cases h; decide

/-- Exits that end a jam with its page, and that empty the tunnel in a hold; an entry that supersedes a manual advance; and
R139's rack at L + 1 behind the one that leaves (log 75). -/
theorem witness_exits_end_holds :
    let page := fun code => { call 3 .raised none false with cause := ⟨.rackHold, code⟩ }
    let jam := paged (page 4) ((racks [25] (part .dish .active)).onConveyor fun c =>
      { c with state := .jammed, jammed := true, holdPage := some 4 })
    let last := paged (page 3) ((racks [23] (part .dish .active)).onConveyor fun c =>
      { c with state := .dwellHold, holdPage := some 3, holdSeconds := 120 })
    let full := (racks (List.range 16) (part .dish .active)).onConveyor fun c => { c with advance := some 10 }
    let behind := (racks [25, 25] (part .dish .active)).onConveyor fun c => { c with state := .jammed, jammed := true }
    jam.dishRuns = true ∧ locatePage ⟨.rackHold, 4⟩ jam = some (0, page 4) ∧ jam.lineTakes = true ∧
      (after .exitSensor jam).pages.table.all Option.isNone = true ∧ (after .exitSensor last).conveyor.holdSeconds = 0 ∧
      (after .exitSensor last).conveyor.holdPage = none ∧ (after .exitSensor last).pages.table.all Option.isNone = true ∧
      (after .entrySensor full).conveyor.advance = none ∧ (after .exitSensor behind).conveyor.jammed = false ∧
      (after .encoderPulse (after .exitSensor behind)).conveyor.jammed = false := by decide +kernel

theorem witness_PageTimersAct :
    let e := call 3 .raised (some 100) false
    let d := call 3 .raised none true
    (paged e (part .oven .active)).runs = true ∧ (paged e (part .oven .active)).lineTakes = true ∧
      ackDue 0 (paged e (part .oven .active)) = some e ∧ clearRetryDue 0 (paged d (part .oven .active)) = some d ∧
      (part .oven .active).line.pageQueue.length < 8 ∧ (part .oven .active).pages.retry = [] ∧
      memoryCanonical (part .oven .active) = true := by decide +kernel

/-- An elected base with its radio UP. -/
def elected (g : Pager → Pager) : Block :=
  (paged (call 5 .raised none false) (part .base .active)).onPager fun p => g { p with radio := .up, elected := true }
def sent : SendRecord := { cause := ⟨.staffCall, 7⟩, generation := 2, level := 1, priority := 3, owner := 5 }

theorem witness_RadioRecordsAct :
    let idle := elected fun p => { p with sendList := [⟨.staffCall, 7⟩] }
    let out := elected fun p => { p with outstanding := some sent }
    idle.pagerOn = true ∧ idle.pager.radio = .up ∧ idle.pager.elected = true ∧ idle.pager.outstanding = none ∧
      idle.pager.sendList = [⟨.staffCall, 7⟩] ∧ heldPage ⟨.staffCall, 7⟩ idle = some (call 5 .raised none false) ∧
      out.pagerOn = true ∧ out.pager.outstanding = some sent ∧ causeOf 9 7 = some sent.cause ∧
      (2 : Byte).toNat = sent.generation := by decide +kernel

/-- ACK records for another's page, for an owned one-shot page, for an ACKED one, of another generation, and of no held cause. -/
theorem witness_radio_acks :
    let own := fullPageQueue 6 (paged (call 3 .raised (some 190) false) (part .base .active))
    let acked := paged (call 5 .acked none false) (part .base .active)
    (elected id).pagerOn = true ∧ (elected id).lineTakes = true ∧ (elected id).line.pageQueue.length < 8 ∧
      causeOf 9 7 = some ⟨.staffCall, 7⟩ ∧ locatePage ⟨.staffCall, 7⟩ (elected id) = some (0, call 5 .raised none false) ∧
      (call 5 .raised none false).owner ≠ (elected id).station.strapId ∧
      own.pagerOn = true ∧ own.lineTakes = true ∧ own.line.pageQueue.length = 6 ∧ own.pages.retry = [] ∧
      locatePage ⟨.staffCall, 7⟩ own = some (0, call 3 .raised (some 190) false) ∧ own.station.strapId = 3 ∧
      acked.pagerOn = true ∧ locatePage ⟨.staffCall, 7⟩ acked = some (0, call 5 .acked none false) ∧
      (2 : Byte).toNat = (call 5 .acked none false).generation ∧ (130 : Byte).toNat ≠ (call 5 .acked none false).generation ∧
      (part .base .localOnly).pagerOn = true ∧ causeOf 0 7 = none ∧ locatePage ⟨.staffCall, 8⟩ acked = none := by
  decide +kernel

/-- A DEMAND pending at station 3, its slot 99 next. -/
def slotAhead : Block :=
  (part .oven .active).onLine fun l => { l with position := .cycle, slot := 98, slotBegun := true, demandSlot := true }

theorem witness_SlotsAreReckonedAndTaken :
    slotAhead.runs = true ∧ slotAhead.line.position = .cycle ∧ frameDue slotAhead.line = some .demand ∧
      slotAhead.station.state.transmits = true ∧
      slotOf slotAhead.station.strapId slotAhead.line.lastSender (rankOf .demand) = slotAhead.line.nextSlot ∧
      slotOf 31 (some 31) 3 = 127 ∧ slotOf 0 (some 31) 0 = 0 ∧
      (lineAt .seeking (part .oven .active)).line.position = .seeking ∧
      (part .oven .localOnly).station.state.transmits = false := by decide +kernel

/-- R51, R56: a SHIFT pending before a DEMAND is the one offered; its offset is reckoned at the start of the frame. -/
theorem test_shift_starts :
    let b := slotAhead.onLine fun l =>
      { l with slot := 34, seqShift := 9,
               shiftQueue := [{ tag := 40, version := 2, passTime := 4050, hold := false, attempts := 1 }] }
    frameDue b.line = some .shift ∧ slotOf 3 none (rankOf .shift) = 35 ∧
      (after (.slotStart true) b).line.inFlight.map Flight.bytes =
        some (frameBytes 3 0x20 9 [40, 2, 0x0F, 0x6E, 0]) := by decide +kernel

def flyingPage (attempts : Nat) : Block :=
  (part .oven .active).onLine fun l =>
    { l with position := .transmitting, inFlight := some (flight .page),
             pageQueue := [{ clearFrame ⟨.staffCall, 7⟩ 2 with attempts := attempts }] }

def flyingShift (attempts : Nat) : Block :=
  (part .oven .active).onLine fun l =>
    { l with position := .transmitting, inFlight := some (flight .shift),
             shiftQueue := [{ tag := 40, version := 2, passTime := 500, hold := false, attempts := attempts }] }

/-- The third attempt keeps the frame, the fourth drops it and counts it. -/
theorem witness_TransmissionsCompleteOrCollide :
    (flyingPage 0).runs = true ∧ (flyingPage 0).line.position = .transmitting ∧
      (flyingPage 0).line.inFlight = some (flight .page) ∧
      (after .collision (flyingPage 2)).line.pageQueue.length = 1 ∧ (after .collision (flyingPage 3)).line.pageQueue = [] ∧
      (flyingShift 3).runs = true ∧ (after .collision (flyingShift 2)).line.shiftQueue.length = 1 ∧
      (after .collision (flyingShift 3)).line.shiftQueue = [] ∧
      (after .collision (flyingShift 3)).port.counters.framesDropped = 1 := by decide +kernel

/-- Bodies of admitted lengths that R180 rejects: class 4, a course state above the codes, a hold flag of 2, a level of 3, and
cause kinds that are none. -/
theorem witness_BadFramesAreCountedOnly :
    listening (lineAt .receiving (part .oven .active)) = true ∧ listening (lineAt .cycle (part .oven .active)) = true ∧
      unknownOk 5 0x50 [] = true ∧ unknownOk 31 0x20 (List.replicate 56 0) = true ∧
      (part .oven .active).station.strapId = 3 ∧
      ([(FrameForm.demand, demandBody.set 8 4), (.course, [1, 0, 0, 0, 40, 2, 0, 0, 6, 0]), (.shift, [40, 2, 0, 0, 2]),
        (.raise, [9, 7, 2, 5, 3, 3, 0]), (.ack, [0, 7, 2]), (.clear, [10, 7, 2])].all fun x =>
          x.1.admits x.2.length && (parseBody x.1 x.2).isNone) = true := by decide +kernel

theorem witness_DuplicateIdMakesLocal :
    Instr.demandFrame 3 0 demandBody ∈ framesFrom 3 0 0 demandBody ∧
      Instr.unknownFrame 3 0xFF 9 [] ∈ framesFrom 3 0xFF 9 [] ∧ listening (lineAt .gap (part .oven .isolated)) = true ∧
      (part .oven .isolated).station.state ≠ .localOnly ∧ (3 : Byte).toNat = (part .oven .isolated).station.strapId := by
  decide +kernel

/-- Peer 5 is in the table, its STATION_LOST and CONFIG_MISMATCH pages are this station's. -/
def aboutFive : Block :=
  lineAt .cycle ((setPage 1 (some { call 3 .raised none false with cause := ⟨.configMismatch, 5⟩ })
    (paged { call 3 .raised none false with cause := ⟨.stationLost, 5⟩ } (fullPageQueue 5 (part .oven .active)))).onPeers
      fun _ => [oldPeer])

theorem witness_DemandReplacesItsEntry :
    listening aboutFive = true ∧ FrameForm.demand.admits demandBody.length = true ∧
      (parseDemand demandBody).map Demand.signature = some 0x1234 ∧ aboutFive.station.signature = 7 ∧
      (parseDemand (demandBody.set 0 0 |>.set 1 7)).map Demand.signature = some 7 ∧
      (5 : Byte).toNat ≤ 31 ∧ (5 : Byte).toNat ≠ 3 ∧ missedFrames aboutFive 5 57 = 1 ∧ aboutFive.lineTakes = true ∧
      aboutFive.line.pageQueue.length = 5 ∧
      locatePage ⟨.stationLost, 5⟩ aboutFive = some (0, { call 3 .raised none false with cause := ⟨.stationLost, 5⟩ }) ∧
      locatePage ⟨.configMismatch, 5⟩ aboutFive =
        some (1, { call 3 .raised none false with cause := ⟨.configMismatch, 5⟩ }) ∧
      isWaiting ⟨.stationLost, 5⟩ aboutFive = false ∧ isWaiting ⟨.configMismatch, 5⟩ aboutFive = false := by decide +kernel

theorem witness_one_lost (j : Nat) (x : PageEntry) (h : pageAt j aboutFive = some x) :
    (x.cause = ⟨.stationLost, 5⟩ → j = 0) ∧ (x.cause = ⟨.configMismatch, 5⟩ → j = 1) :=
  of_entries aboutFive.pages.table
    (fun j x => (x.cause = ⟨.stationLost, 5⟩ → j = 0) ∧ (x.cause = ⟨.configMismatch, 5⟩ → j = 1)) (by decide +kernel) j x h

/-- A mismatching DEMAND of sequence 0 that is no restart, from a new sender and from a FRESH one. -/
theorem witness_first_demand_mismatched :
    findPeer 5 (lineAt .gap (part .oven .active)) = none ∧ findPeer 5 aboutFive = some oldPeer ∧ ¬ 3 ≤ oldPeer.age ∧
      causeHeld ⟨.configMismatch, 5⟩ (after (.demandFrame 5 0 demandBody) (lineAt .gap (part .oven .active))) = true := by
  decide +kernel

/-- A COURSE frame that names course 40 twice and a tag not held. -/
def threeItems : List Byte := [3, 0, 0, 0, 40, 2, 0x0F, 0x6E, 1, 0, 99, 7, 0, 0, 2, 0, 40, 3, 0x0F, 0x6E, 2, 1]

theorem witness_CourseFramesReachTheCourses :
    let b := lineAt .gap ((planned .oven (course 40 .pending) (task .heating)).onPlan fun p =>
      { p with courses := p.courses.set 1 (some { course 41 .pending with participants := addId 5 0 }) })
    listening b = true ∧ parseShift [40, 2, 0x0F, 0x6E, 0] = some { tag := 40, version := 2, offset := 3950, hold := false } ∧
      locateCourse 40 b = some (0, course 40 .pending) ∧ newer 2 (course 40 .pending).version = true ∧
      newer 1 (course 40 .pending).version = false ∧ locateCourse 99 b = none ∧
      FrameForm.course.admits threeItems.length = true ∧
      parseCourse threeItems = some
        [{ tag := 40, version := 2, offset := 3950, state := .pending, hold := false },
          { tag := 99, version := 7, offset := 0, state := .ready, hold := false },
          { tag := 40, version := 3, offset := 3950, state := .ready, hold := true }] ∧
      (courseAt 0 (after (.courseFrame 5 1 threeItems) b)).map Course.version = some 3 ∧
      (courseAt 1 (after (.courseFrame 5 1 threeItems) b)).map Course.participants = some 0 := by decide +kernel

/-- A RAISE of staff call 7 at generation 2 by station 5, level 1, priority 3. -/
def raiseSeven : RaiseBody :=
  { cause := ⟨.staffCall, 7⟩, generation := 2, owner := 5, level := 1, priority := 3, adopted := false }

theorem witness_HeardRaiseMakesACopy :
    let b := lineAt .gap (part .oven .active)
    let old := lineAt .gap (paged { call 3 .acked none false with generation := 131 } (part .oven .active))
    let full := lineAt .gap (crowd 5 2 (part .oven .active))
    parseRaise [9, 7, 2, 5, 1, 3, 0] = some raiseSeven ∧
      listening b = true ∧ memoryCanonical b = true ∧ locatePage ⟨.staffCall, 7⟩ b = none ∧ freePage b = some 0 ∧
      (b.memory ⟨.staffCall, 7⟩).state = .never ∧
      listening old = true ∧ newer raiseSeven.generation 131 = true ∧ old.station.state ≠ .localOnly ∧
      locatePage ⟨.staffCall, 7⟩ old = some (0, { call 3 .acked none false with generation := 131 }) ∧
      listening full = true ∧ locatePage ⟨.staffCall, 7⟩ full = none ∧ freePage full = none := by decide +kernel

/-- Of sixteen equal entries the last, which is the oldest, is the one evicted. -/
theorem witness_evicted :
    evicted 15 (crowdEntry 5 2 15) 3
      (lineAt .gap (crowd 5 2 (part .oven .active))) := by
  refine ⟨by decide +kernel, by decide, by decide, ?_⟩
  exact of_entries (lineAt .gap (crowd 5 2 (part .oven .active))).pages.table
    (fun j x => x.owner ≠ 3 → 2 < x.priority ∨ (2 = x.priority ∧ (35 < x.raisedAt ∨ (35 = x.raisedAt ∧ 15 ≤ j))))
    (by decide +kernel)

theorem witness_not_late : ¬ raiseLate raiseSeven (lineAt .gap (part .oven .active)) := fun h => absurd h.1 (by decide)

/-- The entry of the frame's generation, this station's and a higher id's; a late frame; an older one; LOCAL; a full table. -/
theorem witness_HeardRaiseMeetsItsEntry :
    let own := lineAt .gap (paged (call 3 .acked none false) (part .oven .active))
    let theirs := lineAt .gap (paged (call 6 .raised none false) (elected id))
    let newerHeld := lineAt .gap (paged { call 3 .raised none false with generation := 3 } (part .oven .active))
    let loc := lineAt .gap (paged (call 3 .raised none false) (part .oven .localOnly))
    listening own = true ∧ locatePage ⟨.staffCall, 7⟩ own = some (0, call 3 .acked none false) ∧
      (call 3 .acked none false).generation = raiseSeven.generation ∧ own.station.strapId < raiseSeven.owner ∧
      own.line.pageQueue.length < 7 ∧
      listening theirs = true ∧ theirs.pager.elected = true ∧
      locatePage ⟨.staffCall, 7⟩ theirs = some (0, call 6 .raised none false) ∧
      locatePage ⟨.staffCall, 7⟩ newerHeld = some (0, { call 3 .raised none false with generation := 3 }) ∧
      newer 2 3 = false ∧ listening loc = true ∧
      locatePage ⟨.staffCall, 7⟩ loc = some (0, call 3 .raised none false) := by decide +kernel

theorem witness_late_or_dropped :
    let late := remembering ⟨.staffCall, 7⟩ ⟨.cleared, 2, 0⟩ (lineAt .gap (part .oven .active))
    let full := lineAt .gap (crowd 5 3 (part .oven .active))
    raiseLate raiseSeven late ∧ locatePage ⟨.staffCall, 7⟩ late = none ∧ memoryCanonical late = true ∧
      locatePage ⟨.staffCall, 7⟩ full = none ∧ freePage full = none ∧
      (∀ i e, pageAt i full = some e → e.owner = full.station.strapId ∨ raiseSeven.priority ≤ e.priority) := by
  refine ⟨⟨by decide +kernel, .inr (by decide +kernel)⟩, by decide +kernel, by decide +kernel, by decide +kernel,
    by decide +kernel, ?_⟩
  exact of_entries (lineAt .gap (crowd 5 3 (part .oven .active))).pages.table
    (fun _ e => e.owner = 3 ∨ raiseSeven.priority ≤ e.priority) (by decide +kernel)

/-- Another's page and an owned one-shot page, with the PAGE queue empty and full; CLEARs of the entry's generation, 127 newer
and 1 older; LOCAL. -/
theorem witness_HeardAckAndClear :
    let b := lineAt .gap (paged (call 5 .raised none false) (part .oven .active))
    let own := lineAt .gap (paged (call 3 .raised none false) (fullPageQueue 7 (part .oven .active)))
    let full := lineAt .gap (paged (call 3 .raised none false) (fullPageQueue 8 (part .oven .active)))
    let loc := lineAt .gap (paged (call 3 .acked none false) (part .oven .localOnly))
    listening b = true ∧ causeOf 9 7 = some ⟨.staffCall, 7⟩ ∧ memoryCanonical b = true ∧
      locatePage ⟨.staffCall, 7⟩ b = some (0, call 5 .raised none false) ∧ b.pages.retry = [] ∧
      at1 [9, 7, 2] 2 = (call 5 .raised none false).generation ∧ newer (at1 [9, 7, 129] 2) 2 = true ∧
      newer 2 (at1 [9, 7, 1] 2) = true ∧
      listening own = true ∧ locatePage ⟨.staffCall, 7⟩ own = some (0, call 3 .raised none false) ∧
      own.line.pageQueue.length < 8 ∧ (call 3 .raised none false).oneShot = true ∧ 8 ≤ full.line.pageQueue.length ∧
      listening loc = true ∧ locatePage ⟨.staffCall, 7⟩ loc = some (0, call 3 .acked none false) := by decide +kernel

/-- R59: of pending frames about one page, those the frame just heard overrules are withdrawn, and the others stay in order. -/
theorem test_withdrawal :
    let about := fun sub g => ({ sub := sub, cause := ⟨.staffCall, 7⟩, generation := g, owner := 5, attempts := 1 } : PageFrame)
    let b := (lineAt .gap (paged (call 5 .raised none false) (part .oven .active))).onLine fun l =>
      { l with pageQueue := [about .raise 2, about .ack 2, about .clear 1, about .clear 3] }
    ((after (.pageAckFrame 5 1 [9, 7, 2]) b).line.pageQueue.map fun f => (f.sub, f.generation)) =
        [(.raise, 2), (.clear, 1), (.clear, 3)] ∧
      ((after (.pageClearFrame 5 1 [9, 7, 2]) b).line.pageQueue.map fun f => (f.sub, f.generation)) = [(.clear, 3)] ∧
      ((after (.pageRaiseFrame 4 1 [9, 7, 2, 4, 1, 3, 0]) b).line.pageQueue.map fun f => (f.sub, f.generation)) =
        [(.ack, 2), (.clear, 3)] := by decide +kernel

/-- R59: a pending SHIFT of version 9 goes when its course has adopted version 10 from the line, and stays at version 9. -/
theorem test_shift_withdrawal :
    let b := (lineAt .gap (planned .oven (course 40 .pending) (task .waiting))).onLine fun l =>
      { l with shiftQueue := [{ tag := 40, version := 9, passTime := 500, hold := false, attempts := 1 }] }
    (after (.shiftFrame 5 1 [40, 10, 0, 9, 0]) b).line.shiftQueue = [] ∧
      (after (.shiftFrame 5 1 [40, 9, 0, 9, 0]) b).line.shiftQueue.length = 1 := by decide +kernel

/-- R157: a copy first made at level 2 and evicted is made again, of a RAISE at level 0 of its generation, at level 2. -/
theorem test_level_survives_eviction :
    let full := (lineAt .gap (part .oven .active)).onPages fun g =>
      { g with table := (none :: ((List.range 15).map fun i => some (crowdEntry 3 3 i))) }
    let made := after (.pageRaiseFrame 5 1 [9, 7, 2, 5, 2, 1, 0]) full
    let gone := lineAt .gap (after (.pageRaiseFrame 5 2 [9, 8, 0, 5, 0, 3, 0]) (lineAt .gap made))
    let freed := lineAt .gap (after (.pageClearFrame 5 3 [9, 8, 0]) gone)
    (heldPage ⟨.staffCall, 7⟩ gone).isNone = true ∧
      (heldPage ⟨.staffCall, 7⟩ (after (.pageRaiseFrame 6 1 [9, 7, 2, 6, 0, 1, 0]) freed)).map PageEntry.level = some 2 := by
  decide +kernel

/-- A full table with no raise waiting, with one of the cause waiting, and with four others; a CLEAR that frees an entry of it. -/
theorem witness_LocalRaisesEnterMergeOrWait :
    let full := lineAt .gap (crowd 5 2 (part .oven .active))
    let joined := full.onPages fun p => { p with retry := [owed ⟨.staffCall, 7⟩ 255] }
    let lost := full.onPages fun p => { p with retry := List.replicate 4 (owed ⟨.rackHold, 1⟩ 1) }
    let held := paged (call 5 .raised none false) (part .oven .active)
    full.portAnswers = true ∧ full.station.state.works = true ∧ locatePage (staffCause 7) full = none ∧
      freePage full = none ∧ isWaiting (staffCause 7) full = false ∧ isWaiting (staffCause 7) joined = true ∧
      isWaiting (staffCause 7) lost = false ∧ 4 ≤ lost.pages.retry.length ∧
      locatePage (staffCause 7) held = some (0, call 5 .raised none false) ∧
      listening joined = true ∧ causeOf 9 115 = some ⟨.staffCall, 115⟩ ∧
      locatePage ⟨.staffCall, 115⟩ joined =
        some (15, crowdEntry 5 2 15) ∧
      joined.pages.retry = owed ⟨.staffCall, 7⟩ 255 :: [] ∧ causeKey ⟨.staffCall, 7⟩ ≠ causeKey ⟨.staffCall, 115⟩ := by
  decide +kernel

/-- Answers in INIT and HALTED, and in a working state; a code that is not NONE's. -/
theorem witness_port_answers :
    (part .oven .initial).portAnswers = true ∧ (part .oven .initial).station.state.works = false ∧
      (part .oven .halted).portAnswers = true ∧ (part .oven .halted).station.state.works = false ∧
      (part .oven .localOnly).portAnswers = true ∧ (part .oven .localOnly).station.state.works = true ∧
      Selector.ofCode 0 = some .peer ∧ Selector.ofCode 6 = some .channel ∧ (255 : Byte) ≠ 0 := by decide +kernel

theorem witness_ReadsAnswerWithTheirRecords :
    (offer (.radioState .up) (part .base .active)).port.events.length = 1 ∧ (part .base .active).port.events = [] := by
  decide +kernel

/-- R84: READ TABLE shows the want of an OPEN channel as set, and the 0 that the Load Share Unit reads beside it. -/
theorem test_channel_row :
    let c : Channel := { fitted := true, rated := 80, role := .heat, health := .opened, want := { amount := 70 } }
    (channelRow c).length = 22 ∧ (channelRow c).drop 16 = [0, 70, 0, 0, 0, 0] := by decide +kernel

/-- R91: the target of an alias that a locked course's task names is locked once the task has resolved to it (log 77). -/
theorem test_alias_target_locked_once_resolved :
    let locked := { course 40 .pending with lock := true }
    let named := fun r : Option Nat =>
      (planned .oven locked { task .waiting with profile := 4, resolved := r }).onPlan fun p =>
        { p with profiles := p.profiles.set 4 (.aliasTo 2) }
    profileLocked 4 (named none) = true ∧ profileLocked 2 (named none) = false ∧ profileLocked 2 (named (some 2)) = true := by
  decide +kernel

/-- Profile 31 is free to take; 2 is a running task's, its course locked or not; 32 is no entry. -/
theorem witness_ProfilesReplacedAndFreed :
    let b := planned .oven (course 40 .pending) (task .heating)
    let locked := planned .oven { course 40 .pending with lock := true } (task .heating)
    let idle := planned .oven (course 40 .pending) (task .waiting)
    (profileOf (.aliasTo 31)).isSome = true ∧
      firstReason (postProfileChecks 31 (.aliasTo 31) b) none ∧
      firstReason (postProfileChecks 2 (.aliasTo 31) locked) (some .locked) ∧
      firstReason (postProfileChecks 2 (.aliasTo 31) b) (some .inUse) ∧
      firstReason (postProfileChecks 32 (.aliasTo 31) b) (some .badValue) ∧
      firstReason (deleteProfileChecks 2 idle) none ∧ firstReason (deleteProfileChecks 2 locked) (some .locked) ∧
      firstReason (deleteProfileChecks 2 b) (some .inUse) ∧ firstReason (deleteProfileChecks 31 b) (some .badRef) := by
  have isLocked : lockedProfile 2 (planned .oven { course 40 .pending with lock := true } (task .heating)) :=
    ⟨0, _, _, rfl, .inl rfl, rfl, rfl⟩
  have isUsed : usedProfile 2 (planned .oven (course 40 .pending) (task .heating)) := ⟨⟨_, rfl⟩, 0, _, rfl, rfl, rfl⟩
  exact ⟨by decide, .inr ⟨by decide, .inr ⟨not_lockedProfile (.inl rfl), .inr ⟨not_usedProfile (.inr (by decide)), rfl⟩⟩⟩,
    .inr ⟨by decide, .inl ⟨isLocked, rfl⟩⟩,
    .inr ⟨by decide, .inr ⟨not_lockedProfile (.inl rfl), .inl ⟨isUsed, rfl⟩⟩⟩, .inl ⟨by decide, rfl⟩,
    .inr ⟨by decide, .inr ⟨by decide, .inr ⟨not_lockedProfile (.inl rfl), .inr ⟨not_usedProfile (.inl rfl), rfl⟩⟩⟩⟩,
    .inr ⟨by decide, .inr ⟨by decide, .inl ⟨isLocked, rfl⟩⟩⟩,
    .inr ⟨by decide, .inr ⟨by decide, .inr ⟨not_lockedProfile (.inl rfl), .inl ⟨isUsed, rfl⟩⟩⟩⟩,
    .inr ⟨by decide, .inl ⟨by decide, rfl⟩⟩⟩

theorem witness_CoursesArePostedLockedAndDeleted :
    let b := planned .oven (course 40 .passed) (task .passed)
    courseIndex 41 b = none ∧ freeCourse b = some 1 ∧ courseTasks 1 b = [] ∧ (900 : Word16).toNat ≤ 900 ∧
      locateCourse 40 b = some (0, course 40 .passed) ∧ (course 40 .passed).state = .passed ∧ locateCourse 41 b = none := by
  decide +kernel

/-- Eight courses stand; 40 is among them, and a margin of 901 s is out of range; a PENDING course is not deleted. -/
def eightCourses : Block :=
  (planned .oven (course 40 .pending) (task .waiting)).onPlan fun p =>
    { p with courses := (List.range 8).map fun i => some (course (40 + i) .pending) }

theorem witness_courses_refused :
    firstReason [((∃ m, (none : Option Word16) = some m ∧ 900 < m.toNat) ∨ locateCourse 99 eightCourses ≠ none, .badValue),
        (∀ e ∈ eightCourses.plan.courses, e ≠ none, .tableFull)] (some .tableFull) ∧
      locateCourse 40 eightCourses ≠ none ∧ 900 < (901 : Word16).toNat ∧ (course 40 .pending).state ≠ .empty ∧
      (course 40 .pending).state ≠ .passed ∧ courseAt 0 eightCourses = some (course 40 .pending) := by
  refine ⟨.inr ⟨?_, .inl ⟨by decide +kernel, rfl⟩⟩, by decide +kernel, by decide, by decide, by decide, by decide +kernel⟩
  rintro (⟨m, h, -⟩ | h)
  · cases h
  · exact h (by decide +kernel)

/-- R92, R130: the pages of PLATES_SHORT and COURSE_LATE that go with a deleted course. -/
theorem witness_delete_resolves :
    let page := fun k => { call 3 .raised none false with cause := ⟨k, 40⟩ }
    let b := setPage 1 (some (page .courseLate)) (paged (page .platesShort)
      (planned .oven (course 40 .passed) (task .passed)))
    b.portAnswers = true ∧ locatePage ⟨.platesShort, 40⟩ b = some (0, page .platesShort) ∧
      locatePage ⟨.courseLate, 40⟩ b = some (1, page .courseLate) ∧ b.lineTakes = true ∧ memoryCanonical b = true ∧
      (after (.deleteCourse 40) b).pages.table.all Option.isNone = true := by decide +kernel

def shiftsFor (tags : List Nat) (b : Block) : Block :=
  b.onLine fun l => { l with
    shiftQueue := tags.map fun t => { tag := t, version := 9, passTime := 500, hold := false, attempts := 1 } }

theorem witness_ShiftCourseAdvancesVersion :
    let b := planned .oven { course 40 .pending with version := 255 } (task .waiting)
    (locateCourse 40 b).isSome = true ∧ b.station.state ≠ .localOnly ∧ 1 < (2 : Byte).toNat ∧ locateCourse 41 b = none ∧
      (shiftsFor [41, 42] b).line.shiftQueue.length = 2 ∧
      (∀ y ∈ (shiftsFor [41, 42] b).line.shiftQueue, y.tag ≠ 40) ∧ b.port.counters.framesDropped < 65535 ∧
      ((after (.shiftCourse 40 9 0) (shiftsFor [41, 42] b)).line.shiftQueue.map ShiftEntry.tag) = [42, 40] ∧
      ((after (.shiftCourse 40 9 0) (shiftsFor [40, 42] b)).line.shiftQueue.map ShiftEntry.tag) = [40, 42] ∧
      ((after (.shiftCourse 40 9 0) (shiftsFor [40, 40] b)).line.shiftQueue.map ShiftEntry.version) = [0, 9] := by
  decide +kernel

theorem witness_TasksArePostedEditedAndLoaded :
    let b := planned .warmer (course 40 .pending) (task .heating)
    b.cfg.kind = .warmer ∧ taskPlace b = some 1 ∧ (channelsOwned b = true ∧ tablesSized b = true ∧ b.portAnswers = true) ∧
      firstReason (postTaskChecks 40 31 2 7 999 b) none ∧ firstReason (editTaskChecks 0 31 3 7 999 b) none ∧
      firstReason (setPlatesChecks 0 999 b) none := by
  refine ⟨by decide, by decide +kernel, by decide +kernel, ?_, ?_, ?_⟩
  · exact .inr ⟨not_fieldsBad (by decide) (by decide) (by decide) (by decide) (by decide), .inr ⟨fun h => h.2 rfl,
      .inr ⟨by decide, .inr ⟨(fun ⟨i, c, h, hl⟩ => by cases h; cases hl), .inr ⟨(fun ⟨i, c, h, hl⟩ => by cases h; cases hl),
      .inr ⟨not_heldByOther (.inl (by decide)),
      .inr ⟨(fun h => by obtain ⟨k, hk, -⟩ := h none (by decide +kernel); cases hk), rfl⟩⟩⟩⟩⟩⟩⟩
  · exact .inr ⟨(fun h => h.elim (by decide)
        (not_fieldsBad (by decide) (by decide) (by decide) (by decide) (by decide))),
      .inr ⟨fun h => h.2 rfl, .inr ⟨nofun, .inr ⟨not_courseLocked rfl 0,
      .inr ⟨(fun ⟨k, hk, hs⟩ => by cases hk; rcases hs with hs | hs | hs <;> cases hs),
      .inr ⟨not_heldByOther (.inr rfl), rfl⟩⟩⟩⟩⟩⟩
  · exact .inr ⟨by decide, .inr ⟨by decide, .inr ⟨nofun, .inr ⟨(fun ⟨k, hk, hs⟩ => by cases hk; cases hs), rfl⟩⟩⟩⟩

/-- Each reason of POST TASK: mask 4 names the RINSE channel, plates in an OVEN, no course 41, a lock, a passed course, the mask
of the running task, and a table of 24 tasks. -/
theorem witness_task_posts_refused :
    let b := planned .oven (course 40 .pending) (task .heating)
    let full := b.onPlan fun p => { p with tasks := List.replicate 24 (some (task .passed)) }
    firstReason (postTaskChecks 40 31 4 7 0 b) (some .badValue) ∧ firstReason (postTaskChecks 40 31 2 7 1 b) (some .wrongKind) ∧
      firstReason (postTaskChecks 41 31 2 7 0 b) (some .badRef) ∧
      firstReason (postTaskChecks 40 31 2 7 0 (planned .oven { course 40 .pending with lock := true } (task .heating)))
        (some .locked) ∧
      firstReason (postTaskChecks 40 31 2 7 0 (planned .oven { course 40 .pending with passed := true } (task .heating)))
        (some .wrongState) ∧
      firstReason (postTaskChecks 40 31 3 7 0 b) (some .channelBusy) ∧
      firstReason (postTaskChecks 40 31 2 7 0 full) (some .tableFull) := by
  have good : ∀ (c : Course) (m : Mask8), m ≠ 0 → m &&& 0xFC = 0 →
      ¬ fieldsBad 31 m 7 0 (planned .oven c (task .heating)) := fun c m h0 h =>
    not_fieldsBad (by decide) h0 h (by decide) (by decide)
  refine ⟨.inl ⟨.inr (.inr (.inl ⟨2, by decide, by decide⟩)), rfl⟩,
    .inr ⟨not_fieldsBad (by decide) (by decide) (by decide) (by decide) (by decide), .inl ⟨⟨by decide, by decide⟩, rfl⟩⟩,
    .inr ⟨good _ 2 (by decide) (by decide), .inr ⟨fun h => absurd h.1 (by decide), .inl ⟨by decide, rfl⟩⟩⟩,
    .inr ⟨good _ 2 (by decide) (by decide), .inr ⟨fun h => absurd h.1 (by decide), .inr ⟨by decide, .inl ⟨⟨0, _, rfl, rfl⟩, rfl⟩⟩⟩⟩,
    .inr ⟨good _ 2 (by decide) (by decide), .inr ⟨fun h => absurd h.1 (by decide), .inr ⟨by decide,
      .inr ⟨(fun ⟨i, c, h, hl⟩ => by cases h; cases hl), .inl ⟨⟨0, _, rfl, rfl⟩, rfl⟩⟩⟩⟩⟩,
    .inr ⟨good _ 3 (by decide) (by decide), .inr ⟨fun h => absurd h.1 (by decide), .inr ⟨by decide,
      .inr ⟨(fun ⟨i, c, h, hl⟩ => by cases h; cases hl), .inr ⟨(fun ⟨i, c, h, hl⟩ => by cases h; cases hl),
      .inl ⟨⟨0, 0, _, by decide, rfl, by decide, nofun⟩, rfl⟩⟩⟩⟩⟩⟩,
    .inr ⟨good (course 40 .pending) 2 (by decide) (by decide), .inr ⟨fun h => absurd h.1 (by decide), .inr ⟨by decide,
      .inr ⟨(fun ⟨i, c, h, hl⟩ => by cases h; cases hl), .inr ⟨(fun ⟨i, c, h, hl⟩ => by cases h; cases hl), .inr ⟨?_,
      .inl ⟨?_, rfl⟩⟩⟩⟩⟩⟩⟩⟩
  · rintro ⟨j, u, x, -, hu, hx, -⟩
    have : x = task .passed :=
      of_entries (List.replicate 24 (some (task .passed))) (fun _ x => x = task .passed) (by decide) u x hu
    subst this
    exact absurd hx (by simp [Task.holds, task, TaskState.live])
  · intro e he
    exact ⟨_, List.eq_of_mem_replicate he, by decide⟩

/-- EDIT TASK, CANCEL TASK and SET PLATES: a locked course, a state that allows none of them, another's channel. -/
theorem witness_task_changes_refused :
    let locked := planned .oven { course 40 .pending with lock := true } (task .heating)
    let ended := planned .oven (course 40 .pending) (task .cancelled)
    let two := (planned .oven (course 40 .pending) (task .heating)).onPlan fun p =>
      { p with tasks := p.tasks.set 1 (some { task .waiting with mask := 2 }) }
    firstReason (editTaskChecks 0 31 1 7 0 locked) (some .locked) ∧ firstReason (cancelTaskChecks 0 locked) (some .locked) ∧
      firstReason (editTaskChecks 0 31 1 7 0 ended) (some .wrongState) ∧
      firstReason (cancelTaskChecks 0 ended) (some .wrongState) ∧
      firstReason (setPlatesChecks 0 999 (planned .warmer (course 40 .pending) (task .cancelled))) (some .wrongState) ∧
      firstReason (setPlatesChecks 0 999 ended) (some .wrongKind) ∧ firstReason (cancelTaskChecks 23 ended) (some .badRef) ∧
      firstReason (cancelTaskChecks 24 ended) (some .badValue) ∧
      (heldByOther 3 (some 0) two ∧ channelsOwned two = true ∧ tablesSized two = true ∧ two.portAnswers = true) := by
  have good : ∀ c k, ¬ ((23 < (0 : Byte).toNat) ∨ fieldsBad 31 1 7 0 (planned .oven c k)) := by
    rintro c k (h | h)
    · exact absurd h (by decide)
    · exact not_fieldsBad (by decide) (by decide) (by decide) (by decide) (by decide) h
  refine ⟨.inr ⟨good _ _, .inr ⟨fun h => absurd h.1 (by decide), .inr ⟨nofun, .inl ⟨⟨_, _, rfl, rfl, rfl⟩, rfl⟩⟩⟩⟩,
    .inr ⟨by decide, .inr ⟨nofun, .inl ⟨⟨_, _, rfl, rfl, rfl⟩, rfl⟩⟩⟩,
    .inr ⟨good _ _, .inr ⟨fun h => absurd h.1 (by decide), .inr ⟨nofun, .inr ⟨not_courseLocked rfl 0,
      .inl ⟨⟨_, rfl, .inr (.inr rfl)⟩, rfl⟩⟩⟩⟩⟩,
    .inr ⟨by decide, .inr ⟨nofun, .inr ⟨not_courseLocked rfl 0, .inl ⟨⟨_, rfl, .inr rfl⟩, rfl⟩⟩⟩⟩,
    .inr ⟨by decide, .inr ⟨by decide, .inr ⟨nofun, .inl ⟨⟨_, rfl, rfl⟩, rfl⟩⟩⟩⟩,
    .inr ⟨by decide, .inl ⟨by decide, rfl⟩⟩, .inr ⟨by decide, .inl ⟨by decide, rfl⟩⟩, .inl ⟨by decide, rfl⟩,
    ⟨1, 1, _, by decide, rfl, by decide, by decide⟩, by decide +kernel, by decide +kernel, by decide +kernel⟩

/-- PLATES_SHORT of course 40 is this station's: 5 plates are what its one task requires, 4 are not. -/
def awaitingPlates : Block :=
  paged { call 3 .raised none false with cause := ⟨.platesShort, 40⟩ }
    (planned .warmer (course 40 .pending) { task .heating with platesRequired := 5 })

theorem witness_plates_arrive :
    awaitingPlates.portAnswers = true ∧ courseAt 0 awaitingPlates = some (course 40 .pending) ∧
      locatePage ⟨.platesShort, 40⟩ awaitingPlates =
        some (0, { call 3 .raised none false with cause := ⟨.platesShort, 40⟩ }) ∧
      awaitingPlates.lineTakes = true ∧ isWaiting ⟨.platesShort, 40⟩ awaitingPlates = false ∧
      memoryCanonical awaitingPlates = true ∧ causeHeld ⟨.platesShort, 40⟩ (after (.setPlates 0 5) awaitingPlates) = false ∧
      causeHeld ⟨.platesShort, 40⟩ (after (.setPlates 0 4) awaitingPlates) = true := by decide +kernel

theorem witness_TasksEndAndReleaseChannels :
    let b := planned .oven (course 40 .pending) (task .heating)
    firstReason (cancelTaskChecks 0 b) none ∧ (task .heating).state.live = true ∧
      (task .heating).holds.getLsbD 0 = true ∧ locateCourse 40 b = some (0, course 40 .pending) ∧
      (course 40 .pending).passed = false ∧
      locateCourse 40 (planned .oven { course 40 .passed with passed := true } (task .passed)) =
        some (0, { course 40 .passed with passed := true }) := by
  refine ⟨.inr ⟨by decide, .inr ⟨nofun, .inr ⟨not_courseLocked rfl 0, .inr ⟨?_, rfl⟩⟩⟩⟩, by decide, by decide, rfl, rfl, rfl⟩
  rintro ⟨k, hk, hs⟩
  cases hk
  rcases hs with hs | hs <;> cases hs

/-- An owned page with the PAGE queue at seven, at eight, and in LOCAL; another's page stands beside it. -/
theorem witness_PlanClearEmptiesThePlan :
    let page := fun (n : Nat) (st : StationState) =>
      paged (call 3 .raised none false) (fullPageQueue n (part .oven st))
    ([(7, StationState.active), (8, .active), (0, .localOnly)].all fun x =>
      (page x.1 x.2).portAnswers && (page x.1 x.2).station.state.works &&
        decide (locatePage ⟨.staffCall, 7⟩ (page x.1 x.2) = some (0, call 3 .raised none false)) &&
        decide ((page x.1 x.2).pages.retry = []) && decide ((page x.1 x.2).line.pageQueue.length = x.1) &&
        decide ((((page x.1 x.2).pages.table.filterMap id).filter fun e => decide (e.owner = 3)).length = 1)) = true ∧
      pageAt 0 (paged (call 5 .raised none false) (part .oven .active)) = some (call 5 .raised none false) := by
  decide +kernel

theorem witness_staff_calls :
    let b := paged (call 3 .raised (some 190) false) (part .base .active)
    heldPage (staffCause 8) b = none ∧ (freePage b).isSome = true ∧
      locatePage (staffCause 7) b = some (0, call 3 .raised (some 190) false) ∧ b.line.pageQueue.length < 8 ∧
      b.pages.retry = [] := by decide +kernel

/-- Calls out of range, one of another station's, and the RACK LOADED fields out of range. -/
theorem witness_calls_and_racks_refused :
    (0 : Byte).toNat = 0 ∧ 3 < (4 : Byte).toNat ∧ 2 < (3 : Byte).toNat ∧
      heldPage (staffCause 7) (paged (call 5 .raised none false) (part .base .active)) = some (call 5 .raised none false) ∧
      (call 5 .raised none false).owner ≠ (part .base .active).station.strapId ∧
      LoadKind.ofCode (200 : Byte).toNat = none ∧ 60 < (61 : Byte).toNat ∧ LoadKind.ofCode 1 ≠ some .plates := by decide

theorem witness_ClearFaultMendsChannel :
    let fault := { call 3 .raised none false with cause := ⟨.elementFault, 24⟩ }
    let b := paged fault (setChannel 0 { channelAt 0 (part .oven .active) with health := .opened } (part .oven .active))
    locatePage ⟨.elementFault, 24⟩ b = some (0, fault) ∧ b.lineTakes = true ∧ isWaiting ⟨.elementFault, 24⟩ b = false ∧
      memoryCanonical b = true ∧ (channelAt 0 b).fitted = true ∧ (channelAt 0 b).healthy = false ∧ (channelAt 1 b).fitted = true ∧
      (channelAt 1 b).healthy = true ∧ (channelAt 7 b).fitted = false := by decide +kernel

theorem witness_ConveyorCommandsAct :
    (part .dish .active).portAnswers = true ∧ (part .dish .active).cfg.kind = .dish ∧
      (part .oven .active).cfg.kind ≠ .dish ∧ LoadKind.ofCode 0 = some .plates ∧ (60 : Byte).toNat ≤ 60 ∧
      (part .dish .active).conveyor.state = .stopped ∧ (part .dish .active).conveyor.advance = none ∧
      (part .dish .active).conveyor.untracked = 0 := by decide +kernel

/-- The head rack, with racks untracked and without; a rack behind it; the last rack, in a hold; NONE with and without
untracked racks; no code of presence. -/
theorem witness_RackRemovedTakesHeadOrUntracked :
    let two := racks [5, 2] (part .dish .active)
    let page := { call 3 .raised none false with cause := ⟨.rackHold, 3⟩ }
    let one := paged page ((racks [5] (part .dish .active)).onConveyor fun c =>
      { c with state := .dwellHold, holdPage := some 3 })
    let untracked := two.onConveyor fun c => { c with untracked := 255 }
    two.conveyor.queue.map Rack.number = [5, 2] ∧ two.conveyor.untracked = 0 ∧ untracked.conveyor.untracked = 255 ∧
      one.conveyor.queue.length = 1 ∧ one.conveyor.state.timedHold = true ∧ two.portAnswers = true ∧
      one.conveyor.holdPage = some 3 ∧ locatePage ⟨.rackHold, 3⟩ one = some (0, page) ∧ one.lineTakes = true ∧
      isWaiting ⟨.rackHold, 3⟩ one = false ∧ memoryCanonical one = true ∧
      (∀ x ∈ two.conveyor.queue, x.number ≠ (9 : Byte).toNat) ∧ (2 : Byte) ≠ 0 ∧ (2 : Byte) ≠ 1 := by decide +kernel

theorem witness_SettingsAreWrittenWhole :
    (part .oven .halted).portAnswers = true ∧ ovenBlock.length = 51 ∧
      (after (.writeSettings ovenBlock) (part .oven .halted)).store.writing = some { block := ovenBlock, number := 0 } := by
  decide +kernel

theorem witness_RecordsAndFramesReadBack :
    Instr.wf (.setPlates 23 999) = true ∧ encodeCommand (.setPlates 23 999) = some [17, 3, 23, 0x03, 0xE7] ∧
      5 + (none : Option Response).elim 0 (fun r => r.data.length) ≤ [17, 3, 23, 0x03, 0xE7].length ∧
      Instr.wf (.shiftFrame 5 9 [40, 2, 0x0F, 0x6E, 0]) = true ∧
      encodeLine (.shiftFrame 5 9 [40, 2, 0x0F, 0x6E, 0]) = some [0x9D, 5, 0x20, 9, 5, 40, 2, 0x0F, 0x6E, 0, 0x9F, 0xFE] ∧
      encodeRadio (.takenRecord 9 7 2) = some [3, 3, 9, 7, 2, 0x43, 0x46] := by decide +kernel

/-- A state that has every invariant, and a step from it. -/
def lively : State :=
  { block := (racks [4] (paged (call 5 .raised none false) (planned .dish (course 40 .pending) (task .heating)))).onConveyor
      fun c => { c with loaded := 20 },
    pending := [.entrySensor] }

theorem witness_invariants :
    queuesBounded lively.block = true ∧ tablesSized lively.block = true ∧ memoryCanonical lively.block = true ∧
      grantWithin lively.block = true ∧ talliesBalance lively.block.conveyor = true ∧ channelsOwned lively.block = true ∧
      peersOrdered lively.block = true ∧ pagesDistinct lively.block = true ∧
      step lively = .next { block := after .entrySensor lively.block, pending := [] } := by
  refine ⟨?_, ?_, ?_, ?_, ?_, ?_, ?_, ?_, rfl⟩ <;> decide +kernel

theorem witness_ConveyorStateStaysDerived : conveyorFollows lively.block :=
  ⟨fun h => absurd h (by decide), fun _ _ => by decide +kernel⟩

theorem witness_LocalAndHaltedAreLeftOnlyByAStart :
    let s : State := { block := part .oven .localOnly, pending := [.powerOn 9] }
    s.block.station.state = .localOnly ∧ step s = .next { block := after (.powerOn 9) s.block, pending := [] } :=
  ⟨rfl, rfl⟩

/-- A settings write's end changes the store; the statements about the port and the grant are met by any step. -/
theorem witness_PortAndStoreChangeByTheirCommandsOnly :
    let b := after (.writeSettings ovenBlock) (part .oven .halted)
    portOrStart .round = false ∧ (after .settingsWriteDone b).store.block ≠ b.store.block := by decide +kernel

theorem witness_GrantMovesOnlyAtRounds :
    let b := (lineAt .gap (part .oven .active)).onShare fun s => { s with applied := 90 }
    (after (.demandFrame 3 0 demandBody) b).share.applied = 60 := by decide +kernel

theorem witness_OnlySlotStartTransmits :
    step { block := slotAhead, pending := [.slotStart true] } = .next { block := after (.slotStart true) slotAhead, pending := [] } ∧
      (after (.slotStart true) slotAhead).line.position = .transmitting := ⟨rfl, by decide +kernel⟩

end Sys2Proof.Tests
end

section
/-! PROOFS. Station Control and the Load Share Unit stand under every operation that is not a round, a start or an entry to LOCAL. -/

namespace Sys2Proof.Machine

/-! ## Pages -/

@[simp] theorem learn_station_share (c : Cause) (g : Nat) (x : Bool) (b : Block) :
    (learn c g x b).station = b.station ∧ (learn c g x b).share = b.share := by
  simp [learn]

@[simp] theorem copyAt_station_share (i : Nat) (f : RaiseBody) (b : Block) :
    (copyAt i f b).station = b.station ∧ (copyAt i f b).share = b.share := by
  simp [copyAt]

@[simp] theorem mergeRaise_station_share (i : Nat) (e : PageEntry) (f : RaiseBody) (b : Block) :
    (mergeRaise i e f b).station = b.station ∧ (mergeRaise i e f b).share = b.share := by
  unfold mergeRaise
  dsimp only
  repeat' split
  all_goals simp

@[simp] theorem raiseAbsent_station_share (f : RaiseBody) (m : MemRecord) (b : Block) :
    (raiseAbsent f m b).station = b.station ∧ (raiseAbsent f m b).share = b.share := by
  unfold raiseAbsent
  repeat' split
  all_goals simp

@[simp] theorem heardRaise_station_share (f : RaiseBody) (b : Block) :
    (heardRaise f b).station = b.station ∧ (heardRaise f b).share = b.share := by
  unfold heardRaise
  dsimp only
  repeat' split
  all_goals simp

@[simp] theorem ackEntry_station_share (i : Nat) (e : PageEntry) (b : Block) :
    (ackEntry i e b).station = b.station ∧ (ackEntry i e b).share = b.share := by
  simp [ackEntry]

@[simp] theorem clearIfOneShot_station_share (c : Cause) (b : Block) :
    (clearIfOneShot c b).station = b.station ∧ (clearIfOneShot c b).share = b.share := by
  unfold clearIfOneShot
  repeat' split
  all_goals simp

@[simp] theorem heardAck_station_share (c : Cause) (g : Nat) (b : Block) :
    (heardAck c g b).station = b.station ∧ (heardAck c g b).share = b.share := by
  unfold heardAck
  dsimp only
  repeat' split
  all_goals simp

@[simp] theorem heardClear_station_share (c : Cause) (g : Nat) (b : Block) :
    (heardClear c g b).station = b.station ∧ (heardClear c g b).share = b.share := by
  unfold heardClear
  dsimp only
  repeat' split
  all_goals simp

@[simp] theorem radioAck_station_share (c : Option Cause) (g : Nat) (b : Block) :
    (radioAck c g b).station = b.station ∧ (radioAck c g b).share = b.share := by
  unfold radioAck
  repeat' split
  all_goals simp

@[simp] theorem expireAck_station_share (i : Nat) (b : Block) :
    (expireAck i b).station = b.station ∧ (expireAck i b).share = b.share := by
  unfold expireAck
  repeat' split
  all_goals simp

@[simp] theorem retryClear_station_share (i : Nat) (b : Block) :
    (retryClear i b).station = b.station ∧ (retryClear i b).share = b.share := by
  unfold retryClear
  repeat' split
  all_goals simp

@[simp] theorem withdraw_station_share (r : Received) (b : Block) :
    (withdraw r b).station = b.station ∧ (withdraw r b).share = b.share := ⟨rfl, rfl⟩

/-! ## Courses -/

@[simp] theorem courseSecond_station_share (i : Nat) (b : Block) :
    (courseSecond i b).station = b.station ∧ (courseSecond i b).share = b.share := by
  unfold courseSecond
  dsimp only
  repeat' split
  all_goals simp

@[simp] theorem coursesSecond_station_share (b : Block) :
    (coursesSecond b).station = b.station ∧ (coursesSecond b).share = b.share := by
  exact ⟨foldl_keeps Block.station _ _ fun b _ => by simp, foldl_keeps Block.share _ _ fun b _ => by simp⟩

@[simp] theorem takeCourseItem_station_share (s : Nat) (x : CourseItem) (b : Block) :
    (takeCourseItem s b x).station = b.station ∧ (takeCourseItem s b x).share = b.share := by
  unfold takeCourseItem
  repeat' split
  all_goals simp

@[simp] theorem heardCourse_station_share (s : Nat) (xs : List CourseItem) (b : Block) :
    (heardCourse s xs b).station = b.station ∧ (heardCourse s xs b).share = b.share := by
  unfold heardCourse
  simp [foldl_keeps Block.station (takeCourseItem s) xs fun b x => by simp,
    foldl_keeps Block.share (takeCourseItem s) xs fun b x => by simp]

@[simp] theorem heardShift_station_share (x : ShiftBody) (b : Block) :
    (heardShift x b).station = b.station ∧ (heardShift x b).share = b.share := by
  unfold heardShift
  repeat' split
  all_goals simp

@[simp] theorem shiftCourse_station_share (i : Nat) (c : Course) (o : Nat) (h : Bool) (b : Block) :
    (shiftCourse i c o h b).station = b.station ∧ (shiftCourse i c o h b).share = b.share := by
  simp [shiftCourse]

/-! ## Conveyor -/

@[simp] theorem settleEmpty_station_share (b : Block) :
    (settleEmpty b).station = b.station ∧ (settleEmpty b).share = b.share := by
  unfold settleEmpty
  repeat' split
  all_goals simp

@[simp] theorem countHold_station_share (b : Block) :
    (countHold b).station = b.station ∧ (countHold b).share = b.share := by
  unfold countHold
  split
  all_goals simp

@[simp] theorem timeoutHold_station_share (b : Block) :
    (timeoutHold b).station = b.station ∧ (timeoutHold b).share = b.share := by
  unfold timeoutHold
  repeat' split
  all_goals simp

@[simp] theorem countAdvance_station_share (b : Block) :
    (countAdvance b).station = b.station ∧ (countAdvance b).share = b.share := ⟨rfl, rfl⟩

@[simp] theorem timeoutAdvance_station_share (b : Block) :
    (timeoutAdvance b).station = b.station ∧ (timeoutAdvance b).share = b.share := by
  unfold timeoutAdvance
  repeat' split
  all_goals simp

@[simp] theorem rinseHealthChanged_station_share (r : Role) (b : Block) :
    (rinseHealthChanged r b).station = b.station ∧ (rinseHealthChanged r b).share = b.share := by
  unfold rinseHealthChanged
  repeat' split
  all_goals simp

@[simp] theorem conveyorSecond_station_share (b : Block) :
    (conveyorSecond b).station = b.station ∧ (conveyorSecond b).share = b.share := by
  unfold conveyorSecond
  repeat' split
  all_goals simp

@[simp] theorem endJam_station_share (b : Block) :
    (endJam b).station = b.station ∧ (endJam b).share = b.share := by
  unfold endJam
  repeat' split
  all_goals simp

@[simp] theorem pulse_station_share (b : Block) :
    (pulse b).station = b.station ∧ (pulse b).share = b.share := by
  simp [pulse]

@[simp] theorem tenth_station_share (b : Block) :
    (tenth b).station = b.station ∧ (tenth b).share = b.share := by
  unfold tenth
  repeat' split
  all_goals simp

@[simp] theorem appendRack_station_share (l : LoadKind) (p : Nat) (b : Block) :
    (appendRack l p b).station = b.station ∧ (appendRack l p b).share = b.share := by
  simp [appendRack]

@[simp] theorem rackEnters_station_share (b : Block) :
    (rackEnters b).station = b.station ∧ (rackEnters b).share = b.share := by
  unfold rackEnters
  repeat' split
  all_goals simp

@[simp] theorem rackLeaves_station_share (b : Block) :
    (rackLeaves b).station = b.station ∧ (rackLeaves b).share = b.share := by
  unfold rackLeaves
  repeat' split
  all_goals simp

@[simp] theorem dropUntracked_station_share (b : Block) :
    (dropUntracked b).station = b.station ∧ (dropUntracked b).share = b.share := by
  unfold dropUntracked
  dsimp only
  repeat' split
  all_goals simp

@[simp] theorem removeHead_station_share (r : Rack) (rs : List Rack) (b : Block) :
    (removeHead r rs b).station = b.station ∧ (removeHead r rs b).share = b.share := by
  unfold removeHead
  dsimp only
  repeat' split
  all_goals simp

/-! ## Plan -/

@[simp] theorem setTask_station_share (t : Nat) (k : Option Task) (b : Block) :
    (setTask t k b).station = b.station ∧ (setTask t k b).share = b.share := ⟨rfl, rfl⟩

@[simp] theorem releaseWants_station_share (m : Mask8) (b : Block) :
    (releaseWants m b).station = b.station ∧ (releaseWants m b).share = b.share := by
  unfold releaseWants
  exact ⟨foldl_keeps Block.station _ _ fun b _ => by simp, foldl_keeps Block.share _ _ fun b _ => by simp⟩

@[simp] theorem taskEvent_station_share (t : Nat) (x : TaskState) (b : Block) :
    (taskEvent t x b).station = b.station ∧ (taskEvent t x b).share = b.share := by
  unfold taskEvent
  repeat' split
  all_goals simp

@[simp] theorem testPlates_station_share (c : Nat) (b : Block) :
    (testPlates c b).station = b.station ∧ (testPlates c b).share = b.share := by
  unfold testPlates
  repeat' split
  all_goals simp

@[simp] theorem setProfile_station_share (i : Nat) (p : Profile) (b : Block) :
    (setProfile i p b).station = b.station ∧ (setProfile i p b).share = b.share := ⟨rfl, rfl⟩

@[simp] theorem passTask_station_share (c t : Nat) (b : Block) :
    (passTask c t b).station = b.station ∧ (passTask c t b).share = b.share := by
  unfold passTask
  repeat' split
  all_goals simp

@[simp] theorem applyEdit_station_share (t : Nat) (b : Block) :
    (applyEdit t b).station = b.station ∧ (applyEdit t b).share = b.share := by
  unfold applyEdit
  dsimp only
  repeat' split
  all_goals simp

@[simp] theorem planClear_station_share (b : Block) :
    (planClear b).station = b.station ∧ (planClear b).share = b.share := by
  unfold planClear
  simp [foldl_keeps Block.station (fun acc c => resolve c acc) _ fun b c => by simp,
    foldl_keeps Block.share (fun acc c => resolve c acc) _ fun b c => by simp]

/-! ## Engine -/

@[simp] theorem presentWants_station_share (v : TaskView) (k : Task) (b : Block) :
    (presentWants v k b).station = b.station ∧ (presentWants v k b).share = b.share := by
  unfold presentWants
  exact ⟨foldl_keeps Block.station _ _ fun b _ => by simp, foldl_keeps Block.share _ _ fun b _ => by simp⟩

@[simp] theorem faultTask_station_share (t : Nat) (k : Task) (w : TaskFault) (b : Block) :
    (faultTask t k w b).station = b.station ∧ (faultTask t k w b).share = b.share := by
  simp [faultTask]

@[simp] theorem plateTest_station_share (v : TaskView) (k : Task) (b : Block) :
    (plateTest v k b).2.station = b.station ∧ (plateTest v k b).2.share = b.share := by
  unfold plateTest
  repeat' split
  all_goals simp

@[simp] theorem runTask_station_share (t : Nat) (k : Task) (d : Direct) (b : Block) :
    (runTask t k d b).station = b.station ∧ (runTask t k d b).share = b.share := by
  simp [runTask]

@[simp] theorem testAndRun_station_share (t : Nat) (k : Task) (b : Block) :
    (testAndRun t k b).station = b.station ∧ (testAndRun t k b).share = b.share := by
  unfold testAndRun
  repeat' split
  all_goals simp

@[simp] theorem resolveTask_station_share (t : Nat) (k : Task) (b : Block) :
    (resolveTask t k b).station = b.station ∧ (resolveTask t k b).share = b.share := by
  unfold resolveTask
  dsimp only
  repeat' split
  all_goals simp

@[simp] theorem taskWork_station_share (t : Nat) (b : Block) :
    (taskWork t b).station = b.station ∧ (taskWork t b).share = b.share := by
  unfold taskWork
  repeat' split
  all_goals simp

@[simp] theorem noteTask_station_share (t : Nat) (x : TaskState) (b : Block) :
    (noteTask t x b).station = b.station ∧ (noteTask t x b).share = b.share := by
  unfold noteTask
  repeat' split
  all_goals simp

@[simp] theorem taskSecond_station_share (t : Nat) (b : Block) :
    (taskSecond t b).station = b.station ∧ (taskSecond t b).share = b.share := by
  unfold taskSecond
  dsimp only
  repeat' split
  all_goals simp

@[simp] theorem handOn_station_share (ts : List (Option Task)) (t : Nat) (b : Block) :
    (handOn ts t b).station = b.station ∧ (handOn ts t b).share = b.share := by
  unfold handOn
  repeat' split
  all_goals simp

@[simp] theorem engineSecond_station_share (b : Block) :
    (engineSecond b).station = b.station ∧ (engineSecond b).share = b.share := by
  unfold engineSecond
  simp [foldl_keeps Block.station (fun acc t => taskSecond t acc) _ fun b t => by simp,
    foldl_keeps Block.share (fun acc t => taskSecond t acc) _ fun b t => by simp,
    foldl_keeps Block.station (fun acc t => handOn b.plan.tasks t acc) _ fun b t => by simp,
    foldl_keeps Block.share (fun acc t => handOn b.plan.tasks t acc) _ fun b t => by simp]

/-! ## Drive -/

@[simp] theorem readInput_station_share (i : Nat) (x : SensorInput) (b : Block) :
    (readInput i x b).station = b.station ∧ (readInput i x b).share = b.share := by
  unfold readInput
  dsimp only
  repeat' split
  all_goals simp

@[simp] theorem setChannel_station_share (k : Nat) (c : Channel) (b : Block) :
    (setChannel k c b).station = b.station ∧ (setChannel k c b).share = b.share := ⟨rfl, rfl⟩

@[simp] theorem settleStarved_station_share (k : Nat) (b : Block) :
    (settleStarved k b).station = b.station ∧ (settleStarved k b).share = b.share := by
  unfold settleStarved
  dsimp only
  repeat' split
  all_goals simp

@[simp] theorem completeWindow_station_share (b : Block) :
    (completeWindow b).station = b.station ∧ (completeWindow b).share = b.share := by
  unfold completeWindow
  exact ⟨foldl_keeps Block.station _ _ fun b _ => by simp, foldl_keeps Block.share _ _ fun b _ => by simp⟩

@[simp] theorem openWindow_station_share (b : Block) :
    (openWindow b).station = b.station ∧ (openWindow b).share = b.share := by
  unfold openWindow
  dsimp only
  repeat' split
  all_goals simp

@[simp] theorem windowStart_station_share (b : Block) :
    (windowStart b).station = b.station ∧ (windowStart b).share = b.share := by
  unfold windowStart
  repeat' split
  all_goals simp

@[simp] theorem sampleLine_station_share (v : Nat) (b : Block) :
    (sampleLine v b).station = b.station ∧ (sampleLine v b).share = b.share := by
  unfold sampleLine
  dsimp only
  repeat' split
  all_goals simp

@[simp] theorem elementFault_station_share (k : Nat) (h : Health) (r : Nat) (b : Block) :
    (elementFault k h r b).station = b.station ∧ (elementFault k h r b).share = b.share := by
  simp [elementFault]

@[simp] theorem completeCheck_station_share (k a : Nat) (b : Block) :
    (completeCheck k a b).station = b.station ∧ (completeCheck k a b).share = b.share := by
  unfold completeCheck
  dsimp only
  repeat' split
  all_goals simp

@[simp] theorem checkChannel_station_share (t : Nat) (a : List Nat) (k : Nat) (b : Block) :
    (checkChannel t a k b).station = b.station ∧ (checkChannel t a k b).share = b.share := by
  unfold checkChannel
  dsimp only
  repeat' split
  all_goals simp

@[simp] theorem tick_station_share (v : Nat) (a : List Nat) (b : Block) :
    (tick v a b).station = b.station ∧ (tick v a b).share = b.share := by
  unfold tick
  split
  · simp [foldl_keeps Block.station (fun acc k => checkChannel b.drive.ticksDriven a k acc) _ fun b k => by simp,
      foldl_keeps Block.share (fun acc k => checkChannel b.drive.ticksDriven a k acc) _ fun b k => by simp]
  · simp

@[simp] theorem readInputs_station_share (i : Nat) (xs : List SensorInput) (b : Block) :
    (readInputs i xs b).station = b.station ∧ (readInputs i xs b).share = b.share := by
  induction xs generalizing i b with
  | nil => exact ⟨rfl, rfl⟩
  | cons x rest ih => simp [readInputs, ih]

/-! ## Line -/

@[simp] theorem setPosition_station_share (p : Position) (b : Block) :
    (setPosition p b).station = b.station ∧ (setPosition p b).share = b.share := ⟨rfl, rfl⟩

@[simp] theorem beginCycle_station_share (b : Block) :
    (beginCycle b).station = b.station ∧ (beginCycle b).share = b.share := by
  unfold beginCycle
  repeat' split
  all_goals simp

@[simp] theorem slotStart_station_share (r : Bool) (b : Block) :
    (slotStart r b).station = b.station ∧ (slotStart r b).share = b.share := by
  unfold slotStart
  dsimp only
  repeat' split
  all_goals simp

@[simp] theorem activitySeen_station_share (b : Block) :
    (activitySeen b).station = b.station ∧ (activitySeen b).share = b.share := by
  unfold activitySeen
  repeat' split
  all_goals simp

@[simp] theorem complete_station_share (b : Block) :
    (complete b).station = b.station ∧ (complete b).share = b.share := by
  unfold complete
  repeat' split
  all_goals simp

@[simp] theorem collide_station_share (b : Block) :
    (collide b).station = b.station ∧ (collide b).share = b.share := by
  unfold collide
  dsimp only
  repeat' split
  all_goals simp

@[simp] theorem corrupt_station_share (b : Block) :
    (corrupt b).station = b.station ∧ (corrupt b).share = b.share := by
  unfold corrupt
  repeat' split
  all_goals simp

@[simp] theorem judgeSignature_station_share (i : Nat) (g : Word16) (b : Block) :
    (judgeSignature i g b).station = b.station ∧ (judgeSignature i g b).share = b.share := by
  unfold judgeSignature
  repeat' split
  all_goals simp

@[simp] theorem heardDemand_station_share (i s : Nat) (d : Demand) (b : Block) :
    (heardDemand i s d b).station = b.station ∧ (heardDemand i s d b).share = b.share := by
  unfold heardDemand
  dsimp only
  repeat' split
  all_goals simp

@[simp] theorem handle_station_share (x s : Nat) (r : Received) (b : Block) :
    (handle x s r b).station = b.station ∧ (handle x s r b).share = b.share := by
  unfold handle
  repeat' split
  all_goals simp

@[simp] theorem acceptFrame_station_share (x s : Nat) (f : Option FrameForm) (bs : List Byte) (b : Block) :
    (acceptFrame x s f bs b).station = b.station ∧ (acceptFrame x s f bs b).share = b.share := by
  unfold acceptFrame
  repeat' split
  all_goals simp

/-! ## Control -/

@[simp] theorem settleSecond_station_share (b : Block) :
    (settleSecond b).station = b.station ∧ (settleSecond b).share = b.share := by
  have hs : ∀ f : Nat → Block → Block, (∀ i b, (f i b).station = b.station) → ∀ b,
      (pageIndices.foldl (fun acc i => f i acc) b).station = b.station := fun f h b =>
    foldl_keeps Block.station _ _ fun b i => h i b
  have hg : ∀ f : Nat → Block → Block, (∀ i b, (f i b).share = b.share) → ∀ b,
      (pageIndices.foldl (fun acc i => f i acc) b).share = b.share := fun f h b =>
    foldl_keeps Block.share _ _ fun b i => h i b
  unfold settleSecond
  dsimp only
  split
  all_goals simp [hs, hg]

@[simp] theorem setRadio_station_share (r : Radio) (b : Block) :
    (setRadio r b).station = b.station ∧ (setRadio r b).share = b.share := by
  unfold setRadio
  repeat' split
  all_goals simp

@[simp] theorem radioStatus_station_share (r : Radio) (b : Block) :
    (radioStatus r b).station = b.station ∧ (radioStatus r b).share = b.share := by
  unfold radioStatus
  repeat' split
  all_goals simp

@[simp] theorem sendHead_station_share (b : Block) :
    (sendHead b).station = b.station ∧ (sendHead b).share = b.share := by
  unfold sendHead
  repeat' split
  all_goals simp

@[simp] theorem taken_station_share (c : Option Cause) (g : Nat) (b : Block) :
    (taken c g b).station = b.station ∧ (taken c g b).share = b.share := by
  unfold taken
  repeat' split
  all_goals simp

@[simp] theorem sendExpired_station_share (b : Block) :
    (sendExpired b).station = b.station ∧ (sendExpired b).share = b.share := by
  unfold sendExpired
  repeat' split
  all_goals simp

@[simp] theorem radioAcks_station_share (c : Option Cause) (g : Nat) (b : Block) :
    (radioAcks c g b).station = b.station ∧ (radioAcks c g b).share = b.share := by
  unfold radioAcks
  repeat' split
  all_goals simp

end Sys2Proof.Machine
end

section
/-! PROOFS. The applied grant: what each command can do to it (R2, R17). -/

namespace Sys2Proof.Machine

/-! ## What a command can do to the grant (R2, R17) -/

@[simp] theorem editApplies_station_share (t : Nat) (b : Block) :
    (editApplies t b).station = b.station ∧ (editApplies t b).share = b.share := by
  unfold editApplies
  dsimp only
  repeat' split
  all_goals simp [Block.now]

/-- The owner of a command that it accepts leaves Station Control and the Load Share Unit alone. -/
def ownerKeeps (own : Block → Answer) : Prop :=
  ∀ b b' data, own b = .ok (b', data) → b'.station = b.station ∧ b'.share = b.share

/-- Checks that accept give what stands behind them. -/
theorem checked_ok {fails : List (Bool × Reason)} {accept : Answer} {r : Block × List Byte}
    (h : checked fails accept = .ok r) : accept = .ok r := by
  unfold checked at h
  split at h
  · cases h
  · exact h

/-- A transfer leaves alone what its owner leaves alone. -/
theorem transfer_station_share {own : Block → Answer} (h : ownerKeeps own) (code : Nat) (bad : Bool) (gate : StateGate)
    (dish : Bool) (b : Block) :
    (transfer code bad gate dish own b).station = b.station ∧ (transfer code bad gate dish own b).share = b.share := by
  unfold transfer
  split
  · cases hg : gates bad gate dish own (deliver b) with
    | error r => simp [conclude, answer, numbered8, hg]
    | ok x =>
      obtain ⟨after, data⟩ := x
      have hown : own (deliver b) = .ok (after, data) := by
        unfold gates at hg
        split_ifs at hg
        exact hg
      simpa [conclude, answer, numbered8, hg] using h _ _ _ hown
  · exact ⟨rfl, rfl⟩

/-! ### The owners of the host's commands -/

theorem ownReadStatus_keeps : ownerKeeps ownReadStatus := by
  rintro b b' data ⟨⟩
  exact ⟨rfl, rfl⟩

theorem ownReadEvent_keeps : ownerKeeps ownReadEvent := by
  intro b b' data h
  unfold ownReadEvent at h
  split at h <;> cases h <;> exact ⟨rfl, rfl⟩

theorem ownReadTable_keeps (selector : Nat) : ownerKeeps (ownReadTable selector) := by
  intro b b' data h
  unfold ownReadTable at h
  split at h <;> cases h
  exact ⟨rfl, rfl⟩

theorem ownReadCounters_keeps : ownerKeeps ownReadCounters := by
  rintro b b' data ⟨⟩
  exact ⟨rfl, rfl⟩

theorem ownClearCounters_keeps : ownerKeeps ownClearCounters := by
  rintro b b' data ⟨⟩
  exact ⟨rfl, rfl⟩

theorem ownPostProfile_keeps (i : Byte) (p : ProfileFields) : ownerKeeps (ownPostProfile i p) := by
  intro b b' data h
  unfold ownPostProfile at h
  split at h
  · cases h
  · cases checked_ok h
    simp

theorem ownDeleteProfile_keeps (i : Byte) : ownerKeeps (ownDeleteProfile i) := by
  intro b b' data h
  cases checked_ok h
  simp

theorem ownPostCourse_keeps (tag version : Byte) (offset : Word16) (lead : Option Word16) :
    ownerKeeps (ownPostCourse tag version offset lead) := by
  intro b b' data h
  unfold ownPostCourse at h
  dsimp only at h
  repeat' split at h
  all_goals cases h
  simp

theorem ownDeleteCourse_keeps (tag : Byte) : ownerKeeps (ownDeleteCourse tag) := by
  intro b b' data h
  unfold ownDeleteCourse at h
  repeat' split at h
  all_goals cases h
  simp

theorem ownSetLock_keeps (tag : Byte) (lock : Bool) : ownerKeeps (ownSetLock tag lock) := by
  intro b b' data h
  unfold ownSetLock at h
  split at h <;> cases h
  simp

theorem ownShiftCourse_keeps (tag : Byte) (offset : Word16) (hold : Byte) :
    ownerKeeps (ownShiftCourse tag offset hold) := by
  intro b b' data h
  unfold ownShiftCourse at h
  split at h <;> cases h
  simp

@[simp] theorem passTasks_station_share (i : Nat) (ts : List Nat) (b : Block) :
    (ts.foldl (fun acc t => passTask i t acc) b).station = b.station ∧
      (ts.foldl (fun acc t => passTask i t acc) b).share = b.share :=
  ⟨foldl_keeps Block.station _ _ fun b t => by simp, foldl_keeps Block.share _ _ fun b t => by simp⟩

theorem ownMarkPassed_keeps (tag : Byte) : ownerKeeps (ownMarkPassed tag) := by
  intro b b' data h
  unfold ownMarkPassed at h
  split at h
  · cases h
  · split at h
    · cases h
      exact ⟨rfl, rfl⟩
    · simp only [Except.ok.injEq, Prod.mk.injEq] at h
      rw [← h.1]
      simp

theorem ownPostTask_keeps (tag profile : Byte) (mask : Mask8) (sensor : Byte) (plates : Word16) :
    ownerKeeps (ownPostTask tag profile mask sensor plates) := by
  intro b b' data h
  replace h := checked_ok h
  split at h <;> cases h
  simp

theorem ownEditTask_keeps (i profile : Byte) (mask : Mask8) (sensor : Byte) (plates : Word16) :
    ownerKeeps (ownEditTask i profile mask sensor plates) := by
  intro b b' data h
  replace h := checked_ok h
  split at h <;> cases h
  simp

theorem ownCancelTask_keeps (i : Byte) : ownerKeeps (ownCancelTask i) := by
  intro b b' data h
  replace h := checked_ok h
  split at h <;> cases h
  simp

theorem ownSetPlates_keeps (i : Byte) (loaded : Word16) : ownerKeeps (ownSetPlates i loaded) := by
  intro b b' data h
  replace h := checked_ok h
  split at h <;> cases h
  simp

theorem ownRaiseStaffCall_keeps (subject priority level : Byte) :
    ownerKeeps (ownRaiseStaffCall subject priority level) := by
  intro b b' data h
  unfold ownRaiseStaffCall at h
  split at h <;> cases h
  simp

theorem ownClearStaffCall_keeps (subject : Byte) : ownerKeeps (ownClearStaffCall subject) := by
  intro b b' data h
  unfold ownClearStaffCall at h
  repeat' split at h
  all_goals cases h
  simp

theorem ownClearFault_keeps (channel : Byte) : ownerKeeps (ownClearFault channel) := by
  intro b b' data h
  unfold ownClearFault at h
  dsimp only at h
  repeat' split at h
  all_goals cases h
  all_goals simp [mendChannel]

theorem ownRackLoaded_keeps (kind plates : Byte) : ownerKeeps (ownRackLoaded kind plates) := by
  intro b b' data h
  unfold ownRackLoaded at h
  repeat' split at h
  all_goals cases h
  simp

theorem ownRackRemoved_keeps (rack : RackField) : ownerKeeps (ownRackRemoved rack) := by
  intro b b' data h
  unfold ownRackRemoved removeUntracked removeNumbered at h
  repeat' split at h
  all_goals cases h
  all_goals simp

theorem ownManualAdvance_keeps : ownerKeeps ownManualAdvance := by
  intro b b' data h
  unfold ownManualAdvance at h
  split at h <;> cases h
  simp

theorem ownRunRequest_keeps (run : Bool) : ownerKeeps (ownRunRequest run) := by
  rintro b b' data ⟨⟩
  simp

theorem ownResetTallies_keeps : ownerKeeps ownResetTallies := by
  rintro b b' data ⟨⟩
  exact ⟨rfl, rfl⟩

theorem ownPlanClear_keeps : ownerKeeps ownPlanClear := by
  rintro b b' data ⟨⟩
  simp

/-! ### The commands -/

/-- Station Control and the Load Share Unit stand but for the service clock. -/
structure FiguresStand (b b' : Block) : Prop where
  share : b'.share = b.share
  state : b'.station.state = b.station.state
  image : b'.station.image = b.station.image

theorem FiguresStand.of_same {b b' : Block} (h : b'.station = b.station ∧ b'.share = b.share) : FiguresStand b b' :=
  ⟨h.2, by rw [h.1], by rw [h.1]⟩

/-- What a command does to the share record, the station state and the settings in force: a round runs, a start resets, a
step of INIT leaves the share record, a duplicate id cuts the grant, and every other command leaves the three. -/
inductive GrantOutcome (c : Instr) (b b' : Block) : Prop
  | round (hc : c = .round) (hb : b' = runRound b)
  | fresh (hc : (∃ x, c = .powerOn x) ∨ (∃ x, c = .resetPinReleased x) ∨ ∃ x, c = .restart x)
      (share : b'.share = {}) (state : b'.station.state = .initial)
  | initStep (share : b'.share = b.share) (before : b.station.state = .initial)
      (after : b'.station.state = .initial ∨ b'.station.state = .halted ∨ b'.station.state = .listen)
  | entersLocal (before : b.station.state ≠ .localOnly) (after : b'.station.state = .localOnly)
      (share : b'.share = { b.share with applied := min b.share.applied b.cfg.safeAllowance })
      (image : b'.station.image = b.station.image)
  | stands (h : FiguresStand b b')

theorem GrantOutcome.of_same {c : Instr} {b b' : Block} (h : b'.station = b.station ∧ b'.share = b.share) :
    GrantOutcome c b b' := .stands (.of_same h)

theorem GrantOutcome.transfer {c : Instr} {own : Block → Answer} (h : ownerKeeps own) {code : Nat} {bad : Bool}
    {gate : StateGate} {dish : Bool} {b : Block} : GrantOutcome c b (transfer code bad gate dish own b) :=
  .of_same (transfer_station_share h _ _ _ _ _)

theorem checkSettings_outcome (c : Instr) (b : Block) : GrantOutcome c b (checkSettings b) := by
  unfold checkSettings
  split
  · rename_i h
    have hs : b.station.state = .initial := by simp_all [initAt]
    split
    · exact .initStep rfl hs (.inl hs)
    · exact .initStep rfl hs (.inr (.inl rfl))
  · exact .of_same ⟨rfl, rfl⟩

theorem loopbackDone_outcome (c : Instr) (passed : Bool) (inputs : List SensorInput) (b : Block) :
    GrantOutcome c b (loopbackDone passed inputs b) := by
  unfold loopbackDone
  split
  · rename_i h
    have hs : b.station.state = .initial := by simp_all [initAt]
    split
    · exact .initStep (by simp [enterListen]) hs (.inr (.inr (by simp [enterListen])))
    · exact .initStep rfl hs (.inr (.inl rfl))
  · exact .of_same ⟨rfl, rfl⟩

theorem receive_outcome (c : Instr) (source sequence : Byte) (form : Option FrameForm) (body : List Byte) (b : Block) :
    GrantOutcome c b (receive source sequence form body b) := by
  unfold receive
  split
  · split
    · exact .of_same (by simp)
    · split
      · unfold duplicate
        split
        · exact .of_same (by simp)
        · rename_i hl
          exact .entersLocal (by simpa [Block.isLocal] using hl) (by simp [enterLocal])
            (by simp [enterLocal, cutGrant, Block.cfg]) (by simp [enterLocal])
      · exact .of_same (by simp)
  · exact .of_same ⟨rfl, rfl⟩

theorem runSecond_figures (inputs : List SensorInput) (b : Block) : FiguresStand b (runSecond inputs b) := by
  unfold runSecond
  repeat' split
  · exact ⟨rfl, rfl, rfl⟩
  · exact ⟨by simp [tickClock], by simp [tickClock], by simp [tickClock]⟩
  · exact ⟨rfl, rfl, rfl⟩

theorem writeSettings_station_share (block : List Byte) (b : Block) :
    (writeSettings block b).station = b.station ∧ (writeSettings block b).share = b.share := by
  unfold writeSettings
  dsimp only
  repeat' split
  all_goals simp [conclude, answer, numbered8]

theorem writeDone_station_share (b : Block) :
    (writeDone b).station = b.station ∧ (writeDone b).share = b.share := by
  unfold writeDone
  split <;> simp [answer]

theorem restartPart_outcome (straps : BitVec 5) (b : Block) :
    GrantOutcome (.restart straps) b (restartPart straps.toNat b) := by
  unfold restartPart
  split
  · exact .fresh (.inr (.inr ⟨_, rfl⟩)) rfl rfl
  · exact .of_same ⟨rfl, rfl⟩

/-- A gated meaning leaves alone what the function leaves alone. -/
theorem whenRuns_station_share {f : Block → Block} (h : ∀ b, (f b).station = b.station ∧ (f b).share = b.share) (b : Block) :
    (whenRuns f b).station = b.station ∧ (whenRuns f b).share = b.share := by
  unfold whenRuns
  split
  · exact h b
  · exact ⟨rfl, rfl⟩

theorem whenDish_station_share {f : Block → Block} (h : ∀ b, (f b).station = b.station ∧ (f b).share = b.share) (b : Block) :
    (whenDish f b).station = b.station ∧ (whenDish f b).share = b.share := by
  unfold whenDish
  split
  · exact h b
  · exact ⟨rfl, rfl⟩

/-- A command whose meaning acts on the block has the outcome of that act. -/
theorem GrantOutcome.of_onBlock {c : Instr} {f : Block → Block} {s t : State} (hf : GrantOutcome c s.block (f s.block))
    (h : onBlock f s = .next t) : GrantOutcome c s.block t.block := by
  cases h
  exact hf

/-- Every command has one of the outcomes. -/
theorem exec_grantOutcome (c : Instr) (s t : State) (h : exec c s = .next t) : GrantOutcome c s.block t.block := by
  cases c with
  | powerOn straps => exact .of_onBlock (.fresh (.inl ⟨_, rfl⟩) rfl rfl) h
  | resetPinHeld => exact .of_onBlock (.stands ⟨rfl, rfl, rfl⟩) h
  | resetPinReleased straps => exact .of_onBlock (.fresh (.inr (.inl ⟨_, rfl⟩)) rfl rfl) h
  | settingsCheck => exact .of_onBlock (checkSettings_outcome _ _) h
  | loopbackTestDone passed inputs => exact .of_onBlock (loopbackDone_outcome _ _ _ _) h
  | round => exact .of_onBlock (.round rfl rfl) h
  | driveTick volts amps => exact .of_onBlock (.of_same (by simp)) h
  | burstWindowStart => exact .of_onBlock (.of_same (by simp)) h
  | second inputs => exact .of_onBlock (.stands (runSecond_figures _ _)) h
  | holdTimeout => exact .of_onBlock (.of_same (whenDish_station_share (by simp) _)) h
  | taskEditApply task => exact .of_onBlock (.of_same (whenRuns_station_share (by simp) _)) h
  | ackTimerExpiry entry => exact .of_onBlock (.of_same (whenRuns_station_share (by simp) _)) h
  | clearRetry entry => exact .of_onBlock (.of_same (whenRuns_station_share (by simp) _)) h
  | manualAdvanceTimeout => exact .of_onBlock (.of_same (whenDish_station_share (by simp) _)) h
  | dwellTenth => exact .of_onBlock (.of_same (whenDish_station_share (by simp) _)) h
  | encoderPulse => exact .of_onBlock (.of_same (whenDish_station_share (by simp) _)) h
  | entrySensor => exact .of_onBlock (.of_same (whenDish_station_share (by simp) _)) h
  | exitSensor => exact .of_onBlock (.of_same (whenDish_station_share (by simp) _)) h
  | radioStatusRecord ready => exact .of_onBlock (.of_same (by simp)) h
  | radioStatusTimeout => exact .of_onBlock (.of_same (by simp)) h
  | sendRecord => exact .of_onBlock (.of_same (by simp)) h
  | takenRecord kind subject generation => exact .of_onBlock (.of_same (by simp)) h
  | sendTimeout => exact .of_onBlock (.of_same (by simp)) h
  | radioAckRecord kind subject generation => exact .of_onBlock (.of_same (by simp)) h
  | badRadioRecord => exact .of_onBlock (.of_same ⟨rfl, rfl⟩) h
  | gapEnd => exact .of_onBlock (.of_same (by simp)) h
  | slotStart lineAtRest => exact .of_onBlock (.of_same (by simp)) h
  | lineActivitySeen => exact .of_onBlock (.of_same (by simp)) h
  | transmissionComplete => exact .of_onBlock (.of_same (by simp)) h
  | collision => exact .of_onBlock (.of_same (by simp)) h
  | corruptFrame cause => exact .of_onBlock (.of_same (by simp)) h
  | unknownFrame source kind sequence body => exact .of_onBlock (receive_outcome _ _ _ _ _ _) h
  | demandFrame source sequence body => exact .of_onBlock (receive_outcome _ _ _ _ _ _) h
  | courseFrame source sequence body => exact .of_onBlock (receive_outcome _ _ _ _ _ _) h
  | shiftFrame source sequence body => exact .of_onBlock (receive_outcome _ _ _ _ _ _) h
  | pageRaiseFrame source sequence body => exact .of_onBlock (receive_outcome _ _ _ _ _ _) h
  | pageAckFrame source sequence body => exact .of_onBlock (receive_outcome _ _ _ _ _ _) h
  | pageClearFrame source sequence body => exact .of_onBlock (receive_outcome _ _ _ _ _ _) h
  | noneTransfer =>
    refine .of_onBlock (.of_same ?_) h
    unfold emptyTransfer
    split <;> simp
  | transferCutShort => exact .of_onBlock (.of_same ⟨rfl, rfl⟩) h
  | unknownCommand code =>
    exact .of_onBlock (.transfer (by rintro b b' data ⟨⟩; exact ⟨rfl, rfl⟩)) h
  | readStatus => exact .of_onBlock (.transfer ownReadStatus_keeps) h
  | readEvent => exact .of_onBlock (.transfer ownReadEvent_keeps) h
  | readTable selector => exact .of_onBlock (.transfer (ownReadTable_keeps _)) h
  | readCounters => exact .of_onBlock (.transfer ownReadCounters_keeps) h
  | readAndClearCounters => exact .of_onBlock (.transfer ownClearCounters_keeps) h
  | postProfile index content => exact .of_onBlock (.transfer (ownPostProfile_keeps _ _)) h
  | deleteProfile index => exact .of_onBlock (.transfer (ownDeleteProfile_keeps _)) h
  | postCourse tag version offset lead => exact .of_onBlock (.transfer (ownPostCourse_keeps _ _ _ _)) h
  | deleteCourse tag => exact .of_onBlock (.transfer (ownDeleteCourse_keeps _)) h
  | lockCourse tag => exact .of_onBlock (.transfer (ownSetLock_keeps _ _)) h
  | unlockCourse tag => exact .of_onBlock (.transfer (ownSetLock_keeps _ _)) h
  | shiftCourse tag offset hold => exact .of_onBlock (.transfer (ownShiftCourse_keeps _ _ _)) h
  | markPassed tag => exact .of_onBlock (.transfer (ownMarkPassed_keeps _)) h
  | postTask tag profile mask sensor plates => exact .of_onBlock (.transfer (ownPostTask_keeps _ _ _ _ _)) h
  | editTask index profile mask sensor plates => exact .of_onBlock (.transfer (ownEditTask_keeps _ _ _ _ _)) h
  | cancelTask index => exact .of_onBlock (.transfer (ownCancelTask_keeps _)) h
  | setPlates index loaded => exact .of_onBlock (.transfer (ownSetPlates_keeps _ _)) h
  | raiseStaffCall subject priority level => exact .of_onBlock (.transfer (ownRaiseStaffCall_keeps _ _ _)) h
  | clearStaffCall subject => exact .of_onBlock (.transfer (ownClearStaffCall_keeps _)) h
  | clearFault channel => exact .of_onBlock (.transfer (ownClearFault_keeps _)) h
  | rackLoaded kind plates => exact .of_onBlock (.transfer (ownRackLoaded_keeps _ _)) h
  | rackRemoved rack => exact .of_onBlock (.transfer (ownRackRemoved_keeps _)) h
  | manualAdvance => exact .of_onBlock (.transfer ownManualAdvance_keeps) h
  | conveyorStart => exact .of_onBlock (.transfer (ownRunRequest_keeps _)) h
  | conveyorStop => exact .of_onBlock (.transfer (ownRunRequest_keeps _)) h
  | resetTallies => exact .of_onBlock (.transfer ownResetTallies_keeps) h
  | writeSettings block => exact .of_onBlock (.of_same (writeSettings_station_share _ _)) h
  | settingsWriteDone => exact .of_onBlock (.of_same (writeDone_station_share _)) h
  | planClear => exact .of_onBlock (.transfer ownPlanClear_keeps) h
  | restart straps => exact .of_onBlock (restartPart_outcome _ _) h
  | lineSeenActiveWhileSeeking => exact .of_onBlock (.of_same ⟨rfl, rfl⟩) h

/-! ### The bound of R17 -/

theorem grantWithin_of_stands {b b' : Block} (h : FiguresStand b b') : grantWithin b' = grantWithin b := by
  obtain ⟨share, state, image⟩ := h
  unfold grantWithin Block.cfg
  rw [share, state, image]

/-- The applied grant after the Load Share Unit's round lies under its target (R13 to R15), so within the bound. -/
theorem shareRound_grantWithin (b : Block) (h : b.station.state.works = true) : grantWithin (shareRound b) = true := by
  have hle : (shareRound b).share.applied ≤ target (divideFeeder (formInputs b)) := by
    rw [shareRound_share]
    exact newGrant_le_target _
  have hshare : (shareRound b).share.share = (divideFeeder (formInputs b)).share.share := by rw [shareRound_share]
  unfold target Block.cfg at hle
  simp only [divideFeeder_station, formInputs_station] at hle
  unfold grantWithin Block.cfg
  rw [shareRound_station, hshare]
  cases hs : b.station.state <;> simp_all [StationState.works]

/-- A round keeps a working station at work, with its settings, its strap id and its clock (R40 to R42). -/
theorem controlRound_station (b : Block) :
    (controlRound b).station.state.works = b.station.state.works ∧ (controlRound b).station.image = b.station.image ∧
      (controlRound b).station.strapId = b.station.strapId ∧ (controlRound b).station.clock = b.station.clock := by
  unfold controlRound
  dsimp only
  repeat' split
  all_goals simp [StationState.works, *]

/-- The last two acts of a round leave Station Control and the Load Share Unit alone (R18, R122). -/
theorem roundEnd_figures (b : Block) : FiguresStand b (handOnDemand (toggleParity b)) := .of_same (by simp)

/-- A round keeps the bound (R17). -/
theorem runRound_grantWithin (b : Block) (h : grantWithin b = true) : grantWithin (runRound b) = true := by
  unfold runRound
  split
  · rename_i hr
    have hw : b.station.state.works = true := by simp_all [Block.runs]
    rw [grantWithin_of_stands (roundEnd_figures _)]
    apply shareRound_grantWithin
    simpa [(controlRound_station (agePeers b)).1] using hw
  · exact h

/-- Every outcome of a command keeps the bound (R17). -/
theorem GrantOutcome.grantWithin {c : Instr} {b b' : Block} (h : GrantOutcome c b b')
    (hb : Machine.grantWithin b = true) : Machine.grantWithin b' = true := by
  cases h with
  | round _ hr =>
    rw [hr]
    exact runRound_grantWithin b hb
  | fresh _ share state => simp [Machine.grantWithin, share, state]
  | initStep share before after =>
    have h0 : b.share.applied = 0 := by simpa [Machine.grantWithin, before] using hb
    obtain after | after | after := after <;> simp [Machine.grantWithin, after, share, h0]
  | entersLocal _ after share image => simp [Machine.grantWithin, after, share, Block.cfg, image]
  | stands hs => rw [grantWithin_of_stands hs, hb]

/-- Settles O50: a step runs a command, and every outcome of a command keeps the bound. -/
theorem grantBoundIsKept : Obligations.GrantBoundIsKept := by
  intro s s' hw h
  obtain ⟨block, _ | ⟨c, rest⟩⟩ := s
  · cases h
    exact hw
  · exact (exec_grantOutcome c ⟨block, rest⟩ s' h).grantWithin hw

/-- Settles O59: of the outcomes of a command only the entry to LOCAL is left, and what leaves the share record alone. -/
theorem grantMovesOnlyAtRounds : Obligations.GrantMovesOnlyAtRounds := by
  intro s s' c rest hp h hround hpower hpin hrestart
  have hx : exec c ⟨s.block, rest⟩ = .next s' := by simpa [step, hp] using h
  cases exec_grantOutcome c ⟨s.block, rest⟩ s' hx with
  | round hc _ => exact absurd hc hround
  | fresh hc _ _ => obtain ⟨x, hc⟩ | ⟨x, hc⟩ | ⟨x, hc⟩ := hc <;> simp_all
  | initStep share _ _ => simp [share]
  | entersLocal before after share _ => exact ⟨by simp [share], .inr ⟨after, before, by simp [share]⟩⟩
  | stands hs => simp [hs.share]

end Sys2Proof.Machine
end

section
/-! PROOFS. The event queue grows at its tail (R172). -/

namespace Sys2Proof.Machine

/-! ## The event queue only grows (R172) -/

/-- Within one second of the clock, events joined the tail of the queue, or were dropped with overflow set. -/
structure EventsGrow (b b' : Block) : Prop where
  clock : b'.station.clock = b.station.clock
  events : b.port.events <+: b'.port.events
  overflow : b.port.overflow = true → b'.port.overflow = true

theorem EventsGrow.refl (b : Block) : EventsGrow b b := ⟨rfl, List.prefix_refl _, id⟩

theorem EventsGrow.trans {b c d : Block} (h : EventsGrow b c) (g : EventsGrow c d) : EventsGrow b d :=
  ⟨g.clock.trans h.clock, h.events.trans g.events, fun o => g.overflow (h.overflow o)⟩

/-- What leaves the port and the clock leaves the queue. -/
theorem EventsGrow.of_port {b b' : Block} (hs : b'.station.clock = b.station.clock) (hp : b'.port = b.port) :
    EventsGrow b b' := ⟨hs, by rw [hp], by rw [hp]; exact id⟩

theorem EventsGrow.foldl {α : Type} {f : Block → α → Block} (h : ∀ b x, EventsGrow b (f b x)) (xs : List α) (b : Block) :
    EventsGrow b (xs.foldl f b) := by
  induction xs generalizing b with
  | nil => exact .refl b
  | cons x rest ih => exact (h b x).trans (ih _)

theorem countBy_grows (n : CounterName) (k : Nat) (b : Block) : EventsGrow b (countBy n k b) :=
  ⟨rfl, List.prefix_refl _, id⟩

theorem count_grows (n : CounterName) (b : Block) : EventsGrow b (count n b) := countBy_grows n 1 b

theorem offer_grows (e : EventBody) (b : Block) : EventsGrow b (offer e b) := by
  obtain ⟨_, h⟩ | ⟨_, h⟩ := offer_cases e b
  · exact ⟨by simp, by simp [h], by simp [h]⟩
  · exact ⟨by simp, by simp [h], by simp [h]⟩

/-- An event once offered stays offered while the queue grows. -/
theorem offeredAt_mono {second : Nat} {e : EventBody} {s b b' : Block} (h : offeredAt second e s b) (g : EventsGrow b b') :
    offeredAt second e s b' := by
  obtain ⟨x, hx, hb⟩ | ⟨hl, ho⟩ := h
  · exact .inl ⟨x, (g.events.drop _).subset hx, hb⟩
  · exact .inr ⟨hl.trans g.events.length_le, g.overflow ho⟩

theorem offered_mono {e : EventBody} {s b b' : Block} (h : offered e s b) (g : EventsGrow b b') : offered e s b' := by
  unfold offered
  rw [g.clock]
  exact offeredAt_mono h g

/-- An event offered after an earlier state is offered after it. -/
theorem offeredAt_of_grows {second : Nat} {e : EventBody} {s b b' : Block} (g : EventsGrow s b)
    (h : offeredAt second e b b') : offeredAt second e s b' := by
  obtain ⟨x, hx, hb⟩ | h := h
  · exact .inl ⟨x, (List.drop_sublist_drop_left _ g.events.length_le).subset hx, hb⟩
  · exact .inr h

theorem offered_of_grows {e : EventBody} {s b b' : Block} (g : EventsGrow s b) (h : offered e b b') : offered e s b' :=
  offeredAt_of_grows g h

/-- What was just offered has been offered. -/
theorem offered_offer (e : EventBody) (b : Block) : offered e b (offer e b) := by
  obtain ⟨_, h⟩ | ⟨hl, h⟩ := offer_cases e b
  · refine .inl ⟨{ number := b.port.eventNumber, second := b.now, body := e }, ?_, rfl, ?_⟩
    · rw [h]
      simp
    · simp [Block.now]
  · refine .inr ⟨?_, ?_⟩
    · rw [h]
      exact hl
    · rw [h]

/-- An event offered after acts that leave the port and the clock alone. -/
theorem offered_offer_of_port {e : EventBody} {s b : Block} (hs : b.station.clock = s.station.clock)
    (hp : b.port = s.port) : offered e s (offer e b) :=
  offered_of_grows (.of_port hs hp) (offered_offer e b)

@[simp] theorem offer_counters (e : EventBody) (b : Block) : (offer e b).port.counters = b.port.counters := by
  obtain ⟨_, h⟩ | ⟨_, h⟩ := offer_cases e b <;> rw [h]

theorem decideElection_grows (b : Block) : EventsGrow b (decideElection b) := .of_port (by simp) (by simp)

theorem changeState_grows (n : StationState) (r : EntryReason) (b : Block) : EventsGrow b (changeState n r b) :=
  have h : EventsGrow b (b.onStation fun s => { s with state := n, reason := r }) := .of_port rfl rfl
  (h.trans (offer_grows _ _)).trans (decideElection_grows _)

/-- A change of station state offers its event (R46). -/
theorem changeState_offered (n : StationState) (r : EntryReason) (b : Block) :
    offered (.stateChange b.station.state n r) b (changeState n r b) := by
  have h : offered (.stateChange b.station.state n r) b
      (offer (.stateChange b.station.state n r) (b.onStation fun s => { s with state := n, reason := r })) :=
    offered_offer_of_port rfl rfl
  exact offered_mono h (decideElection_grows _)

@[simp] theorem changeState_counters (n : StationState) (r : EntryReason) (b : Block) :
    (changeState n r b).port.counters = b.port.counters := by
  simp [changeState]

end Sys2Proof.Machine
end

section
/-! PROOFS. Reset, starts, a duplicate id, slots (R34, R43, R50 to R52). -/

namespace Sys2Proof.Machine

/-- Settles O56: the reset state is one concrete part, and each invariant is computed on it. -/
theorem resetHasEveryInvariant : Obligations.ResetHasEveryInvariant := by
  refine ⟨by decide, by decide, by decide, by decide, by decide, by decide, by decide, by decide, fun _ => rfl, ?_⟩
  intro h
  cases h

/-! ## Starts and the held reset pin (R34) -/

/-- While the reset pin is held the part does not run. -/
theorem runs_of_resetHeld {b : Block} (h : b.station.resetHeld = true) : b.runs = false := by simp [Block.runs, h]

/-- A part that does not run drives nothing (R34, R71, R137, R160, R163). -/
theorem outputs_off {b : Block} (h : b.runs = false) :
    b.lamp = false ∧ b.motor = 0 ∧ b.pagerOn = false ∧ ∀ x ∈ b.elementDrives, x = false := by
  simp [Block.lamp, Block.motor, Block.dishRuns, Block.pagerOn, Block.elementDrives, h]

/-- An entry to INIT is a new start (R34). -/
theorem enterInit_startsFresh (reason : EntryReason) (straps : BitVec 5) (b : Block) :
    startsFresh reason straps b (enterInit reason straps.toNat b) :=
  ⟨rfl, rfl, rfl, rfl, rfl, rfl, rfl, rfl, rfl, rfl, rfl⟩

/-- RESTART, while the port answers, is a new start whose answer stays in the slot (R175). -/
theorem restartPart_answers (straps : BitVec 5) (b : Block) (h : b.portAnswers = true) :
    startsFresh .restart straps b (restartPart straps.toNat b) ∧
      (restartPart straps.toNat b).port =
        { slot := some { code := 29, number := b.port.commandNumber, refused := none, data := [] },
          delivered := b.port.slot } := by
  rw [restartPart, if_pos h]
  exact ⟨⟨rfl, rfl, rfl, rfl, rfl, rfl, rfl, rfl, rfl, rfl, rfl⟩, rfl⟩

/-- Settles O4: each start is an entry to INIT, and a held pin stops what runs. -/
theorem startsAndHeldReset : Obligations.StartsAndHeldReset := by
  intro straps s
  refine ⟨completes_of _ rfl ⟨enterInit_startsFresh _ _ _, rfl, rfl⟩, completes_of _ rfl ⟨?_, rfl, rfl⟩,
    fun h => completes_of _ rfl (restartPart_answers straps s.block h), completes_of holdReset rfl ?_⟩
  · exact ⟨rfl, rfl, rfl, rfl, rfl, rfl, rfl, rfl, rfl, rfl, rfl⟩
  · obtain ⟨lamp, motor, pager, drives⟩ := outputs_off (runs_of_resetHeld (b := holdReset s.block) rfl)
    refine ⟨rfl, rfl, lamp, motor, pager, drives, rfl, rfl, ?_⟩
    simp [changesOnly_iff, holdReset]

/-! ## A duplicate id (R43, R44) -/

/-- A station in LOCAL is not the elected base: nothing is listed or outstanding (R159, R161). -/
theorem decideElection_of_local {b : Block} (h : b.station.state = .localOnly) :
    decideElection b = b.onPager fun g => { g with elected := false, sendList := [], outstanding := none } := by
  obtain ⟨_, h'⟩ | ⟨he, _⟩ | ⟨he, _⟩ := decideElection_cases b
  · exact h'
  all_goals simp [electable, h, StationState.transmits] at he

/-- The entry to LOCAL gives up the election (R44, R159). -/
theorem enterLocal_pager (b : Block) :
    (enterLocal b).pager = { b.pager with elected := false, sendList := [], outstanding := none } := by
  unfold enterLocal changeState
  rw [decideElection_of_local (by simp)]
  simp

/-- The entry to LOCAL offers its event (R44, R46). -/
theorem enterLocal_offered (b : Block) :
    offered (.stateChange b.station.state .localOnly .duplicateId) b (enterLocal b) := by
  have h := changeState_offered .localOnly .duplicateId (b.onLine fun l =>
    { l with demandSlot := false, courseSlot := false, shiftQueue := [], pageQueue := [] })
  exact offered_mono (offered_of_grows (.of_port rfl rfl) h) (.of_port (by simp [enterLocal]) (by simp [enterLocal]))

/-- Every frame is received; the kind decides only the form (R43, R61). -/
theorem exec_framesFrom {source kind sequence : Byte} {body : List Byte} {c : Instr}
    (h : c ∈ framesFrom source kind sequence body) :
    ∃ form, ∀ s, exec c s = onBlock (receive source sequence form body) s := by
  simp only [framesFrom, List.mem_cons, List.not_mem_nil, or_false] at h
  obtain rfl | rfl | rfl | rfl | rfl | rfl | rfl := h
  all_goals exact ⟨_, fun _ => rfl⟩

/-- A frame with this station's own id reaches the duplicate rule alone (R43). -/
theorem receive_duplicate {source sequence : Byte} {form : Option FrameForm} {body : List Byte} {b : Block}
    (hl : listening b = true) (hid : source.toNat = b.station.strapId) (h31 : source.toNat ≤ 31) (hb : body.length ≤ 56)
    (hs : b.station.state ≠ .localOnly) :
    receive source sequence form body b = setPosition .gap (enterLocal b) := by
  have hlong : ¬(31 < source.toNat ∨ 56 < body.length) := by omega
  have hloc : ¬b.isLocal = true := by simpa [Block.isLocal] using hs
  unfold receive duplicate
  rw [if_pos hl, if_neg hlong, if_pos (show source.toNat = b.id from hid), if_neg hloc]

/-- Settles O28: a duplicate id is the entry to LOCAL, whatever the frame. -/
theorem duplicateIdMakesLocal : Obligations.DuplicateIdMakesLocal := by
  intro s source kind sequence body c hc hl hs hid h31 hb
  obtain ⟨form, hexec⟩ := exec_framesFrom hc
  refine completes_of _ (hexec s) ?_
  rw [receive_duplicate hl hid h31 hb hs]
  refine ⟨by simp [setPosition, enterLocal], by simp [setPosition, enterLocal], ?_, by simp [setPosition, enterLocal_pager],
    offered_mono (enterLocal_offered _) (.of_port rfl rfl), by simp [setPosition, enterLocal],
    by simp [changesOnly_iff, setPosition, enterLocal]⟩
  simp [setPosition, enterLocal, cutGrant, Block.cfg]

/-! ## Slots (R50 to R52) -/

/-- A station's slot within its priority's range (R51), by last sender. -/
theorem slotOf_some (own l p : Nat) : slotOf own (some l) p = p * 32 + (own + 31 - l) % 32 := rfl

theorem slotOf_none (own p : Nat) : slotOf own none p = p * 32 + own := rfl

/-- Slots reckoned from one last sender never coincide (R51). -/
theorem slotOf_injective {own other p q : Nat} {last : Option Nat} (ho : own ≤ 31) (ht : other ≤ 31)
    (hl : ∀ l, last = some l → l ≤ 31) (h : slotOf own last p = slotOf other last q) : own = other ∧ p = q := by
  cases last with
  | none => simp only [slotOf_none] at h; omega
  | some l => have := hl l rfl; simp only [slotOf_some] at h; omega

/-- Each slot lies in its priority's range of 32 (R51). -/
theorem slotOf_range {own p : Nat} {last : Option Nat} (ho : own ≤ 31) :
    32 * p ≤ slotOf own last p ∧ slotOf own last p < 32 * p + 32 := by
  cases last with
  | none => simp only [slotOf_none]; omega
  | some l => simp only [slotOf_some]; omega

/-- The frame offered is the one of highest priority (R48, R51). -/
theorem offered_eq_frameDue (l : Line) : l.offered = frameDue l := by
  unfold Line.offered frameDue
  cases l.pageQueue <;> cases l.shiftQueue <;> simp

theorem priority_eq_rankOf (k : FrameKind) : k.priority = rankOf k := by cases k <;> rfl

/-- A DEMAND carries the clean tally modulo 65,536 (R147). -/
theorem demandBytes_ownDemand (b : Block) : demandBytes (ownDemand b) = demandBytes (demandNow b) := by
  unfold ownDemand demandNow
  by_cases h : b.cfg.kind = .dish <;> simp [demandBytes, h]

theorem pageQueue_of_frameDue {l : Line} (h : frameDue l = some .page) : l.pageQueue ≠ [] := by
  unfold frameDue at h
  split_ifs at h <;> simp_all

theorem shiftQueue_of_frameDue {l : Line} (h : frameDue l = some .shift) : l.shiftQueue ≠ [] := by
  unfold frameDue at h
  split_ifs at h <;> simp_all

/-- The frame that starts is built as its owner stands (R18, R55, R56, R122). -/
theorem newFlight_startsAs {b : Block} {k : FrameKind} (h : frameDue b.line = some k) :
    ∃ sequence kind body, startsAs b k sequence kind body ∧
      newFlight k b = { kind := k, sequence := sequence, bytes := frameBytes b.station.strapId kind sequence body } := by
  refine ⟨b.line.sequence k, (buildFrame k b).1, (buildFrame k b).2, ?_, rfl⟩
  cases k with
  | page =>
    obtain ⟨f, rest, hq⟩ := List.exists_cons_of_ne_nil (pageQueue_of_frameDue h)
    refine ⟨rfl, f, rest, hq, by simp [buildFrame, hq], ?_⟩
    cases hf : f.sub <;> simp [buildFrame, hq, PageFrame.form, hf, FrameForm.kindByte]
  | shift =>
    obtain ⟨x, rest, hq⟩ := List.exists_cons_of_ne_nil (shiftQueue_of_frameDue h)
    exact ⟨rfl, by simp [buildFrame, hq, FrameForm.kindByte], x, rest, hq, by simp [buildFrame, hq]; rfl⟩
  | course => exact ⟨rfl, rfl, rfl⟩
  | demand => exact ⟨rfl, rfl, demandBytes_ownDemand b⟩

/-- The frame a slot start begins (R51, R52): the one due, when the station transmits and this is its slot. -/
theorem startsAt_iff {n : Nat} {b : Block} {k : FrameKind} :
    startsAt n b = some k ↔ frameDue b.line = some k ∧ b.station.state.transmits = true ∧
      slotOf b.station.strapId b.line.lastSender (rankOf k) = n := by
  simp [startsAt, offered_eq_frameDue, priority_eq_rankOf, Option.filter_eq_some_iff, Block.id]

/-- The start of a slot with the line at rest (R52). -/
theorem slotStart_atRest {b : Block} (hr : b.runs = true) (hp : b.line.position = .cycle) :
    slotStart true b =
      (match startsAt b.line.nextSlot b with
      | some k => b.onLine fun l =>
          { l with slot := b.line.nextSlot, slotBegun := true, position := .transmitting, inFlight := some (newFlight k b) }
      | none => b.onLine fun l => { l with slot := b.line.nextSlot, slotBegun := true }) := by
  have hs : startsAt b.line.nextSlot (b.onLine fun l => { l with slot := b.line.nextSlot, slotBegun := true }) =
      startsAt b.line.nextSlot b := rfl
  unfold slotStart
  rw [if_pos ⟨hr, hp⟩]
  dsimp only
  rw [if_pos rfl, hs]
  cases startsAt b.line.nextSlot b with
  | none => rfl
  | some k => cases k <;> rfl

/-- Settles O25: slots by arithmetic, gaps and activity by their definitions, the start of a slot by what is due. -/
theorem slotsAreReckonedAndTaken : Obligations.SlotsAreReckonedAndTaken := by
  refine ⟨fun own other p q last ho ht _ _ hl => ?_, fun s hr => ⟨fun hp => ?_, fun hp => ?_, fun hp => ⟨?_, ?_⟩⟩⟩
  · obtain ⟨hlow, hhigh⟩ := slotOf_range (p := p) (last := last) ho
    refine ⟨slotOf_injective ho ht hl, hlow, hhigh, by rw [slotOf_none]; omega, ?_⟩
    rintro l rfl
    have := hl l rfl
    rw [slotOf_some]
    omega
  · refine completes_of beginCycle rfl ?_
    rw [beginCycle, if_pos ⟨hr, hp⟩]
    simp [changesOnly_iff]
  · refine completes_of activitySeen rfl ?_
    rw [activitySeen, if_pos ⟨hr, hp⟩]
    simp [changesOnly_iff, setPosition]
  · refine completes_of (slotStart false) rfl ?_
    rw [slotStart, if_pos ⟨hr, hp⟩]
    simp [changesOnly_iff, setPosition]
  · refine completes_of (slotStart true) rfl ?_
    rw [slotStart_atRest hr hp]
    refine ⟨fun k ht hd hn => ?_, fun h => ?_, ?_⟩
    · obtain ⟨sequence, kind, body, hstarts, hflight⟩ := newFlight_startsAs hd
      refine ⟨sequence, kind, body, hstarts, ?_⟩
      rw [startsAt_iff.2 ⟨hd, ht, hn⟩]
      simp [hflight]
    · have hnone : startsAt s.block.line.nextSlot s.block = none := by
        rw [Option.eq_none_iff_forall_ne_some]
        intro k hk
        obtain ⟨hd, ht, hn⟩ := startsAt_iff.1 hk
        obtain h | h | ⟨k', hk', h⟩ := h <;> simp_all
      rw [hnone]
      simp
    · cases startsAt s.block.line.nextSlot s.block <;> simp [changesOnly_iff]

end Sys2Proof.Machine
end

section
/-! PROOFS. The division procedure (R6 to R8). -/

namespace Sys2Proof.Machine

/-! ## Counting by rank -/

/-- Of a finite set of numbers, as many have fewer than `k` members below them as `k` and the set's size allow. -/
theorem card_filter_rank_lt (s : Finset Nat) (k : Nat) :
    (s.filter fun a => (s.filter (· < a)).card < k).card = min k s.card := by
  induction s using Finset.induction_on_max with
  | empty => simp
  | insert a s hmax ih =>
    have ha : a ∉ s := fun h => lt_irrefl a (hmax a h)
    have below : ∀ x ∈ s, (insert a s).filter (· < x) = s.filter (· < x) := fun x hx => by
      rw [Finset.filter_insert, if_neg (hmax x hx).not_gt]
    have all : (insert a s).filter (· < a) = s := by
      rw [Finset.filter_insert, if_neg (lt_irrefl a), Finset.filter_true_of_mem hmax]
    have rest : s.filter (fun x => ((insert a s).filter (· < x)).card < k) =
        s.filter fun x => (s.filter (· < x)).card < k :=
      Finset.filter_congr fun x hx => by rw [below x hx]
    rw [Finset.filter_insert, all, rest, Finset.card_insert_of_notMem ha]
    split
    · rw [Finset.card_insert_of_notMem (fun h => ha (Finset.mem_filter.1 h).1), ih]
      omega
    · rw [ih]
      omega

/-- The same of claimants with distinct numbers. -/
theorem length_filter_rank_lt (l : List Claimant) (hd : (l.map Claimant.number).Nodup) (k : Nat) :
    (l.filter fun x => (l.filter fun y => decide (y.number < x.number)).length < k).length = min k l.length := by
  have count : ∀ q : Nat → Bool, (l.filter fun y => q y.number).length =
      ((l.map Claimant.number).toFinset.filter fun a => q a = true).card := fun q => by
    rw [← List.toFinset_filter, List.toFinset_card_of_nodup (hd.filter _), List.filter_map, List.length_map]
    rfl
  have below : ∀ n, (l.filter fun y => decide (y.number < n)).length =
      ((l.map Claimant.number).toFinset.filter (· < n)).card := fun n => by
    simpa using count fun a => decide (a < n)
  simp only [below]
  rw [count fun a => decide (((l.map Claimant.number).toFinset.filter (· < a)).card < k)]
  simp only [decide_eq_true_eq]
  rw [card_filter_rank_lt, List.toFinset_card_of_nodup hd, List.length_map]

/-! ## Proportional parts rounded down -/

/-- Parts of `R` in proportion to numbers that sum to `E` fall short of `R` by less than one for each number above 0. -/
theorem sum_parts_bounds {E : Nat} (hE : 0 < E) (R : Nat) (l : List Nat) :
    E * (l.map fun e => e * R / E).sum ≤ l.sum * R ∧
      l.sum * R ≤ E * (l.map fun e => e * R / E).sum + (l.filter fun e => decide (0 < e)).length * (E - 1) := by
  induction l with
  | nil => simp
  | cons e rest ih =>
    have hdiv := Nat.div_add_mod (e * R) E
    have hmod : e * R % E ≤ E - 1 := by have := Nat.mod_lt (e * R) hE; omega
    obtain ⟨hlow, hhigh⟩ := ih
    rcases Nat.eq_zero_or_pos e with rfl | he
    · simpa using ⟨hlow, hhigh⟩
    · simp only [List.map_cons, List.sum_cons, List.filter_cons, he, decide_true, if_true, List.length_cons, Nat.mul_add,
        Nat.add_mul, one_mul]
      omega

/-! ## One class (R7) -/

/-- The claimants of a class. -/
def ofClass (cs : List Claimant) (c : Nat) : List Claimant := cs.filter fun x => decide (x.cls = c)

/-- Those of a class with an extra. -/
def extrasIn (cs : List Claimant) (c : Nat) : List Claimant := (ofClass cs c).filter fun x => decide (0 < x.extra)

/-- The extra a claimant receives in its own class when `R` is left for it (R7). -/
def servedIn (cs : List Claimant) (R : Nat) (x : Claimant) : Nat :=
  if classExtra cs x.cls ≤ R then x.extra else cutPart cs R x

theorem classExtra_eq (cs : List Claimant) (c : Nat) : classExtra cs c = ((ofClass cs c).map Claimant.extra).sum := rfl

theorem classParts_eq (cs : List Claimant) (c R : Nat) :
    classParts cs c R = (((ofClass cs c).map Claimant.extra).map fun e => e * R / classExtra cs c).sum := by
  rw [List.map_map]
  rfl

/-- In a cut class less than the amount left is placed by proportion, and there are claimants enough for the leftover. -/
theorem classParts_bounds {cs : List Claimant} {c R : Nat} (h : R < classExtra cs c) :
    classParts cs c R ≤ R ∧
      R - classParts cs c R ≤ (extrasIn cs c).length := by
  have hE : 0 < classExtra cs c := by omega
  obtain ⟨hlow, hhigh⟩ := sum_parts_bounds hE R ((ofClass cs c).map Claimant.extra)
  rw [← classExtra_eq, ← classParts_eq] at hlow hhigh
  rw [List.filter_map, List.length_map, show ((fun e => decide (0 < e)) ∘ Claimant.extra) =
    (fun x => decide (0 < x.extra)) from rfl, ← extrasIn] at hhigh
  refine ⟨Nat.le_of_mul_le_mul_left hlow hE, ?_⟩
  by_contra hlt
  have hn : (extrasIn cs c).length + classParts cs c R + 1 ≤ R := by omega
  have hE' := Nat.mul_le_mul_left (classExtra cs c) hn
  have hlen := Nat.mul_le_mul_left (extrasIn cs c).length (Nat.sub_le (classExtra cs c) 1)
  nlinarith

/-- The rank of a claimant counts those of its class with an extra that come before it (R7). -/
theorem rankIn_eq (cs : List Claimant) (x : Claimant) :
    rankIn cs x = ((extrasIn cs x.cls).filter fun y => decide (y.number < x.number)).length := by
  unfold rankIn extrasIn ofClass
  rw [List.filter_filter, List.filter_filter]
  congr 2
  funext y
  ac_rfl

/-- The leftover of a cut class goes out whole (R7, R8). -/
theorem sum_leftover {cs : List Claimant} (hd : (cs.map Claimant.number).Nodup) (c k : Nat)
    (hk : k ≤ (extrasIn cs c).length) :
    ((ofClass cs c).map fun x => if 0 < x.extra ∧ rankIn cs x < k then 1 else 0).sum = k := by
  have hnodup : ((extrasIn cs c).map Claimant.number).Nodup :=
    hd.sublist ((List.filter_sublist.trans List.filter_sublist).map _)
  have hsame : ((ofClass cs c).filter fun x => decide (0 < x.extra ∧ rankIn cs x < k)) =
      (extrasIn cs c).filter fun x =>
        ((extrasIn cs c).filter fun y => decide (y.number < x.number)).length < k := by
    conv_rhs => rw [extrasIn, List.filter_filter]
    refine List.filter_congr fun x hx => ?_
    have hcls : x.cls = c := by simpa using (List.mem_filter.1 hx).2
    rw [rankIn_eq, hcls, extrasIn, Bool.decide_and, Bool.and_comm]
  rw [List.sum_map_ite, hsame, List.map_const', List.map_const', List.sum_replicate, List.sum_replicate,
    length_filter_rank_lt _ hnodup, Nat.min_eq_left hk]
  simp

/-- A class receives its extras or all that is left for it, whichever is less (R7, R8). -/
theorem sum_servedIn {cs : List Claimant} (hd : (cs.map Claimant.number).Nodup) (c R : Nat) :
    ((ofClass cs c).map (servedIn cs R)).sum = min R (classExtra cs c) := by
  have hcls : ∀ x ∈ ofClass cs c, x.cls = c := fun x hx => by simpa using (List.mem_filter.1 hx).2
  rcases Nat.lt_or_ge R (classExtra cs c) with h | h
  · have hmap : (ofClass cs c).map (servedIn cs R) = (ofClass cs c).map fun x =>
        x.extra * R / classExtra cs c + if 0 < x.extra ∧ rankIn cs x < R - classParts cs c R then 1 else 0 :=
      List.map_congr_left fun x hx => by rw [servedIn, hcls x hx, if_neg (by omega), cutPart, hcls x hx]
    obtain ⟨hle, hleft⟩ := classParts_bounds h
    rw [hmap, List.sum_map_add, sum_leftover hd c _ hleft, Nat.min_eq_left h.le]
    have hparts : ((ofClass cs c).map fun x => x.extra * R / classExtra cs c).sum = classParts cs c R := rfl
    omega
  · have hmap : (ofClass cs c).map (servedIn cs R) = (ofClass cs c).map Claimant.extra :=
      List.map_congr_left fun x hx => by rw [servedIn, hcls x hx, if_pos h]
    rw [hmap, ← classExtra_eq, Nat.min_eq_right h]

/-- No claimant receives more than its extra (R8). -/
theorem servedIn_le (cs : List Claimant) (R : Nat) (x : Claimant) : servedIn cs R x ≤ x.extra := by
  unfold servedIn
  split
  · exact le_rfl
  · rename_i h
    unfold cutPart
    rcases Nat.eq_zero_or_pos x.extra with h0 | hpos
    · simp [h0]
    · have hlt : x.extra * R / classExtra cs x.cls < x.extra :=
        (Nat.div_lt_iff_lt_mul (by omega)).2 ((Nat.mul_lt_mul_left hpos).2 (by omega))
      split <;> omega

/-! ## The classes in turn (R7, R8) -/

/-- A claimant of no class served receives nothing. -/
theorem extraShare_of_notMem {cs : List Claimant} {x : Claimant} {order : List Nat} (h : x.cls ∉ order) (R : Nat) :
    extraShare cs x order R = 0 := by
  induction order generalizing R with
  | nil => rfl
  | cons c rest ih =>
    rw [List.mem_cons, not_or] at h
    rw [extraShare, if_neg h.1, ih h.2]

/-- A class takes its extras from what is left, and the next classes what remains. -/
theorem extraShare_cons (cs : List Claimant) (x : Claimant) (c : Nat) (rest : List Nat) (R : Nat) :
    extraShare cs x (c :: rest) R =
      if x.cls = c then servedIn cs R x else extraShare cs x rest (R - classExtra cs c) := by
  have hrest : (if classExtra cs c ≤ R then R - classExtra cs c else 0) = R - classExtra cs c := by split <;> omega
  rw [extraShare, hrest]
  split
  · rename_i h
    rw [servedIn, h]
  · rfl

/-- The classes together receive their extras or all that is left, whichever is less (R8). -/
theorem sum_extraShare {cs : List Claimant} (hd : (cs.map Claimant.number).Nodup) {order : List Nat} (ho : order.Nodup)
    (R : Nat) : (cs.map fun x => extraShare cs x order R).sum = min R (order.map (classExtra cs)).sum := by
  induction order generalizing R with
  | nil => simp [extraShare]
  | cons c rest ih =>
    obtain ⟨hc, hrest⟩ := List.nodup_cons.1 ho
    have hsplit : ∀ x : Claimant, extraShare cs x (c :: rest) R =
        (if x.cls = c then servedIn cs R x else 0) + extraShare cs x rest (R - classExtra cs c) := fun x => by
      rw [extraShare_cons]
      split
      · rename_i h
        rw [extraShare_of_notMem (h ▸ hc), Nat.add_zero]
      · rw [Nat.zero_add]
    have hclass : (cs.map fun x => if x.cls = c then servedIn cs R x else 0).sum = min R (classExtra cs c) := by
      rw [List.sum_map_ite, ← sum_servedIn hd c R]
      simp [ofClass]
    simp only [hsplit]
    rw [List.sum_map_add, hclass, ih hrest, List.map_cons, List.sum_cons]
    omega

theorem extraShare_le (cs : List Claimant) (x : Claimant) (order : List Nat) (R : Nat) :
    extraShare cs x order R ≤ x.extra := by
  induction order generalizing R with
  | nil => exact Nat.zero_le _
  | cons c rest ih =>
    rw [extraShare_cons]
    split
    · exact servedIn_le _ _ _
    · exact ih _

/-! ## The shares (R6 to R8) -/

/-- Overcommitted, each share is the floor's proportional part, at most the floor (R6). -/
theorem shareOf_overcommitted {M : Nat} {cs : List Claimant} (h : overcommits M cs = true) (x : Claimant) :
    shareOf M cs x = x.floor * M / sumFloors cs ∧ shareOf M cs x ≤ x.floor := by
  have hlt : M < sumFloors cs := by simpa [overcommits] using h
  have hshare : shareOf M cs x = x.floor * M / sumFloors cs := by rw [shareOf, if_pos h]
  exact ⟨hshare, hshare ▸ Nat.div_le_of_le_mul (by rw [Nat.mul_comm]; exact Nat.mul_le_mul_right _ hlt.le)⟩

/-- Overcommitted, the shares sum to at most the amount (R8). -/
theorem sum_shareOf_overcommitted {M : Nat} {cs : List Claimant} (h : overcommits M cs = true) :
    (cs.map (shareOf M cs)).sum ≤ M := by
  have hlt : M < sumFloors cs := by simpa [overcommits] using h
  obtain ⟨hlow, _⟩ := sum_parts_bounds (E := sumFloors cs) (by omega) M (cs.map Claimant.floor)
  have hmap : cs.map (shareOf M cs) = (cs.map Claimant.floor).map fun e => e * M / sumFloors cs := by
    rw [List.map_map]
    exact List.map_congr_left fun x _ => (shareOf_overcommitted h x).1
  rw [hmap]
  exact Nat.le_of_mul_le_mul_left hlow (by omega)

/-- Otherwise a share is the floor and what the classes bring (R7). -/
theorem shareOf_floor {M : Nat} {cs : List Claimant} (h : overcommits M cs = false) (x : Claimant) :
    shareOf M cs x = x.floor + extraShare cs x [3, 2, 1, 0] (M - sumFloors cs) := by
  rw [shareOf, if_neg (by simp [h])]

/-- A share never passes its want (R8), whatever the class. -/
theorem shareOf_le_want {M : Nat} {cs : List Claimant} {x : Claimant} (hx : x.floor ≤ x.want) :
    shareOf M cs x ≤ x.want := by
  cases h : overcommits M cs with
  | true => exact (shareOf_overcommitted h x).2.trans hx
  | false =>
    have := extraShare_le cs x [3, 2, 1, 0] (M - sumFloors cs)
    rw [shareOf_floor h]
    unfold Claimant.extra at this
    omega

/-- Not overcommitted, the shares are the floors and, above them, the extras of the four classes or all that is left. -/
theorem sum_shareOf {M : Nat} {cs : List Claimant} (hd : (cs.map Claimant.number).Nodup) (h : overcommits M cs = false) :
    (cs.map (shareOf M cs)).sum =
      sumFloors cs + min (M - sumFloors cs) ([3, 2, 1, 0].map (classExtra cs)).sum := by
  have hmap : cs.map (shareOf M cs) = cs.map fun x => x.floor + extraShare cs x [3, 2, 1, 0] (M - sumFloors cs) :=
    List.map_congr_left fun x _ => shareOf_floor h x
  rw [hmap, List.sum_map_add, sum_extraShare hd (by decide)]
  rfl

/-- The shares sum to at most the amount (R8), whatever the classes. -/
theorem sum_shareOf_le {M : Nat} {cs : List Claimant} (hd : (cs.map Claimant.number).Nodup) :
    (cs.map (shareOf M cs)).sum ≤ M := by
  cases h : overcommits M cs with
  | true => exact sum_shareOf_overcommitted h
  | false =>
    have hle : sumFloors cs ≤ M := by simpa [overcommits] using h
    rw [sum_shareOf hd h]
    omega

/-- The extras of the classes above `c` (R7). -/
def extraAbove (cs : List Claimant) (c : Nat) : Nat := ((cs.filter fun y => decide (c < y.cls)).map Claimant.extra).sum

theorem extraAbove_succ (cs : List Claimant) (c : Nat) :
    extraAbove cs c = classExtra cs (c + 1) + extraAbove cs (c + 1) := by
  unfold extraAbove classExtra
  induction cs with
  | nil => rfl
  | cons x rest ih =>
    simp only [List.filter_cons]
    rcases Nat.lt_trichotomy x.cls (c + 1) with h | h | h
    · simp [show ¬c < x.cls by omega, show ¬x.cls = c + 1 by omega, show ¬c + 1 < x.cls by omega, ih]
    · simp [h, ih]
      omega
    · simp [show c < x.cls by omega, show ¬x.cls = c + 1 by omega, h, ih]
      omega

theorem extraAbove_top {cs : List Claimant} (h : ∀ x ∈ cs, x.cls ≤ 3) : extraAbove cs 3 = 0 := by
  have : cs.filter (fun y => decide (3 < y.cls)) = [] := by
    rw [List.filter_eq_nil_iff]
    intro x hx
    have := h x hx
    simp [this]
  simp [extraAbove, this]

/-- A claimant is served from what the floors and the classes above its own leave (R7). -/
theorem extraShare_eq_servedIn {cs : List Claimant} {x : Claimant} (h : ∀ y ∈ cs, y.cls ≤ 3) (hx : x.cls ≤ 3) (R : Nat) :
    extraShare cs x [3, 2, 1, 0] R = servedIn cs (R - extraAbove cs x.cls) x := by
  have h3 := extraAbove_top h
  have h2 : extraAbove cs 2 = classExtra cs 3 + extraAbove cs 3 := extraAbove_succ cs 2
  have h1 : extraAbove cs 1 = classExtra cs 2 + extraAbove cs 2 := extraAbove_succ cs 1
  have h0 : extraAbove cs 0 = classExtra cs 1 + extraAbove cs 1 := extraAbove_succ cs 0
  simp only [extraShare_cons]
  obtain hc | hc | hc | hc : x.cls = 0 ∨ x.cls = 1 ∨ x.cls = 2 ∨ x.cls = 3 := by omega
  all_goals
    simp only [hc, Nat.reduceEqDiff, reduceIte]
    congr 1
    omega

/-- All wants above the floors, class by class. -/
theorem sum_wants {cs : List Claimant} (h : ∀ x ∈ cs, x.floor ≤ x.want ∧ x.cls ≤ 3) :
    (cs.map Claimant.want).sum = sumFloors cs + ([3, 2, 1, 0].map (classExtra cs)).sum := by
  unfold sumFloors classExtra
  induction cs with
  | nil => rfl
  | cons x rest ih =>
    obtain ⟨hf, hc⟩ := h x List.mem_cons_self
    have ih := ih fun y hy => h y (List.mem_cons_of_mem _ hy)
    obtain hc | hc | hc | hc : x.cls = 0 ∨ x.cls = 1 ∨ x.cls = 2 ∨ x.cls = 3 := by omega
    all_goals
      simp [List.filter_cons, hc, Claimant.extra] at ih ⊢
      omega

/-- What the floors and the classes above leave for a class, by R7 and by the statement. -/
theorem leftFor_eq (M : Nat) (cs : List Claimant) (c : Nat) : leftFor M cs c = M - sumFloors cs - extraAbove cs c := rfl

/-- One claimant's place in the division (R7): whole where its class fits, else by proportion with its leftover. -/
theorem shareOf_class {M : Nat} {cs : List Claimant} (h : ∀ x ∈ cs, x.floor ≤ x.want ∧ x.cls ≤ 3)
    (ho : overcommits M cs = false) {x : Claimant} (hx : x ∈ cs) :
    shareOf M cs x = x.floor + servedIn cs (leftFor M cs x.cls) x := by
  rw [shareOf_floor ho, extraShare_eq_servedIn (fun y hy => (h y hy).2) (h x hx).2, leftFor_eq]

/-- The rank as the statement counts it. -/
theorem rankIn_eq_length (cs : List Claimant) (x : Claimant) :
    rankIn cs x =
      (cs.filter fun y => decide (y.cls = x.cls ∧ y.floor < y.want ∧ y.number < x.number)).length := by
  unfold rankIn
  congr 2
  funext y
  simp [Claimant.extra, Bool.and_assoc]

/-- Settles O13: the sum by classes, and one claimant's share by its own class. -/
theorem divisionPlacesTheAmount : Obligations.DivisionPlacesTheAmount := by
  intro M cs hd h
  have hnodup : (cs.map Claimant.number).Nodup := List.pairwise_map.2 hd
  refine ⟨decide_eq_true_iff, fun ho => ⟨?_, fun x hx => ?_⟩, fun ho => ⟨sum_shareOf_overcommitted ho,
    fun x _ => shareOf_overcommitted ho x⟩⟩
  · have hle : sumFloors cs ≤ M := by simpa [overcommits] using ho
    rw [sum_shareOf hnodup ho, sum_wants h]
    omega
  · have hclass := shareOf_class h ho hx
    have hfloor := (h x hx).1
    refine ⟨by omega, shareOf_le_want hfloor, fun hfit => ?_, fun hcut => ?_⟩
    · have hfit' : classExtra cs x.cls ≤ leftFor M cs x.cls := hfit
      rw [hclass, servedIn, if_pos hfit', Claimant.extra]
      omega
    · have hcut' : ¬classExtra cs x.cls ≤ leftFor M cs x.cls := Nat.not_le.2 hcut
      rw [hclass, servedIn, if_neg hcut', cutPart, rankIn_eq_length, Nat.add_assoc]
      simp only [Claimant.extra, Nat.sub_pos_iff_lt]
      rfl

end Sys2Proof.Machine
end

section
/-! PROOFS. Events and PAGE frames join their tails; the rest of the line and the counters of rounds stand. -/

namespace Sys2Proof.Machine

/-! ## What pages, events and counters of pages change of the line and the port -/

/-- The counters that a round of the Load Share Unit keeps (R16, R20). -/
def Counters.ofRounds (c : Counters) : Nat × Nat × Nat := (c.roundsCurtailed, c.roundsOvercommitted, c.roundsHeld)

/-- Events and PAGE frames joined their tails; the rest of the line and the counters of rounds stand. -/
structure Notices (b b' : Block) : Prop extends EventsGrow b b' where
  frames : b.line.pageQueue <+: b'.line.pageQueue
  line : { b'.line with pageQueue := [] } = { b.line with pageQueue := [] }
  rounds : b'.port.counters.ofRounds = b.port.counters.ofRounds

theorem Notices.refl (b : Block) : Notices b b := ⟨.refl b, List.prefix_refl _, rfl, rfl⟩

theorem Notices.trans {b c d : Block} (h : Notices b c) (g : Notices c d) : Notices b d :=
  ⟨h.toEventsGrow.trans g.toEventsGrow, h.frames.trans g.frames, g.line.trans h.line, g.rounds.trans h.rounds⟩

theorem Notices.foldl {α : Type} {f : Block → α → Block} (h : ∀ b x, Notices b (f b x)) (xs : List α) (b : Block) :
    Notices b (xs.foldl f b) := by
  induction xs generalizing b with
  | nil => exact .refl b
  | cons x rest ih => exact (h b x).trans (ih _)

section
variable {s b : Block}

/-- What leaves clock, line and port. -/
theorem Notices.same (h : Notices s b) {b' : Block} (hs : b'.station.clock = b.station.clock) (hl : b'.line = b.line)
    (hp : b'.port = b.port) : Notices s b' :=
  h.trans ⟨.of_port hs hp, by rw [hl], by rw [hl], by rw [hp]⟩

theorem Notices.ite (h : Notices s b) {b' : Block} (h' : Notices s b') {p : Prop} [Decidable p] :
    Notices s (if p then b else b') := by
  split
  · exact h
  · exact h'

theorem Notices.onDrive (h : Notices s b) {f : Drive → Drive} : Notices s (b.onDrive f) := h.same rfl rfl rfl

theorem Notices.onConveyor (h : Notices s b) {f : Conveyor → Conveyor} : Notices s (b.onConveyor f) := h.same rfl rfl rfl

theorem Notices.onPages (h : Notices s b) {f : Pages → Pages} : Notices s (b.onPages f) := h.same rfl rfl rfl

theorem Notices.onPlan (h : Notices s b) {f : Plan → Plan} : Notices s (b.onPlan f) := h.same rfl rfl rfl

theorem Notices.onStation (h : Notices s b) {f : Station → Station} (hf : (f b.station).clock = b.station.clock) :
    Notices s (b.onStation f) := h.same hf rfl rfl

theorem Notices.offer (h : Notices s b) {e : EventBody} : Notices s (offer e b) :=
  h.trans ⟨offer_grows e b, by simp, by simp, by simp⟩

/-- A counter that no round keeps. -/
theorem Notices.count (h : Notices s b) {n : CounterName} (hn : ∀ (c : Counters) (k : Nat), (c.add k n).ofRounds = c.ofRounds) :
    Notices s (count n b) :=
  h.trans ⟨count_grows n b, by simp, by simp, hn _ 1⟩

theorem Notices.queuePage (h : Notices s b) {f : PageFrame} : Notices s (queuePage f b).2 := by
  obtain ⟨_, _, hq⟩ | ⟨_, _, hq⟩ | ⟨_, hq⟩ := queuePage_cases f b
  · rw [hq]
    exact h.trans ⟨.of_port rfl rfl, by simp, rfl, rfl⟩
  · rw [hq]
    exact (h.count fun _ _ => rfl).count fun _ _ => rfl
  · rw [hq]
    exact h

theorem Notices.setMemory (h : Notices s b) {c : Cause} {r : MemRecord} : Notices s (setMemory c r b) := h.same rfl rfl rfl

theorem Notices.setPage (h : Notices s b) {i : Nat} {e : Option PageEntry} : Notices s (setPage i e b) := h.same rfl rfl rfl

theorem Notices.unlist (h : Notices s b) {c : Cause} : Notices s (unlist c b) := h.same rfl rfl rfl

theorem Notices.placeSend (h : Notices s b) {c : Cause} : Notices s (placeSend c b) :=
  h.same (by simp) (by simp) (by simp)

theorem Notices.pageEvent (h : Notices s b) {e : PageEntry} : Notices s (pageEvent e b) := h.offer

theorem Notices.removedEvent (h : Notices s b) {e : PageEntry} : Notices s (removedEvent e b) := h.offer

theorem Notices.makeEntry (h : Notices s b) {i : Nat} {w : Waiting} : Notices s (makeEntry i w b) :=
  (h.setMemory.setPage.pageEvent.count fun _ _ => rfl).queuePage.placeSend

theorem Notices.enterRetry (h : Notices s b) : Notices s (enterRetry b) := by
  unfold Machine.enterRetry
  split
  · exact h.onPages.makeEntry
  · exact h

theorem Notices.joinRetry (h : Notices s b) {c : Cause} {p l : Nat} : Notices s (joinRetry c p l b).1 := by
  unfold Machine.joinRetry
  split
  · exact h.onPages.count fun _ _ => rfl
  · split
    · exact h.same rfl rfl rfl
    · exact (h.count fun _ _ => rfl).offer

theorem Notices.raiseWith (h : Notices s b) {c : Cause} {p l : Nat} : Notices s (raiseWith c p l b).1 := by
  unfold Machine.raiseWith
  split
  · exact h.setPage.count fun _ _ => rfl
  · split
    · exact h.makeEntry
    · exact h.joinRetry

theorem Notices.raise (h : Notices s b) {k : CauseKind} {n : Nat} : Notices s (raise k n b) := h.raiseWith

theorem Notices.removeEntry (h : Notices s b) {i : Nat} {e : PageEntry} {g : Nat} : Notices s (removeEntry i e g b) :=
  h.setMemory.setPage.unlist.removedEvent.enterRetry

theorem Notices.offerClear (h : Notices s b) {i : Nat} {e : PageEntry} : Notices s (offerClear i e b) := by
  unfold Machine.offerClear
  dsimp only
  split
  · exact h.queuePage.removeEntry
  · exact h.queuePage.setPage.unlist

theorem Notices.resolve (h : Notices s b) {c : Cause} : Notices s (resolve c b) := by
  unfold Machine.resolve
  split
  · split
    · exact h.offerClear
    · exact h
  · exact h

theorem Notices.resolved (h : Notices s b) {k : CauseKind} {n : Nat} : Notices s (resolved k n b) := h.resolve

theorem Notices.adoptPage (h : Notices s b) {l : Nat} {c : Cause} : Notices s (adoptPage l c b) := by
  unfold Machine.adoptPage
  dsimp only
  split
  · exact .ite (.ite h.setPage.pageEvent.offerClear
      (.ite h.setPage.pageEvent.queuePage.placeSend h.setPage.pageEvent.queuePage)) h
  · exact h

theorem Notices.orphanPages (h : Notices s b) {l : Nat} {x : Option Nat} : Notices s (orphanPages l x b) := by
  unfold Machine.orphanPages
  split
  · exact h.trans (.foldl (fun b _ => (Notices.refl b).adoptPage) _ _)
  · exact h

/-! ### Courses, the conveyor, the station state -/

theorem Notices.mapCourses (h : Notices s b) {f : Course → Course} : Notices s (mapCourses f b) := h.same rfl rfl rfl

theorem Notices.evalReady (h : Notices s b) {i : Nat} : Notices s (evalReady i b) := by
  unfold Machine.evalReady
  dsimp only
  split
  · exact .ite h.onPlan.raise h.onPlan
  · exact h

theorem Notices.evalAllReady (h : Notices s b) : Notices s (evalAllReady b) :=
  h.trans (.foldl (fun b _ => (Notices.refl b).evalReady) _ _)

theorem Notices.closeHold (h : Notices s b) : Notices s (closeHold b) := by
  unfold Machine.closeHold
  dsimp only
  split
  · exact h.onConveyor.resolved
  · exact h.onConveyor

theorem Notices.raiseHold (h : Notices s b) {c : Nat} : Notices s (raiseHold c b) := h.onConveyor.raise

/-- The first half of a settled hold span: what leaving a timed hold reports (R146). -/
theorem Notices.settleHold (h : Notices s b) {x y : ConveyorState} : Notices s (settleHold x y b) := by
  unfold Machine.settleHold
  extract_lets half
  have hhalf : Notices s half := by
    unfold half
    split
    · split
      · split
        · exact h.resolved.raiseHold
        · exact h
      · exact h.closeHold
    · exact h
  split
  · exact hhalf.raiseHold
  · exact hhalf.raiseHold
  · split
    · exact hhalf.onConveyor
    · exact hhalf

theorem Notices.supersedeAdvance (h : Notices s b) {x : ConveyorState} : Notices s (supersedeAdvance x b) := by
  unfold Machine.supersedeAdvance Machine.endAdvance
  split
  · split
    · exact h.onConveyor.offer
    · exact h
  · exact h

theorem Notices.deriveConveyor (h : Notices s b) : Notices s (deriveConveyor b) := by
  unfold Machine.deriveConveyor
  dsimp only
  split
  · exact h
  · exact h.onConveyor.onDrive.settleHold.offer.supersedeAdvance

theorem Notices.decideElection (h : Notices s b) : Notices s (decideElection b) := h.same (by simp) (by simp) (by simp)

theorem Notices.changeState (h : Notices s b) {n : StationState} {r : EntryReason} : Notices s (changeState n r b) :=
  (h.onStation (f := fun s => { s with state := n, reason := r }) rfl).offer.decideElection

/-! ### Inputs, windows -/

theorem Notices.readInput (h : Notices s b) {i : Nat} {x : SensorInput} : Notices s (readInput i x b) := by
  unfold Machine.readInput
  dsimp only
  exact .ite h.onDrive h.onDrive.offer

theorem Notices.readInputs (h : Notices s b) {i : Nat} {xs : List SensorInput} : Notices s (readInputs i xs b) := by
  induction xs generalizing i b with
  | nil => exact h
  | cons x rest ih => exact ih h.readInput

theorem Notices.settleStarved (h : Notices s b) {k : Nat} : Notices s (settleStarved k b) := by
  unfold Machine.settleStarved
  dsimp only
  exact .ite (.ite h.onDrive.offer h.onDrive) h

theorem Notices.openWindow (h : Notices s b) : Notices s (openWindow b) := by
  unfold Machine.openWindow
  dsimp only
  exact .ite h.onDrive.onConveyor.deriveConveyor h.onDrive

end

end Sys2Proof.Machine
end

section
/-! PROOFS. The window start (R68 to R70, R74, R78). -/

namespace Sys2Proof.Machine

/-! ## Frames of several acts -/

theorem changesOnly_refl (ps : List Part) (b : Block) : changesOnly ps b b := fun p _ => by cases p <;> rfl

theorem changesOnly_trans {ps : List Part} {b c d : Block} (h : changesOnly ps b c) (g : changesOnly ps c d) :
    changesOnly ps b d := fun p hp => by
  have h := h p hp
  have g := g p hp
  cases p <;> exact Eq.trans g h

theorem changesOnly_mono {ps qs : List Part} {b c : Block} (h : changesOnly ps b c) (hsub : ps ⊆ qs) :
    changesOnly qs b c := fun p hp => h p fun hps => hp (hsub hps)

/-! ## The conveyor state derived (R136) -/

/-- A derivation of the conveyor state changes no more of a channel than its want (R138). -/
theorem deriveConveyor_drive (b : Block) : ∃ want : Channel → Want, (deriveConveyor b).drive =
    { b.drive with channels := b.drive.channels.map fun c => { c with want := want c } } := by
  unfold deriveConveyor
  dsimp only
  split
  · exact ⟨Channel.want, by simp⟩
  · refine ⟨fun c => if c.fitted = true ∧ c.role ≠ .heat then
      dishWant (b.onConveyor fun x => { x with state := conveyorStateOf b }) c else c.want, ?_⟩
    simp only [supersedeAdvance_drive, offer_drive, settleHold_drive, setDishWants, Block.onDrive_drive,
      Block.onConveyor_drive]
    congr 1
    refine List.map_congr_left fun c _ => ?_
    split <;> rfl

/-- A stopped conveyor with no fault and no run request stays as it is (R136). -/
theorem deriveConveyor_of_stopped {b : Block} (hs : b.conveyor.state = .stopped) (hu : b.conveyor.untracked = 0)
    (hj : b.conveyor.jammed = false) (hr : b.conveyor.runRequest = false) : deriveConveyor b = b := by
  have hstate : conveyorStateOf b = .stopped := by simp [conveyorStateOf, hu, hj, hr]
  simp [deriveConveyor, hstate, hs]

/-! ## The burst window (R68 to R71, R74, R78) -/

theorem numberChannels_eq_mapIdx (f : Nat → Channel → Channel) (k : Nat) (chs : List Channel) :
    numberChannels f k chs = chs.mapIdx fun i c => f (k + i) c := by
  induction chs generalizing k with
  | nil => rfl
  | cons c rest ih =>
    rw [numberChannels, ih, List.mapIdx_cons]
    simp only [Nat.add_zero, Nat.add_assoc, Nat.add_comm 1]

/-- The channels as a window start lays them out (R69, R70, R74). -/
def laidOut (b : Block) : List Channel :=
  b.drive.channels.mapIdx (Channel.startWindow b.cfg.blanking b.share.applied b.drive.channels)

/-- A window opens on the channels laid out; a DISH station's derivation may set wants after it (R68, R135, R138). -/
theorem openWindow_drive (b : Block) : ∃ want : Channel → Want, (openWindow b).drive =
    { b.drive with channels := (laidOut b).map (fun c => { c with want := want c }), ticksDriven := 0 } := by
  unfold openWindow laidOut
  simp only [numberChannels_eq_mapIdx, Nat.zero_add]
  split
  · obtain ⟨want, h⟩ := deriveConveyor_drive (computeSpeed (b.onDrive fun d =>
      { d with channels := d.channels.mapIdx fun i c =>
                 Channel.startWindow b.cfg.blanking b.share.applied d.channels i c,
               ticksDriven := 0 }))
    exact ⟨want, h.trans (by simp)⟩
  · exact ⟨Channel.want, by simp⟩

theorem openWindow_frame (b : Block) :
    changesOnly [.drive, .conveyor, .pages, .pager, .line, .port] b (openWindow b) := by
  unfold openWindow
  dsimp only
  split <;> simp [changesOnly_iff]

/-- A channel after the window just ended (R78). -/
def Channel.settled (c : Channel) : Channel :=
  if c.fitted then
    { c with
      starved := c.starvedAfter,
      health := if c.starved ≠ c.starvedAfter ∧ c.starvedAfter = 30 ∧ c.health = .ok then .unverified else c.health }
  else c

theorem settleStarved_drive (k : Nat) (b : Block) : (settleStarved k b).drive =
    { b.drive with channels := b.drive.channels.set k (channelAt k b).settled } := by
  unfold settleStarved Channel.settled
  dsimp only
  split
  · split <;> simp [setChannel, *]
  · have hset : b.drive.channels.set k (channelAt k b) = b.drive.channels := by
      rcases Nat.lt_or_ge k b.drive.channels.length with h | h
      · simp [channelAt, List.getD_eq_getElem?_getD, h]
      · exact List.set_eq_of_length_le h
    rw [hset]

/-- The first `n` channels settled. -/
def settleFirst (n : Nat) (chs : List Channel) : List Channel := chs.mapIdx fun k c => if k < n then c.settled else c

theorem settleFirst_zero (chs : List Channel) : settleFirst 0 chs = chs := by
  apply List.ext_getElem?
  simp [settleFirst]

theorem settleFirst_succ (n : Nat) (chs : List Channel) :
    (settleFirst n chs).set n ((settleFirst n chs).getD n {}).settled = settleFirst (n + 1) chs := by
  apply List.ext_getElem?
  intro j
  simp only [settleFirst, List.getElem?_set, List.getElem?_mapIdx, List.length_mapIdx, List.getD_eq_getElem?_getD]
  rcases Nat.lt_trichotomy n j with h | rfl | h
  · simp [show ¬n = j by omega, show ¬j < n by omega, show ¬j < n + 1 by omega]
  · rcases Nat.lt_or_ge n chs.length with hl | hl <;> simp [hl]
  · simp [show ¬n = j by omega, h, show j < n + 1 by omega]

theorem settleFirst_all {n : Nat} {chs : List Channel} (h : chs.length ≤ n) :
    settleFirst n chs = chs.map Channel.settled := by
  apply List.ext_getElem?
  intro j
  rcases Nat.lt_or_ge j n with hj | hj
  · simp [settleFirst, hj]
  · have hlen : chs.length ≤ j := h.trans hj
    simp [settleFirst, hlen]

/-- The channels settled in ascending number (R68). -/
theorem settleEach_drive (n : Nat) (b : Block) :
    ((List.range n).foldl (fun acc k => settleStarved k acc) b).drive =
      { b.drive with channels := settleFirst n b.drive.channels } := by
  induction n with
  | zero => simp [settleFirst_zero]
  | succ n ih =>
    rw [List.range_succ, List.foldl_append, List.foldl_cons, List.foldl_nil, settleStarved_drive, channelAt, ih]
    simp only [settleFirst_succ]

/-- A window settles every channel and takes the draw (R68, R78, R79). -/
theorem completeWindow_drive {b : Block} (h : b.drive.channels.length = 8) : (completeWindow b).drive =
    { b.drive with channels := b.drive.channels.map Channel.settled, draw := drawOf b.drive.channels } := by
  unfold completeWindow
  rw [settleEach_drive, settleFirst_all (n := Config.channels) (by simp [h, Config.channels])]
  rfl

/-- Settling changes channels and offers events. -/
theorem settleStarved_frame (k : Nat) (b : Block) : changesOnly [.drive, .port] b (settleStarved k b) := by
  unfold settleStarved
  dsimp only
  split
  · split <;> simp [changesOnly_iff, setChannel]
  · exact changesOnly_refl _ _

theorem completeWindow_frame (b : Block) : changesOnly [.drive, .port] b (completeWindow b) := by
  have hfold : ∀ (l : List Nat) (c : Block), changesOnly [.drive, .port] c (l.foldl (fun acc k => settleStarved k acc) c) := by
    intro l
    induction l with
    | nil => exact fun c => changesOnly_refl _ _
    | cons k rest ih => exact fun c => changesOnly_trans (settleStarved_frame k c) (ih _)
  exact changesOnly_trans (by simp [changesOnly_iff]) (hfold _ _)

theorem settleEach_grows (l : List Nat) (b : Block) : EventsGrow b (l.foldl (fun acc k => settleStarved k acc) b) :=
  (Notices.foldl (fun b _ => (Notices.refl b).settleStarved) l b).toEventsGrow

/-- A channel whose starved count comes to 30 while it is OK (R78). -/
def Channel.starves (c : Channel) : Prop :=
  c.fitted = true ∧ c.starved ≠ c.starvedAfter ∧ c.starvedAfter = 30 ∧ c.health = .ok

/-- A channel that starves offers its event (R78). -/
theorem settleStarved_offers {k : Nat} {b : Block} (h : (channelAt k b).starves) :
    offered (.channelHealth k .unverified none) b (settleStarved k b) := by
  obtain ⟨hf, hn⟩ := h
  unfold settleStarved
  dsimp only
  rw [if_pos hf, if_pos hn]
  exact offered_offer_of_port rfl rfl

theorem settleEach_offers {n k : Nat} {b : Block} (hk : k < n) (h : (channelAt k b).starves) :
    offered (.channelHealth k .unverified none) b ((List.range n).foldl (fun acc k => settleStarved k acc) b) := by
  induction n with
  | zero => exact absurd hk (Nat.not_lt_zero k)
  | succ n ih =>
    rw [List.range_succ, List.foldl_append, List.foldl_cons, List.foldl_nil]
    rcases Nat.lt_succ_iff_lt_or_eq.1 hk with hlt | rfl
    · exact offered_mono (ih hlt) ((Notices.refl _).settleStarved).toEventsGrow
    · refine offered_of_grows (settleEach_grows _ _) (settleStarved_offers ?_)
      have hchan : channelAt k ((List.range k).foldl (fun acc k => settleStarved k acc) b) = channelAt k b := by
        rw [channelAt, settleEach_drive, channelAt]
        simp [settleFirst, List.getD_eq_getElem?_getD]
      rwa [hchan]

theorem completeWindow_offers {k : Nat} {b : Block} (hk : k < 8) (h : (channelAt k b).starves) :
    offered (.channelHealth k .unverified none) b (completeWindow b) := by
  unfold completeWindow
  exact offered_of_grows (Notices.refl b).onDrive.toEventsGrow (settleEach_offers hk h)

/-! ## The division of the grant (R69) -/

/-- Claimants carry their channel numbers in ascending order. -/
theorem channelClaimants_numbers (k : Nat) (chs : List Channel) :
    ((channelClaimants k chs).map Claimant.number).Pairwise (· < ·) ∧ ∀ x ∈ channelClaimants k chs, k ≤ x.number := by
  induction chs generalizing k with
  | nil => simp [channelClaimants]
  | cons c rest ih =>
    obtain ⟨hrise, hlow⟩ := ih (k + 1)
    unfold channelClaimants
    split
    · have hn : (channelClaimant k c).number = k := by unfold channelClaimant; split <;> rfl
      refine ⟨List.pairwise_cons.2 ⟨fun n hmem => ?_, hrise⟩, List.forall_mem_cons.2 ⟨hn.ge, fun x hx => ?_⟩⟩
      · obtain ⟨x, hx, rfl⟩ := List.mem_map.1 hmem
        have := hlow x hx
        omega
      · have := hlow x hx
        omega
    · exact ⟨hrise, fun x hx => by have := hlow x hx; omega⟩

theorem channelClaimants_nodup (chs : List Channel) : ((channelClaimants 0 chs).map Claimant.number).Nodup :=
  (channelClaimants_numbers 0 chs).1.imp Nat.ne_of_lt

/-- A fitted healthy channel is among the claimants. -/
theorem mem_channelClaimants {k j : Nat} {chs : List Channel} {c : Channel} (h : chs[j]? = some c)
    (hc : (c.fitted && c.healthy) = true) : channelClaimant (k + j) c ∈ channelClaimants k chs := by
  induction chs generalizing k j with
  | nil => simp at h
  | cons d rest ih =>
    unfold channelClaimants
    cases j with
    | zero =>
      obtain rfl : d = c := by simpa using h
      rw [if_pos hc]
      exact List.mem_cons_self
    | succ j =>
      have hrest := ih (k := k + 1) (j := j) (by simpa using h)
      rw [Nat.add_right_comm, Nat.add_assoc] at hrest
      split
      · exact List.mem_cons_of_mem _ hrest
      · exact hrest

/-- The allotments are the claimants' shares (R69). -/
theorem sum_allotments (share : Claimant → Nat) (k : Nat) (chs : List Channel) :
    (chs.mapIdx fun i c => if c.fitted && c.healthy then share (channelClaimant (k + i) c) else 0).sum =
      ((channelClaimants k chs).map share).sum := by
  induction chs generalizing k with
  | nil => rfl
  | cons c rest ih =>
    have ih := ih (k + 1)
    simp only [Nat.add_assoc, Nat.add_comm 1] at ih
    rw [List.mapIdx_cons, List.sum_cons, channelClaimants, Nat.add_zero, ih]
    split
    · rw [List.map_cons, List.sum_cons]
    · rw [Nat.zero_add]

/-- What the layout of an allotment sets (R70). -/
theorem Channel.layOut_eq (c : Channel) (a : Nat) : c.layOut a =
    { c with
      allotment := a,
      onTicks := if a = 0 then 0 else (200 * a + c.residue) / c.rated,
      residue := if a = 0 then 0 else (200 * a + c.residue) % c.rated } := by
  unfold Channel.layOut
  dsimp only
  split
  · rename_i h
    rw [h]
  · rfl

theorem Channel.layOut_allotment (c : Channel) (a : Nat) : (c.layOut a).allotment = a := by rw [layOut_eq]

/-- The allotments of a window sum to at most the grant (R69). -/
theorem laidOut_sum_le (b : Block) : ((laidOut b).map Channel.allotment).sum ≤ b.share.applied := by
  have hmap : (laidOut b).map Channel.allotment = b.drive.channels.mapIdx fun i c =>
      if c.fitted && c.healthy then
        shareOf b.share.applied (channelClaimants 0 b.drive.channels) (channelClaimant (0 + i) c) else 0 := by
    apply List.ext_getElem?
    intro i
    cases hi : b.drive.channels[i]? with
    | none => simp [laidOut, hi]
    | some c => simp [laidOut, hi, Channel.startWindow, allotmentOf, Channel.layOut_allotment]
  rw [hmap, sum_allotments]
  exact sum_shareOf_le (channelClaimants_nodup _)

/-- An allotment passes neither its channel's want nor its rating (R69, R70). -/
theorem allotmentOf_le (grant : Nat) (chs : List Channel) (k : Nat) (c : Channel) :
    allotmentOf grant chs k c ≤ min c.want.amount c.rated := by
  unfold allotmentOf
  split
  · unfold channelClaimant
    split
    · exact shareOf_le_want (x := ⟨k, _, _, _⟩) le_rfl
    · exact shareOf_le_want (x := ⟨k, _, _, _⟩) (Nat.zero_le _)
  · exact Nat.zero_le _

/-- Settling leaves a channel the claimant it was. -/
theorem settled_claim (c : Channel) :
    c.settled.fitted = c.fitted ∧ c.settled.healthy = c.healthy ∧ c.settled.want = c.want ∧ c.settled.rated = c.rated ∧
      c.settled.residue = c.residue ∧ c.settled.output = c.output := by
  unfold Channel.settled
  split
  · refine ⟨rfl, ?_, rfl, rfl, rfl, rfl⟩
    unfold Channel.healthy
    dsimp only
    split
    · rename_i h
      simp [h.2.2]
    · rfl
  · exact ⟨rfl, rfl, rfl, rfl, rfl, rfl⟩

theorem channelClaimant_settled (k : Nat) (c : Channel) : channelClaimant k c.settled = channelClaimant k c := by
  obtain ⟨_, _, hwant, hrated, _⟩ := settled_claim c
  unfold channelClaimant
  rw [hwant, hrated]

theorem channelClaimants_settled (k : Nat) (chs : List Channel) :
    channelClaimants k (chs.map Channel.settled) = channelClaimants k chs := by
  induction chs generalizing k with
  | nil => rfl
  | cons c rest ih =>
    obtain ⟨hfitted, hhealthy, _⟩ := settled_claim c
    rw [List.map_cons, channelClaimants, channelClaimants, ih, channelClaimant_settled, hfitted, hhealthy]

theorem allotmentOf_settled (grant k : Nat) (chs : List Channel) (c : Channel) :
    allotmentOf grant (chs.map Channel.settled) k c.settled = allotmentOf grant chs k c := by
  obtain ⟨hfitted, hhealthy, _⟩ := settled_claim c
  unfold allotmentOf
  rw [channelClaimants_settled, channelClaimant_settled, hfitted, hhealthy]

/-- The channels after a window start within the working states (R68). -/
theorem windowStart_drive {b : Block} (hr : b.runs = true) (ht : b.drive.ticksDriven = 200)
    (hl : b.drive.channels.length = 8) : ∃ want : Channel → Want, (windowStart b).drive =
      { b.drive with
        channels := (laidOut (completeWindow b)).map (fun c => { c with want := want c }),
        draw := drawOf b.drive.channels, ticksDriven := 0 } := by
  obtain ⟨want, h⟩ := openWindow_drive (completeWindow b)
  refine ⟨want, ?_⟩
  rw [windowStart, if_pos ⟨hr, ht⟩, h, completeWindow_drive hl]

/-- One channel after a window start: settled, then laid out and its check planned (R70, R74, R78). -/
theorem windowStart_channel {b : Block} (hr : b.runs = true) (ht : b.drive.ticksDriven = 200)
    (hl : b.drive.channels.length = 8) {k : Nat} (hk : k < 8) : ∃ want : Want, channelAt k (windowStart b) =
      { Channel.startWindow b.cfg.blanking b.share.applied (b.drive.channels.map Channel.settled) k
          (channelAt k b).settled with want := want } := by
  obtain ⟨want, h⟩ := windowStart_drive hr ht hl
  have hlaid : (laidOut (completeWindow b))[k]? = some (Channel.startWindow b.cfg.blanking b.share.applied
      (b.drive.channels.map Channel.settled) k (channelAt k b).settled) := by
    rw [laidOut, completeWindow_drive hl]
    simp [Block.cfg, channelAt, List.getD_eq_getElem?_getD, hl, hk]
  refine ⟨want (Channel.startWindow b.cfg.blanking b.share.applied (b.drive.channels.map Channel.settled) k
    (channelAt k b).settled), ?_⟩
  rw [channelAt, h, List.getD_eq_getElem?_getD, List.getElem?_map, hlaid]
  rfl

/-- The first tick of each of the eight on-periods (R71). -/
theorem phaseOf_eq {k : Nat} (hk : k < 8) : phaseOf k = 25 * k := Nat.mod_eq_of_lt (by omega)

/-- The claim of a channel in the words of R69. -/
theorem channelClaimant_eq (k : Nat) (c : Channel) : channelClaimant k c =
    { number := k, floor := if c.want.kind = .floor then min c.want.amount c.rated else 0,
      want := min c.want.amount c.rated, cls := if c.want.kind = .floor then 0 else c.want.cls } := by
  cases h : c.want.kind <;> simp [channelClaimant, h]

theorem settled_starved (c : Channel) : c.settled.starved = if c.fitted then c.starvedAfter else c.starved := by
  unfold Channel.settled
  split <;> rfl

theorem settled_health (c : Channel) : c.settled.health =
    if c.fitted = true ∧ c.health = .ok ∧ c.starved ≠ c.starvedAfter ∧ c.starvedAfter = 30 then .unverified
    else c.health := by
  unfold Channel.settled
  split
  · rename_i hf
    exact if_congr ⟨fun ⟨hn, h30, hok⟩ => ⟨hf, hok, hn, h30⟩, fun ⟨_, hok, hn, h30⟩ => ⟨hn, h30, hok⟩⟩ rfl rfl
  · rename_i hf
    exact (if_neg fun h => hf h.1).symm

/-- The check planned for a channel laid out (R74). -/
theorem planCheck_eq {k : Nat} (hk : k < 8) (blanking : Nat) (c : Channel) : planCheck blanking k c =
    if (c.fitted && c.healthy) = true ∧ blanking + 2 ≤ c.onTicks then
      if 25 * k + blanking ≤ 199 then some (25 * k + blanking)
      else if c.output = true then some (25 * k + blanking - 200)
      else none
    else none := by
  unfold planCheck
  rw [phaseOf_eq hk]
  simp only [Bool.and_eq_true, decide_eq_true_eq]

/-- A starved channel's event comes in a window start (R78). -/
theorem windowStart_offers {b : Block} (hr : b.runs = true) (ht : b.drive.ticksDriven = 200) {k : Nat} (hk : k < 8)
    (h : (channelAt k b).starves) : offered (.channelHealth k .unverified none) b (windowStart b) := by
  rw [windowStart, if_pos ⟨hr, ht⟩]
  exact offered_mono (completeWindow_offers hk h) (Notices.refl _).openWindow.toEventsGrow

theorem windowStart_frame {b : Block} (hr : b.runs = true) (ht : b.drive.ticksDriven = 200) :
    changesOnly [.drive, .conveyor, .pages, .pager, .line, .port] b (windowStart b) := by
  rw [windowStart, if_pos ⟨hr, ht⟩]
  exact changesOnly_trans (changesOnly_mono (completeWindow_frame b) (by simp)) (openWindow_frame _)

/-- Settles O16: the window ended is settled channel by channel, then each is laid out from its allotment. -/
theorem windowStartDividesGrant : Obligations.WindowStartDividesGrant := by
  intro s hr ht hl
  refine completes_of windowStart rfl ?_
  obtain ⟨want, hdrive⟩ := windowStart_drive hr ht hl
  refine ⟨?_, by rw [hdrive]; rfl, by rw [hdrive], by rw [hdrive], fun k hk => ?_, ?_⟩
  · have hsum := laidOut_sum_le (completeWindow s.block)
    rw [(completeWindow_station_share s.block).2] at hsum
    rw [hdrive]
    simpa [Function.comp_def] using hsum
  · obtain ⟨w, hchan⟩ := windowStart_channel hr ht hl hk
    obtain ⟨hfitted, hhealthy, hwant, hrated, hresidue, houtput⟩ := settled_claim (channelAt k s.block)
    have hmem : s.block.drive.channels[k]? = some (channelAt k s.block) := by
      simp [channelAt, List.getD_eq_getElem?_getD, hl, hk]
    have hclaim := channelClaimant_eq k (channelAt k s.block)
    dsimp only
    rw [hchan, ← hclaim]
    have hsettled := settled_starved (channelAt k s.block)
    have hhealth := settled_health (channelAt k s.block)
    have hplan := planCheck_eq hk s.block.cfg.blanking
    simp only [Channel.startWindow, allotmentOf_settled, Channel.layOut_eq, hplan, hresidue, hrated]
    refine ⟨rfl, fun hc => ?_, allotmentOf_le _ _ _ _, trivial, trivial, hsettled, hhealth,
      fun ⟨hf, hok, hn, h30⟩ => windowStart_offers hr ht hk ⟨hf, hn, h30, hok⟩, ?_, trivial, trivial⟩
    · have := mem_channelClaimants (k := 0) hmem hc
      rwa [Nat.zero_add] at this
    · unfold Channel.healthy at hhealthy ⊢
      rw [hfitted, hhealthy, houtput]
  · exact windowStart_frame hr ht

end Sys2Proof.Machine
end

section
/-! PROOFS. The settings check and the entry to LISTEN (R35, R39, R82). -/

namespace Sys2Proof.Machine

/-! ## The inputs read (R82) -/

theorem readInput_inputs (i : Nat) (x : SensorInput) (b : Block) :
    (readInput i x b).drive.inputs = b.drive.inputs.set i (judgeInput (inputAt i b) x) := by
  unfold readInput
  dsimp only
  split <;> simp

/-- A reading leaves the other inputs as they were. -/
theorem inputAt_readInput_ne {i j : Nat} (x : SensorInput) (b : Block) (h : i ≠ j) :
    inputAt j (readInput i x b) = inputAt j b := by
  rw [inputAt, readInput_inputs]
  simp [inputAt, List.getD_eq_getElem?_getD, h]

theorem inputAt_readInput {i : Nat} (x : SensorInput) {b : Block} (h : i < b.drive.inputs.length) :
    inputAt i (readInput i x b) = judgeInput (inputAt i b) x := by
  rw [inputAt, readInput_inputs]
  simp [List.getD_eq_getElem?_getD, h]

theorem readInput_offers {i : Nat} {x : SensorInput} {b : Block}
    (h : (judgeInput (inputAt i b) x).status ≠ (inputAt i b).status) :
    offered (.sensorStatus i (judgeInput (inputAt i b) x).status) b (readInput i x b) := by
  unfold readInput
  dsimp only
  rw [if_neg h]
  exact offered_offer_of_port rfl rfl

theorem readInput_frame (i : Nat) (x : SensorInput) (b : Block) : changesOnly [.drive, .port] b (readInput i x b) := by
  unfold readInput
  dsimp only
  split <;> simp [changesOnly_iff]

theorem readInputs_frame (i : Nat) (xs : List SensorInput) (b : Block) :
    changesOnly [.drive, .port] b (readInputs i xs b) := by
  induction xs generalizing i b with
  | nil => exact changesOnly_refl _ _
  | cons x rest ih => exact changesOnly_trans (readInput_frame i x b) (ih _ _)

/-- Inputs below the first number read stand. -/
theorem inputAt_readInputs_of_lt {i j : Nat} (xs : List SensorInput) (b : Block) (h : j < i) :
    inputAt j (readInputs i xs b) = inputAt j b := by
  induction xs generalizing i b with
  | nil => rfl
  | cons x rest ih => rw [readInputs, ih _ (by omega), inputAt_readInput_ne _ _ (by omega)]

/-- Each input read is judged from its record (R82). -/
theorem inputAt_readInputs {i j : Nat} {xs : List SensorInput} {x : SensorInput} {b : Block} (hx : xs[j]? = some x)
    (hl : i + xs.length ≤ b.drive.inputs.length) :
    inputAt (i + j) (readInputs i xs b) = judgeInput (inputAt (i + j) b) x := by
  induction xs generalizing i j b with
  | nil => simp at hx
  | cons y rest ih =>
    rw [List.length_cons] at hl
    cases j with
    | zero =>
      obtain rfl : y = x := by simpa using hx
      rw [readInputs, Nat.add_zero, inputAt_readInputs_of_lt _ _ (by omega), inputAt_readInput _ (by omega)]
    | succ j =>
      have hrest := ih (i := i + 1) (j := j) (b := readInput i y b) (by simpa using hx)
        (by rw [readInput_inputs, List.length_set]; omega)
      rw [readInputs, show i + (j + 1) = i + 1 + j by omega, hrest, inputAt_readInput_ne _ _ (by omega)]

/-- A change of status comes with its event (R82). -/
theorem readInputs_offers {i j : Nat} {xs : List SensorInput} {x : SensorInput} {b : Block} (hx : xs[j]? = some x)
    (h : (judgeInput (inputAt (i + j) b) x).status ≠ (inputAt (i + j) b).status) :
    offered (.sensorStatus (i + j) (judgeInput (inputAt (i + j) b) x).status) b (readInputs i xs b) := by
  induction xs generalizing i j b with
  | nil => simp at hx
  | cons y rest ih =>
    cases j with
    | zero =>
      obtain rfl : y = x := by simpa using hx
      exact offered_mono (readInput_offers h) (Notices.refl _).readInputs.toEventsGrow
    | succ j =>
      have hne := inputAt_readInput_ne y b (show i ≠ i + 1 + j by omega)
      have hrest := ih (i := i + 1) (j := j) (b := readInput i y b) (by simpa using hx)
      rw [hne] at hrest
      rw [show i + (j + 1) = i + 1 + j by omega] at h ⊢
      exact offered_of_grows (Notices.refl b).readInput.toEventsGrow (hrest h)

/-! ## The first window (R68, R135) -/

theorem laidOut_faultedNow {b : Block} {c : Channel} (h : c ∈ laidOut b) : c.faultedNow = false := by
  obtain ⟨i, _, rfl⟩ := List.mem_mapIdx.1 h
  rfl

/-- A window opens the channels alone where no conveyor runs. -/
theorem openWindow_of_not_dish {b : Block} (h : b.dishRuns = false) :
    openWindow b = b.onDrive fun d => { d with channels := laidOut b, ticksDriven := 0 } := by
  have hd : ∀ f, (b.onDrive f).dishRuns = false := fun _ => h
  unfold openWindow
  simp only [hd, numberChannels_eq_mapIdx, Nat.zero_add]
  rfl

/-- A stopped conveyor takes its speed from the window opened and stays stopped (R135, R136). -/
theorem openWindow_of_reset {b : Block} (h : b.dishRuns = true) (hc : b.conveyor = {}) :
    openWindow b = computeSpeed (b.onDrive fun d => { d with channels := laidOut b, ticksDriven := 0 }) := by
  have hd : ∀ f, (b.onDrive f).dishRuns = true := fun _ => h
  unfold openWindow
  simp only [hd, numberChannels_eq_mapIdx, Nat.zero_add]
  rw [if_pos trivial, deriveConveyor_of_stopped] <;> simp [computeSpeed, hc]
  rfl

/-- In a window just opened a RINSE channel counts its allotment while it is healthy (R135). -/
theorem rinseAllotment_of_laidOut {b : Block} {c : Channel} (h : c ∈ laidOut b) :
    c.rinseAllotment = if c.healthy then c.allotment else 0 := by
  unfold Channel.rinseAllotment Channel.healthy
  rw [laidOut_faultedNow h]
  cases c.health <;> simp

theorem computeSpeed_conveyor (b : Block) (hc : ∀ c ∈ b.drive.channels,
    c.rinseAllotment = if c.healthy then c.allotment else 0) : (computeSpeed b).conveyor =
      { b.conveyor with speedFraction := rinseFraction b, speed := b.cfg.vMax * rinseFraction b / 1000 } := by
  have hmap : (channelsOf .rinse b).map Channel.rinseAllotment =
      (channelsOf .rinse b).map fun c => if c.healthy then c.allotment else 0 :=
    List.map_congr_left fun c h => hc c (List.mem_of_mem_filter h)
  unfold computeSpeed rinseFraction
  simp only [Block.onConveyor_conveyor, hmap]
  rfl

/-! ## The entry to LISTEN (R39) -/

/-- The line as it stands when only PAGE frames joined it. -/
theorem Notices.line_eq {b b' : Block} (h : Notices b b') : b'.line = { b.line with pageQueue := b'.line.pageQueue } := by
  have hl := congrArg (fun l : Line => { l with pageQueue := b'.line.pageQueue }) h.line
  exact hl

/-- The records of station and line that the entry to LISTEN sets (R39, R50). -/
def listenRecords (b : Block) : Block :=
  (b.onStation fun s => { s with listenRounds := 0, announceTimer := some b.cfg.period, initStep := .finished }).onLine
    fun l => { l with position := .seeking, lastSender := none }

/-- The part in LISTEN, before the inputs are read (R39, R46). -/
def inListen (b : Block) : Block := changeState .listen .checksPassed (listenRecords b)

theorem enterListen_eq (inputs : List SensorInput) (b : Block) :
    enterListen inputs b = openWindow (readInputs 0 (inputs.take Config.channels) (inListen b)) := rfl

theorem inListen_station (b : Block) : (inListen b).station =
    { b.station with
      state := .listen, reason := .checksPassed, listenRounds := 0, announceTimer := some b.cfg.period,
      initStep := .finished } := by
  simp [inListen, listenRecords, changeState]

theorem inListen_line (b : Block) : (inListen b).line = { b.line with position := .seeking, lastSender := none } := by
  simp [inListen, listenRecords, changeState]

theorem inListen_drive (b : Block) : (inListen b).drive = b.drive := by simp [inListen, listenRecords, changeState]

theorem inListen_frame (b : Block) : changesOnly [.station, .line, .pager, .port] b (inListen b) := by
  simp [changesOnly_iff, inListen, listenRecords, changeState]

theorem listenRecords_grows (b : Block) : EventsGrow b (listenRecords b) := .of_port rfl rfl

theorem inListen_offered {b : Block} (h : b.station.state = .initial) :
    offered (.stateChange .initial .listen .checksPassed) b (inListen b) := by
  have hb := changeState_offered .listen .checksPassed (listenRecords b)
  rw [show (listenRecords b).station.state = .initial from h] at hb
  exact offered_of_grows (listenRecords_grows b) hb

theorem inListen_grows (b : Block) : EventsGrow b (inListen b) :=
  (listenRecords_grows b).trans (changeState_grows _ _ _)

/-- Reading the inputs and opening the window leave station and line, PAGE frames apart. -/
theorem enterListen_notices (inputs : List SensorInput) (b : Block) : Notices (inListen b) (enterListen inputs b) :=
  (Notices.refl _).readInputs.openWindow

theorem enterListen_station (inputs : List SensorInput) (b : Block) :
    (enterListen inputs b).station = (inListen b).station := by
  rw [enterListen_eq, (openWindow_station_share _).1, (readInputs_station_share _ _ _).1]

theorem enterListen_frame (inputs : List SensorInput) (b : Block) :
    changesOnly [.station, .line, .drive, .conveyor, .pages, .pager, .port] b (enterListen inputs b) := by
  have hread := changesOnly_trans (changesOnly_mono (inListen_frame b) (by simp))
    (changesOnly_mono (qs := [.station, .line, .drive, .conveyor, .pages, .pager, .port])
      (readInputs_frame 0 (inputs.take Config.channels) (inListen b)) (by simp))
  exact changesOnly_trans hread (changesOnly_mono (openWindow_frame _) (by simp))

/-- Every input is read at the entry, a change of status with its event (R82). -/
theorem enterListen_inputs {inputs : List SensorInput} {b : Block} (hl : inputs.length = 8)
    (hi : b.drive.inputs.length = 8) {i : Nat} {x : SensorInput} (hx : inputs[i]? = some x) :
    inputAt i (enterListen inputs b) = judgeInput (inputAt i b) x ∧
      ((inputAt i (enterListen inputs b)).status ≠ (inputAt i b).status →
        offered (.sensorStatus i (inputAt i (enterListen inputs b)).status) b (enterListen inputs b)) := by
  have htake : (inputs.take Config.channels) = inputs := List.take_of_length_le (by simp [hl, Config.channels])
  have hstands : ∀ j, inputAt j (inListen b) = inputAt j b := fun j => by rw [inputAt, inListen_drive, inputAt]
  have hread := inputAt_readInputs (i := 0) (b := inListen b) hx (by simp [inListen_drive, hl, hi])
  have hoffers := readInputs_offers (i := 0) (b := inListen b) hx
  rw [Nat.zero_add, hstands] at hread hoffers
  obtain ⟨want, hdrive⟩ := openWindow_drive (readInputs 0 inputs (inListen b))
  have hat : inputAt i (enterListen inputs b) = judgeInput (inputAt i b) x := by
    rw [enterListen_eq, htake, inputAt, hdrive, ← hread, inputAt]
  refine ⟨hat, fun hne => ?_⟩
  rw [hat] at hne ⊢
  rw [enterListen_eq, htake]
  exact offered_mono (offered_of_grows (inListen_grows b) (hoffers hne)) (Notices.refl _).openWindow.toEventsGrow

/-- Before the window opens, conveyor, pages and PAGE queue stand, and a tracker runs in a DISH station. -/
theorem beforeWindow_stands (xs : List SensorInput) {b : Block} (h : b.station.resetHeld = false) :
    (readInputs 0 xs (inListen b)).conveyor = b.conveyor ∧ (readInputs 0 xs (inListen b)).pages = b.pages ∧
      (readInputs 0 xs (inListen b)).line.pageQueue = b.line.pageQueue ∧
      (readInputs 0 xs (inListen b)).dishRuns = decide (b.cfg.kind = .dish) ∧
      (readInputs 0 xs (inListen b)).cfg = b.cfg := by
  have hframe := readInputs_frame 0 xs (inListen b)
  have hlisten := inListen_frame b
  simp only [changesOnly_iff] at hframe hlisten
  have hstation := (readInputs_station_share 0 xs (inListen b)).1.trans (inListen_station b)
  have hcfg : (readInputs 0 xs (inListen b)).cfg = b.cfg := by rw [Block.cfg, hstation, Block.cfg]
  have hdish : (readInputs 0 xs (inListen b)).dishRuns = decide (b.cfg.kind = .dish) := by
    rw [Block.dishRuns, hcfg, Block.runs, hstation]
    simp [h, StationState.works]
  have hline := inListen_line b
  exact ⟨by simp_all, by simp_all, by simp_all, hdish, hcfg⟩

/-- Settles O5: the settings check and the loopback test by their branches, the entry to LISTEN by its steps. -/
theorem initStepsLoadListenOrHalt : Obligations.InitStepsLoadListenOrHalt := by
  refine ⟨fun s hat hw => ⟨fun x hx => ?_, fun hx => ?_⟩, fun s inputs hat hl hi => ⟨?_, ?_⟩⟩
  · refine completes_of checkSettings rfl ?_
    rw [checkSettings, if_pos ⟨hat, hw⟩, hx]
    exact ⟨rfl, rfl, by simp [changesOnly_iff, takeSettings, readImage]⟩
  · refine completes_of checkSettings rfl ?_
    rw [checkSettings, if_pos ⟨hat, hw⟩, hx]
    exact ⟨rfl, by simp [changesOnly_iff, halt, readImage]⟩
  · refine completes_of (loopbackDone false inputs) rfl ?_
    rw [loopbackDone, if_pos hat]
    exact ⟨rfl, by simp [changesOnly_iff, halt]⟩
  · refine completes_of (loopbackDone true inputs) rfl ?_
    rw [loopbackDone, if_pos hat, if_pos rfl]
    obtain ⟨⟨hheld, hinit⟩, _⟩ : (s.block.station.resetHeld = false ∧ s.block.station.state = .initial) ∧ _ := by
      simpa [initAt] using hat
    have hline := (enterListen_notices inputs s.block).line_eq
    obtain ⟨want, hdrive⟩ := openWindow_drive (readInputs 0 (inputs.take Config.channels) (inListen s.block))
    obtain ⟨hconveyor, hpages, hqueue, hdish, hcfg⟩ := beforeWindow_stands (inputs.take Config.channels) hheld
    refine ⟨(enterListen_station _ _).trans (inListen_station _), by rw [enterListen_eq, hdrive],
      offered_mono (inListen_offered hinit) (enterListen_notices _ _).toEventsGrow,
      fun i x hx => enterListen_inputs hl hi hx, by rw [hline, inListen_line], fun hkind => ?_, fun hkind hreset => ?_,
      enterListen_frame _ _⟩
    · rw [enterListen_eq, openWindow_of_not_dish (by simpa [hkind] using hdish)]
      exact ⟨hqueue, hpages, hconveyor⟩
    · rw [enterListen_eq, openWindow_of_reset (by simpa [hkind] using hdish) (hconveyor.trans hreset)]
      refine ⟨hqueue, hpages, ?_⟩
      have hcfg' : ∀ f, (Block.onDrive f (readInputs 0 (inputs.take Config.channels) (inListen s.block))).cfg =
          s.block.cfg := fun _ => hcfg
      rw [computeSpeed_conveyor _ fun c => rinseAllotment_of_laidOut, hcfg', Block.onDrive_conveyor, hconveyor, hreset]
      rfl

end Sys2Proof.Machine
end

section
/-! PROOFS. The acts of a round, and its stage 0 (R9, R10). -/

namespace Sys2Proof.Machine

/-! ## The acts of a round, in order (R9) -/

/-- The part as the Load Share Unit finds it at a round: peers aged, the station state and the election decided, the
participants pruned (R27, R40, R125, R159). -/
def beforeShare (b : Block) : Block := pruneParticipants (decideElection (controlRound (agePeers b)))

/-- The part as stage 3 finds it (R13). -/
def beforeGrant (b : Block) : Block := divideFeeder (formInputs (beforeShare b))

/-- The Load Share Unit's round, the round parity and the DEMAND slot (R10 to R16, R18, R122). -/
def endRound (b : Block) : Block := handOnDemand (toggleParity (shareRound b))

theorem runRound_eq {b : Block} (hr : b.runs = true) (ha : b.station.announceTimer.isSome = true) :
    runRound b = endRound (beforeShare b) := if_pos ⟨hr, ha⟩

/-- A command's outcome, where its act is a round. -/
theorem completes_round {s : State} (hr : s.block.runs = true) (ha : s.block.station.announceTimer.isSome = true)
    {P : Block → Prop} (h : P (endRound (beforeShare s.block))) : completes .round s P :=
  completes_of runRound rfl (by rwa [runRound_eq hr ha])

theorem beforeShare_peers (b : Block) : (beforeShare b).peers =
    (b.peers.map fun p => { p with age := p.age + 1 }).filter fun p => decide (p.age < 8) := by
  simp only [beforeShare, pruneParticipants_peers, decideElection_peers, controlRound_peers, agePeers_peers]
  rfl

theorem beforeShare_cfg (b : Block) : (beforeShare b).cfg = b.cfg := by
  have h := (controlRound_station (agePeers b)).2.1
  simp [beforeShare, Block.cfg, h]

theorem beforeShare_drive (b : Block) : (beforeShare b).drive = b.drive := by simp [beforeShare]

theorem beforeShare_conveyor (b : Block) : (beforeShare b).conveyor = b.conveyor := by simp [beforeShare]

theorem beforeShare_store (b : Block) : (beforeShare b).store = b.store := by simp [beforeShare]

/-- Station and peers are as the Load Share Unit found them. -/
theorem endRound_station (b : Block) : (endRound b).station = b.station := by simp [endRound]

theorem endRound_peers (b : Block) : (endRound b).peers = b.peers := by simp [endRound]

theorem endRound_share (b : Block) : (endRound b).share = (shareRound b).share := by simp [endRound]

/-- Conveyor, channels and store stand at a round. -/
theorem round_frame (b : Block) : changesOnly [.station, .share, .peers, .line, .plan, .coord, .pages, .pager, .port] b
    (endRound (beforeShare b)) := by
  simp [changesOnly_iff, endRound, beforeShare_drive, beforeShare_conveyor, beforeShare_store]

/-! ## Stage 0 (R10) -/

/-- The budget lies in its range for settings in range (R10, R36). -/
theorem budgetOf_range {x : Settings} (h : x.sharedOk = true) : 80 ≤ budgetOf x ∧ budgetOf x ≤ 9999 := by
  simp only [Settings.sharedOk, within, Bool.and_eq_true, decide_eq_true_eq] at h
  obtain ⟨⟨⟨⟨hlow, hhigh⟩, _, hguard⟩, _⟩, _⟩ := h
  have hpart : x.feeder * x.guardPercent ≤ x.feeder * 20 := Nat.mul_le_mul_left _ hguard
  unfold budgetOf ceilDiv
  omega

/-- The figures of stages 0 to 2 (R10 to R12). -/
theorem divideFeeder_share (b : Block) : (divideFeeder b).share =
    { b.share with
      budget := budgetOf b.cfg, available := budgetOf b.cfg - fixedLoad b,
      share := shareOf (budgetOf b.cfg - fixedLoad b) (roundClaimants b) (selfClaimant b),
      overcommitted := overcommits (budgetOf b.cfg - fixedLoad b) (roundClaimants b) } := rfl

theorem shareRound_budget (b : Block) : (shareRound b).share.budget = budgetOf b.cfg := by
  rw [shareRound_share, divideFeeder_share, Block.cfg, formInputs_station, Block.cfg]

theorem fixedLoad_formInputs (b : Block) : fixedLoad (formInputs b) = fixedLoad b := by
  rw [fixedLoad, formInputs_station, formInputs_peers, fixedLoad]

theorem shareRound_available (b : Block) : (shareRound b).share.available = budgetOf b.cfg - fixedLoad b := by
  rw [shareRound_share, divideFeeder_share, Block.cfg, formInputs_station, fixedLoad_formInputs, Block.cfg]

/-- Settles O10: stage 0 of the round. -/
theorem roundComputesBudget : Obligations.RoundComputesBudget := by
  intro s hr ha
  refine completes_round hr ha ⟨?_, ?_, fun hok => ?_, round_frame _⟩
  · rw [endRound_share, shareRound_budget, beforeShare_cfg]
    rfl
  · rw [endRound_share, endRound_peers, endRound_station, shareRound_available, shareRound_budget]
    rfl
  · rw [endRound_share, shareRound_budget, beforeShare_cfg]
    exact budgetOf_range hok

end Sys2Proof.Machine
end

section
/-! PROOFS. Page table and retry queue: reading a slot, a cause, the first entry of a cause. -/

namespace Sys2Proof.Machine

/-! ## Entries and waiting raises -/

theorem pageAt_eq (i : Nat) (b : Block) : pageAt i b = (b.pages.table[i]?).join := by
  rw [pageAt, List.getD_eq_getElem?_getD]
  cases b.pages.table[i]? <;> rfl

theorem pageAt_lt {i : Nat} {e : PageEntry} {b : Block} (h : pageAt i b = some e) : i < b.pages.table.length := by
  by_contra hn
  rw [pageAt_eq, List.getElem?_eq_none (by omega)] at h
  cases h

/-- Reading a slot back after the table was written at one. -/
theorem pageAt_of_set_self {i : Nat} {x : Option PageEntry} {b b' : Block} (ht : b'.pages.table = b.pages.table.set i x)
    (hi : i < b.pages.table.length) : pageAt i b' = x := by
  rw [pageAt_eq, ht]
  simp [hi]

theorem pageAt_of_set_ne {i j : Nat} {x : Option PageEntry} {b b' : Block} (ht : b'.pages.table = b.pages.table.set i x)
    (hj : i ≠ j) : pageAt j b' = pageAt j b := by
  rw [pageAt_eq, ht, pageAt_eq, List.getElem?_set_ne hj]

/-- An entry read after the table was written at one slot is what was written, or stood before. -/
theorem pageAt_of_set {i j : Nat} {x : Option PageEntry} {e : PageEntry} {b b' : Block}
    (ht : b'.pages.table = b.pages.table.set i x) (h : pageAt j b' = some e) : (i = j ∧ x = some e) ∨ pageAt j b = some e := by
  by_cases hj : i = j
  · subst hj
    have hlen := pageAt_lt h
    rw [ht, List.length_set] at hlen
    exact .inl ⟨rfl, (pageAt_of_set_self ht hlen).symm.trans h⟩
  · exact .inr ((pageAt_of_set_ne ht hj).symm.trans h)

/-- What the page table holds is at a slot. -/
theorem some_mem_table {e : PageEntry} {b : Block} : some e ∈ b.pages.table ↔ ∃ i, pageAt i b = some e := by
  simp only [pageAt_eq, List.mem_iff_getElem?, Option.join_eq_some_iff]

theorem pageAt_getElem {i : Nat} {b : Block} (h : i < b.pages.table.length) : pageAt i b = b.pages.table[i] := by
  rw [pageAt_eq, List.getElem?_eq_getElem h, Option.join_some]

/-- The first entry of a cause (R151). -/
theorem pageIndex_eq_some {c : Cause} {i : Nat} {b : Block} : pageIndex c b = some i ↔
    (∃ e, pageAt i b = some e ∧ e.cause = c) ∧ ∀ j < i, ∀ x, pageAt j b = some x → x.cause ≠ c := by
  rw [pageIndex, List.findIdx?_eq_some_iff_getElem]
  constructor
  · rintro ⟨hi, hhit, hlow⟩
    refine ⟨?_, fun j hj x hx hc => hlow j hj ?_⟩
    · rw [pageAt_getElem hi]
      simpa [Option.any_eq_true] using hhit
    · rw [← pageAt_getElem (by omega), hx]
      simpa using hc
  · rintro ⟨⟨e, he, hc⟩, hlow⟩
    have hi := pageAt_lt he
    refine ⟨hi, ?_, fun j hj hhit => ?_⟩
    · rw [← pageAt_getElem hi, he]
      simpa using hc
    · rw [← pageAt_getElem (by omega)] at hhit
      obtain ⟨x, hx, hxc⟩ := (Option.any_eq_true ..).1 hhit
      exact hlow j hj x hx (by simpa using hxc)

theorem pageIndex_eq_none {c : Cause} {b : Block} :
    pageIndex c b = none ↔ ∀ i x, pageAt i b = some x → x.cause ≠ c := by
  rw [pageIndex, List.findIdx?_eq_none_iff]
  constructor
  · intro h i x hx hc
    have := h (some x) (some_mem_table.2 ⟨i, hx⟩)
    simp [hc] at this
  · rintro h (_ | x) hx
    · rfl
    · obtain ⟨i, hi⟩ := some_mem_table.1 hx
      simpa using h i x hi

theorem locatePage_eq_some {c : Cause} {i : Nat} {e : PageEntry} {b : Block} : locatePage c b = some (i, e) ↔
    pageAt i b = some e ∧ e.cause = c ∧ ∀ j < i, ∀ x, pageAt j b = some x → x.cause ≠ c := by
  simp only [locatePage, Option.bind_eq_some_iff, Option.map_eq_some_iff, Prod.mk.injEq, pageIndex_eq_some]
  constructor
  · rintro ⟨j, ⟨⟨x, hx, hc⟩, hlow⟩, y, hy, rfl, rfl⟩
    obtain rfl : x = y := Option.some.inj (hx.symm.trans hy)
    exact ⟨hx, hc, hlow⟩
  · rintro ⟨he, hc, hlow⟩
    exact ⟨i, ⟨⟨e, he, hc⟩, hlow⟩, e, he, rfl, rfl⟩

theorem locatePage_eq_none {c : Cause} {b : Block} :
    locatePage c b = none ↔ ∀ i x, pageAt i b = some x → x.cause ≠ c := by
  rw [← pageIndex_eq_none, locatePage]
  cases h : pageIndex c b with
  | none => simp
  | some i =>
    obtain ⟨⟨e, he, _⟩, _⟩ := pageIndex_eq_some.1 h
    simp [he]

/-- The causes that wait in the retry queue, head first (R153). -/
def waits (b : Block) : List Cause := b.pages.retry.map Waiting.cause

theorem isWaiting_iff {c : Cause} {b : Block} : isWaiting c b = true ↔ c ∈ waits b := by
  simp [isWaiting, waits]

theorem causeHeld_iff {c : Cause} {b : Block} :
    causeHeld c b = true ↔ (∃ i e, pageAt i b = some e ∧ e.cause = c) ∨ c ∈ waits b := by
  rw [causeHeld, Bool.or_eq_true, isWaiting_iff]
  refine or_congr_left ?_
  rw [← not_iff_not, Bool.not_eq_true, Option.isSome_eq_false_iff, Option.isNone_iff_eq_none, pageIndex_eq_none]
  push Not
  rfl

theorem freePage_eq_some {i : Nat} {b : Block} (h : freePage b = some i) :
    pageAt i b = none ∧ i < b.pages.table.length := by
  obtain ⟨hi, hnone, _⟩ := List.findIdx?_eq_some_iff_getElem.1 h
  exact ⟨(pageAt_getElem hi).trans (Option.isNone_iff_eq_none.1 hnone), hi⟩

end Sys2Proof.Machine
end

section
/-! PROOFS. Acts on the page table: what raises, clears and adoptions do to it (R152 to R154, R158). -/

namespace Sys2Proof.Machine

/-! ## Acts on the page table -/

/-- Events and PAGE frames joined their tails; the strap id, and whether frames are taken, stand. -/
structure Onward (b b' : Block) : Prop extends EventsGrow b b' where
  frames : b.line.pageQueue <+: b'.line.pageQueue
  takes : b'.lineTakes = b.lineTakes
  strap : b'.station.strapId = b.station.strapId

theorem Onward.refl (b : Block) : Onward b b := ⟨.refl b, List.prefix_refl _, rfl, rfl⟩

theorem Onward.trans {b c d : Block} (h : Onward b c) (g : Onward c d) : Onward b d :=
  ⟨h.toEventsGrow.trans g.toEventsGrow, h.frames.trans g.frames, g.takes.trans h.takes, g.strap.trans h.strap⟩

theorem Onward.of_notices {b b' : Block} (h : Notices b b') (hs : b'.station = b.station) : Onward b b' :=
  ⟨h.toEventsGrow, h.frames, by rw [Block.lineTakes, hs, Block.lineTakes], by rw [hs]⟩

/-- An entry after an act that leaves it the page it was: a lost owner may give way to this station (R152, R154, R158). -/
structure PageEntry.StaysAs (own : Nat) (lost : Nat → Prop) (e e' : PageEntry) : Prop where
  cause : e'.cause = e.cause
  generation : e'.generation = e.generation
  level : e'.level = e.level
  state : e'.state = e.state
  due : e.clearDue = true → e'.clearDue = true
  owner : e'.owner = e.owner ∨ (lost e.owner ∧ e'.owner = own)

/-- The CLEAR of an entry of this station's was queued, where frames are taken, and its removal reported (R151, R154). -/
def clearSent (e : PageEntry) (b b' : Block) : Prop :=
  (b.lineTakes = true → clearFrame e.cause e.generation ∈ b'.line.pageQueue) ∧
    offered (.pageChange e.cause e.generation b.station.strapId e.level none) b b'

/-- One act on page table and retry queue: raises of the causes `news` enter, merge or wait; pages of the ids `lost` are
taken over; entries that are `gone` are cleared, and a freed slot takes the retry head (R152 to R154, R158). -/
inductive PageAct (news : Cause → Prop) (lost : Nat → Prop) (gone : PageEntry → Prop) (b b' : Block) : Prop
  | stands (table : b'.pages.table = b.pages.table) (retry : waits b' = waits b)
  | rewrites {i : Nat} {e e' : PageEntry} (at_ : pageAt i b = some e) (stays : e.StaysAs b.station.strapId lost e')
      (table : b'.pages.table = b.pages.table.set i (some e')) (retry : waits b' = waits b)
  | enters {i : Nat} {e : PageEntry} (free : pageAt i b = none) (isNew : news e.cause) (raised : e.state = .raised)
      (table : b'.pages.table = b.pages.table.set i (some e)) (retry : waits b' = waits b)
  | waits {c : Cause} (isNew : news c) (table : b'.pages.table = b.pages.table)
      (retry : Machine.waits b' = Machine.waits b ++ [c])
  | clears {i : Nat} {e : PageEntry} (at_ : pageAt i b = some e) (isGone : gone e) (sent : clearSent e b b')
      (table : b'.pages.table = b.pages.table.set i none) (retry : waits b' = waits b)
  | refills {i : Nat} {e : PageEntry} (free : pageAt i b = none ∧ i < b.pages.table.length) (some_gone : ∃ x, gone x)
      (raised : e.state = .raised) (table : b'.pages.table = b.pages.table.set i (some e))
      (retry : waits b = e.cause :: waits b')

/-- Acts on the page table, one after another. -/
def PageActs (news : Cause → Prop) (lost : Nat → Prop) (gone : PageEntry → Prop) : Block → Block → Prop :=
  Relation.ReflTransGen fun b b' => Onward b b' ∧ PageAct news lost gone b b'

section
variable {news : Cause → Prop} {lost : Nat → Prop} {gone : PageEntry → Prop} {b b' d : Block}

theorem PageActs.refl (b : Block) : PageActs news lost gone b b := Relation.ReflTransGen.refl

theorem PageActs.one (h : Onward b b') (g : PageAct news lost gone b b') : PageActs news lost gone b b' :=
  Relation.ReflTransGen.single ⟨h, g⟩

theorem PageActs.trans (h : PageActs news lost gone b b') (g : PageActs news lost gone b' d) :
    PageActs news lost gone b d := Relation.ReflTransGen.trans h g

/-- What leaves table and retry queue alone. -/
theorem PageActs.of_pages (h : Onward b b') (hp : b'.pages = b.pages) : PageActs news lost gone b b' :=
  .one h (.stands (by rw [hp]) (by rw [waits, hp, waits]))

theorem PageActs.foldl {α : Type} {f : Block → α → Block} {xs : List α}
    (h : ∀ x ∈ xs, ∀ b, PageActs news lost gone b (f b x)) (b : Block) : PageActs news lost gone b (xs.foldl f b) := by
  induction xs generalizing b with
  | nil => exact .refl b
  | cons x rest ih =>
    exact (h x List.mem_cons_self b).trans (ih (fun y hy => h y (List.mem_cons_of_mem _ hy)) _)

/-- A predicate that each act keeps is kept by the acts. -/
theorem PageActs.keeps {P : Block → Prop} (h : PageActs news lost gone b b')
    (hstep : ∀ {b b'}, Onward b b' → PageAct news lost gone b b' → P b → P b') (hb : P b) : P b' := by
  induction h with
  | refl => exact hb
  | tail _ hlast ih => exact hstep hlast.1 hlast.2 ih

theorem PageActs.onward (h : PageActs news lost gone b b') : Onward b b' :=
  h.keeps (P := Onward b) (fun g _ hb => hb.trans g) (.refl b)

theorem PageAct.mono {news' : Cause → Prop} {lost' : Nat → Prop} {gone' : PageEntry → Prop}
    (hn : ∀ c, news c → news' c) (hl : ∀ i, lost i → lost' i) (hg : ∀ e, gone e → gone' e)
    (h : PageAct news lost gone b b') : PageAct news' lost' gone' b b' := by
  cases h with
  | stands table retry => exact .stands table retry
  | rewrites at_ stays table retry =>
    exact .rewrites at_ { stays with owner := stays.owner.imp_right fun ⟨ho, hs⟩ => ⟨hl _ ho, hs⟩ } table retry
  | enters free isNew raised table retry => exact .enters free (hn _ isNew) raised table retry
  | waits isNew table retry => exact .waits (hn _ isNew) table retry
  | clears at_ isGone sent table retry => exact .clears at_ (hg _ isGone) sent table retry
  | refills free some_gone raised table retry => exact .refills free (some_gone.imp hg) raised table retry

theorem PageActs.mono {news' : Cause → Prop} {lost' : Nat → Prop} {gone' : PageEntry → Prop}
    (h : PageActs news lost gone b b') (hn : ∀ c, news c → news' c) (hl : ∀ i, lost i → lost' i)
    (hg : ∀ e, gone e → gone' e) : PageActs news' lost' gone' b b' :=
  Relation.ReflTransGen.mono (fun _ _ ⟨ho, ha⟩ => ⟨ho, ha.mono hn hl hg⟩) _ _ h

/-! ### Raises (R152, R153) -/

/-- A new entry is RAISED, of the cause it was made for; the retry queue stands (R152). -/
theorem makeEntry_pages (i : Nat) (w : Waiting) (b : Block) : ∃ e : PageEntry, e.cause = w.cause ∧ e.state = .raised ∧
    (makeEntry i w b).pages.table = b.pages.table.set i (some e) ∧ waits (makeEntry i w b) = waits b := by
  refine ⟨{ cause := w.cause, generation := nextGeneration (b.memory w.cause), owner := b.id, level := w.level,
            state := .raised, priority := w.priority, merges := w.merges, raisedAt := b.now,
            deadline := some (b.now + b.cfg.ackTimeout), oneShot := w.cause.kind.oneShot, adopted := false,
            clearDue := false }, rfl, rfl, ?_⟩
  simp [makeEntry, setPage, setMemory, waits, pageEvent]

/-- What a raise finds and does: it merges, enters a free slot, waits, or is lost with its event (R152, R153). -/
inductive RaiseResult (c : Cause) (b b' : Block) : Prop
  | merges {i : Nat} {e e' : PageEntry} (at_ : pageAt i b = some e) (cause : e.cause = c)
      (stays : ∀ own lost, e.StaysAs own lost e')
      (table : b'.pages.table = b.pages.table.set i (some e')) (retry : waits b' = waits b)
  | enters {i : Nat} {e : PageEntry} (free : pageAt i b = none) (inTable : i < b.pages.table.length) (cause : e.cause = c)
      (raised : e.state = .raised) (table : b'.pages.table = b.pages.table.set i (some e)) (retry : waits b' = waits b)
  | stillWaits (waiting : c ∈ waits b) (table : b'.pages.table = b.pages.table) (retry : waits b' = waits b)
  | waits (table : b'.pages.table = b.pages.table) (retry : Machine.waits b' = Machine.waits b ++ [c])
  | lost (full : freePage b' = none ∧ 4 ≤ b'.pages.retry.length) (pages : b'.pages = b.pages)
      (event : offered (.pageLost c) b b')

theorem joinRetry_result {c : Cause} {p l : Nat} (hfree : freePage b = none) :
    RaiseResult c b (joinRetry c p l b).1 := by
  unfold joinRetry
  split
  · rename_i hw
    refine .stillWaits (isWaiting_iff.1 hw) (by simp) ?_
    simp only [waits, count_pages, Block.onPages_pages, List.map_map]
    refine List.map_congr_left fun w _ => ?_
    dsimp only [Function.comp_apply]
    split <;> rfl
  · split
    · exact .waits rfl (by simp [waits])
    · rename_i _ hl
      exact .lost ⟨hfree, by simpa [Config.retryPlaces] using hl⟩ (by simp)
        (offered_of_grows (count_grows _ _) (offered_offer _ _))

theorem raiseWith_result (c : Cause) (p l : Nat) (b : Block) : RaiseResult c b (raiseWith c p l b).1 := by
  unfold raiseWith
  split
  · rename_i i e h
    obtain ⟨hat, hc, _⟩ := locatePage_eq_some.1 h
    exact .merges (e' := { e with merges := satTo 255 (e.merges + 1) }) hat hc
      (fun own lost => ⟨rfl, rfl, rfl, rfl, id, .inl rfl⟩) (by simp [setPage]) (by simp [setPage, waits])
  · split
    · rename_i i hfree
      obtain ⟨e, hc, hr, ht, hw⟩ := makeEntry_pages i { cause := c, priority := p, level := l, merges := 1 } b
      obtain ⟨hnone, hi⟩ := freePage_eq_some hfree
      exact .enters hnone hi hc hr ht hw
    · rename_i hfree
      exact joinRetry_result hfree

theorem raiseWith_acts {c : Cause} (hn : news c) (p l : Nat) (b : Block) :
    PageActs news lost gone b (raiseWith c p l b).1 := by
  have ho : Onward b (raiseWith c p l b).1 := .of_notices (Notices.refl b).raiseWith (by simp)
  refine .one ho ?_
  cases raiseWith_result c p l b with
  | merges at_ _ stays table retry => exact .rewrites at_ (stays _ _) table retry
  | enters free _ cause raised table retry => exact .enters free (cause ▸ hn) raised table retry
  | stillWaits _ table retry => exact .stands table retry
  | waits table retry => exact .waits hn table retry
  | lost _ pages _ => exact .stands (by rw [pages]) (by rw [waits, pages, waits])

theorem raise_acts {k : CauseKind} {n : Nat} (hn : news { kind := k, subject := n }) (b : Block) :
    PageActs news lost gone b (raise k n b) := raiseWith_acts hn _ _ b

/-! ### Clearing (R153, R154) -/

theorem enterRetry_acts (hg : ∃ x, gone x) (b : Block) : PageActs news lost gone b (enterRetry b) := by
  have ho : Onward b (enterRetry b) := .of_notices (Notices.refl b).enterRetry (by simp)
  refine .one ho ?_
  unfold enterRetry
  split
  · rename_i w rest i hretry hfree
    obtain ⟨e, hc, hr, ht, hw⟩ := makeEntry_pages i w (b.onPages fun p => { p with retry := rest })
    exact .refills (freePage_eq_some hfree) hg hr (ht.trans rfl) (by rw [hw, hc, waits, hretry]; rfl)
  · exact .stands rfl rfl

/-- An entry taken out of the table by a CLEAR, before the freed slot takes the retry head (R149, R154). -/
def takenOut (i : Nat) (e : PageEntry) (g : Nat) (b : Block) : Block :=
  let cleared := if newer g e.generation then g else e.generation
  removedEvent e (unlist e.cause (setPage i none (setMemory e.cause
    { state := .cleared, generation := cleared, topLevel := topAfter (b.memory e.cause) cleared } b)))

theorem takenOut_onward (i : Nat) (e : PageEntry) (g : Nat) (b : Block) : Onward b (takenOut i e g b) :=
  .of_notices ((Notices.refl b).setMemory.setPage.unlist.removedEvent) (by simp [takenOut])

theorem takenOut_pages (i : Nat) (e : PageEntry) (g : Nat) (b : Block) :
    (takenOut i e g b).pages.table = b.pages.table.set i none ∧ waits (takenOut i e g b) = waits b := by
  simp [takenOut, setPage, setMemory, waits, removedEvent]

theorem takenOut_offered (i : Nat) (e : PageEntry) (g : Nat) (b : Block) :
    offered (.pageChange e.cause e.generation e.owner e.level none) b (takenOut i e g b) :=
  offered_offer_of_port (by simp [setPage, setMemory]) (by simp [setPage, setMemory])

/-- An entry whose CLEAR the full PAGE queue refused (R154). -/
def PageEntry.madeDue (e : PageEntry) (now : Nat) : PageEntry := { e with clearDue := true, offeredAt := now }

/-- What a CLEAR offered does: it is taken, and the freed slot takes the retry head; or the entry is clear due (R154). -/
theorem offerClear_cases {i : Nat} {e : PageEntry} (ho : e.owner = b.station.strapId) :
    (∃ m, Onward b m ∧ clearSent e b m ∧ m.pages.table = b.pages.table.set i none ∧ waits m = waits b ∧
      offerClear i e b = enterRetry m) ∨
    (8 ≤ (offerClear i e b).line.pageQueue.length ∧
      (offerClear i e b).pages.table = b.pages.table.set i (some (e.madeDue b.now)) ∧
      waits (offerClear i e b) = waits b) := by
  have hqueued : Onward b (queuePage (clearFrame e.cause e.generation) b).2 :=
    .of_notices (Notices.refl b).queuePage (by simp)
  have hpages : (queuePage (clearFrame e.cause e.generation) b).2.pages = b.pages := by simp
  have hevent := takenOut_offered i e e.generation (queuePage (clearFrame e.cause e.generation) b).2
  have hout := takenOut_onward i e e.generation (queuePage (clearFrame e.cause e.generation) b).2
  have htaken := takenOut_pages i e e.generation (queuePage (clearFrame e.cause e.generation) b).2
  have hwaits : waits (queuePage (clearFrame e.cause e.generation) b).2 = waits b := by rw [waits, hpages, waits]
  rw [hpages, hwaits] at htaken
  unfold offerClear
  dsimp only
  split
  · rename_i hq
    refine .inl ⟨_, hqueued.trans hout, ⟨fun ht => hout.frames.subset ?_, ?_⟩, htaken.1, htaken.2, rfl⟩
    · obtain ⟨_, _, h⟩ | ⟨_, _, h⟩ | ⟨h, _⟩ := queuePage_cases (clearFrame e.cause e.generation) b
      · rw [h]
        simp
      · rw [h] at hq
        cases hq
      · rw [h] at ht
        cases ht
    · rw [← ho]
      exact offered_of_grows hqueued.toEventsGrow hevent
  · rename_i hq
    refine .inr ⟨?_, ?_, ?_⟩
    · obtain ⟨_, _, h⟩ | ⟨_, hfull, h⟩ | ⟨_, h⟩ := queuePage_cases (clearFrame e.cause e.generation) b
      · rw [h] at hq
        exact absurd rfl hq
      · rw [h]
        simpa [setPage, Config.pagePlaces] using hfull
      · rw [h] at hq
        exact absurd rfl hq
    · simp [setPage, PageEntry.madeDue, Block.now]
    · simp [setPage, waits]

theorem PageEntry.madeDue_staysAs (e : PageEntry) (now own : Nat) (lost : Nat → Prop) : e.StaysAs own lost (e.madeDue now) :=
  ⟨rfl, rfl, rfl, rfl, fun _ => rfl, .inl rfl⟩

theorem offerClear_onward (i : Nat) (e : PageEntry) (b : Block) : Onward b (offerClear i e b) :=
  .of_notices (Notices.refl b).offerClear (by simp)

/-- The CLEAR of an entry that an act before may have rewritten (R154, R158). -/
theorem offerClear_acts {i : Nat} {e e' : PageEntry} (h : Onward b b') (hat : pageAt i b = some e) (hg : gone e)
    (hstays : e.StaysAs b.station.strapId lost e') (ho : e'.owner = b.station.strapId)
    (ht : b'.pages.table = b.pages.table.set i (some e')) (hw : waits b' = waits b) :
    PageActs news lost gone b (offerClear i e' b') := by
  obtain ⟨m, hm, ⟨hframe, hevent⟩, htable, hwaits, heq⟩ | ⟨_, htable, hwaits⟩ :=
    offerClear_cases (i := i) (b := b') (ho.trans h.strap.symm)
  · rw [heq]
    refine PageActs.trans (.one (h.trans hm) (.clears hat hg ⟨fun hl => ?_, ?_⟩ ?_ (hwaits.trans hw))) (enterRetry_acts ⟨e, hg⟩ m)
    · rw [← hstays.cause, ← hstays.generation]
      exact hframe (h.takes.trans hl)
    · rw [h.strap, hstays.cause, hstays.generation, hstays.level] at hevent
      exact offered_of_grows h.toEventsGrow hevent
    · rw [htable, ht, List.set_set]
  · refine .one (h.trans (offerClear_onward _ _ _))
      (.rewrites (e' := e'.madeDue b'.now) hat ?_ ?_ (hwaits.trans hw))
    · exact { hstays with due := fun _ => rfl }
    · rw [htable, ht, List.set_set]

/-- The table written at a slot with what stands there. -/
theorem table_set_self {i : Nat} {e : PageEntry} (h : pageAt i b = some e) :
    b.pages.table = b.pages.table.set i (some e) := by
  have hi := pageAt_lt h
  rw [pageAt_getElem hi] at h
  rw [← h, List.set_getElem_self]

theorem PageEntry.StaysAs.refl (e : PageEntry) (own : Nat) : e.StaysAs own lost e := ⟨rfl, rfl, rfl, rfl, id, .inl rfl⟩

/-- A resolution report clears an entry of its cause at the most (R154). -/
theorem resolve_acts {c : Cause} (hg : ∀ e : PageEntry, e.cause = c → gone e) (b : Block) :
    PageActs news lost gone b (resolve c b) := by
  unfold resolve
  split
  · rename_i i e h
    obtain ⟨hat, hc, _⟩ := locatePage_eq_some.1 h
    split
    · rename_i ho
      exact offerClear_acts (.refl b) hat (hg e hc) (.refl e _) ho (table_set_self hat) rfl
    · exact .refl b
  · exact .refl b

/-! ### Orphaned pages (R158) -/

/-- The adopter takes over one page of a lost owner, or clears an ACKED one (R158). -/
theorem adoptPage_acts {l : Nat} (hl : lost l) (hg : ∀ e : PageEntry, e.state = .acked → e.owner = l → gone e) (c : Cause)
    (b : Block) : PageActs news lost gone b (adoptPage l c b) := by
  unfold adoptPage
  split
  · rename_i i e h
    obtain ⟨hat, _, _⟩ := locatePage_eq_some.1 h
    split
    · rename_i hown
      extract_lets e' b1 b2
      have hstays : e.StaysAs b.station.strapId lost e' :=
        ⟨rfl, rfl, rfl, rfl, id, .inr ⟨hown ▸ hl, rfl⟩⟩
      have h1 : Onward b b1 := .of_notices (Notices.refl b).setPage.pageEvent (by simp [b1, pageEvent, setPage])
      have ht1 : b1.pages.table = b.pages.table.set i (some e') := by simp [b1, pageEvent, setPage]
      have hw1 : waits b1 = waits b := by simp [b1, pageEvent, setPage, waits]
      split
      · rename_i hacked
        exact offerClear_acts h1 hat (hg e hacked hown) hstays rfl ht1 hw1
      · have h2 : Onward b1 b2 := .of_notices (Notices.refl b1).queuePage (by simp [b2])
        have hb2 : PageActs news lost gone b b2 := (PageActs.one h1 (.rewrites hat hstays ht1 hw1)).trans
          (.of_pages h2 (by simp [b2]))
        split
        · exact hb2.trans (.of_pages (.of_notices (Notices.refl b2).placeSend (by simp)) (by simp))
        · exact hb2
    · exact .refl b
  · exact .refl b

theorem orphanPages_acts {l : Nat} (hl : lost l) (hg : ∀ e : PageEntry, e.state = .acked → e.owner = l → gone e)
    (x : Option Nat) (b : Block) : PageActs news lost gone b (orphanPages l x b) := by
  unfold orphanPages
  split
  · exact .foldl (fun c _ d => adoptPage_acts hl hg c d) b
  · exact .refl b

/-! ### Courses (R125, R128) -/

theorem mapCourses_acts (f : Course → Course) (b : Block) : PageActs news lost gone b (mapCourses f b) :=
  .of_pages (.of_notices (Notices.refl b).mapCourses rfl) rfl

theorem evalReady_acts (hn : ∀ c : Cause, c.kind = .courseReady → news c) (i : Nat) (b : Block) :
    PageActs news lost gone b (evalReady i b) := by
  unfold evalReady
  split
  · extract_lets ready b'
    have hb' : PageActs news lost gone b b' := .of_pages (.of_notices (Notices.refl b).onPlan rfl) rfl
    split
    · exact hb'.trans (raise_acts (hn _ rfl) _)
    · exact hb'
  · exact .refl b

theorem evalAllReady_acts (hn : ∀ c : Cause, c.kind = .courseReady → news c) (b : Block) :
    PageActs news lost gone b (evalAllReady b) := .foldl (fun i _ d => evalReady_acts hn i d) b

end

end Sys2Proof.Machine
end

section
/-! PROOFS. What acts on the page table keep: raises made, clears taken. -/

namespace Sys2Proof.Machine

/-! ## What the acts on the page table keep -/

section
variable {news : Cause → Prop} {lost : Nat → Prop} {gone : PageEntry → Prop} {b b' s : Block}

/-- An entry after an act stood before it, or came in raised, from a raise or from the retry queue. -/
theorem PageAct.comes_from (h : PageAct news lost gone b b') {j : Nat} {x' : PageEntry} (hx : pageAt j b' = some x') :
    (∃ x, pageAt j b = some x ∧ x.StaysAs b.station.strapId lost x') ∨
      (pageAt j b = none ∧ x'.state = .raised ∧ (news x'.cause ∨ ((∃ y, gone y) ∧ x'.cause ∈ Machine.waits b))) := by
  have stays (h : pageAt j b = some x') : ∃ x, pageAt j b = some x ∧ x.StaysAs b.station.strapId lost x' :=
    ⟨x', h, .refl x' _⟩
  cases h with
  | stands table retry => exact .inl (stays (by rwa [pageAt, table] at hx))
  | rewrites at_ hstays table retry =>
    obtain ⟨rfl, ⟨⟩⟩ | h := pageAt_of_set table hx
    · exact .inl ⟨_, at_, hstays⟩
    · exact .inl (stays h)
  | enters free isNew raised table retry =>
    obtain ⟨rfl, ⟨⟩⟩ | h := pageAt_of_set table hx
    · exact .inr ⟨free, raised, .inl isNew⟩
    · exact .inl (stays h)
  | waits isNew table retry => exact .inl (stays (by rwa [pageAt, table] at hx))
  | clears at_ isGone sent table retry =>
    obtain ⟨_, h⟩ | h := pageAt_of_set table hx
    · cases h
    · exact .inl (stays h)
  | refills free some_gone raised table retry =>
    obtain ⟨rfl, ⟨⟩⟩ | h := pageAt_of_set table hx
    · exact .inr ⟨free.1, raised, .inr ⟨some_gone, by simp [retry]⟩⟩
    · exact .inl (stays h)

/-- An entry stands through an act, or it is gone and its CLEAR is sent. -/
theorem PageAct.goes_to (h : PageAct news lost gone b b') {j : Nat} {x : PageEntry} (hx : pageAt j b = some x) :
    (∃ x', pageAt j b' = some x' ∧ x.StaysAs b.station.strapId lost x') ∨
      (gone x ∧ clearSent x b b' ∧ pageAt j b' = none) := by
  have stays (h : pageAt j b' = pageAt j b) : ∃ x', pageAt j b' = some x' ∧ x.StaysAs b.station.strapId lost x' :=
    ⟨x, h.trans hx, .refl x _⟩
  cases h with
  | stands table retry => exact .inl (stays (by rw [pageAt, table, pageAt]))
  | @rewrites i e e' at_ hstays table retry =>
    by_cases hij : i = j
    · subst hij
      obtain rfl : e = x := Option.some.inj (at_.symm.trans hx)
      exact .inl ⟨e', pageAt_of_set_self table (pageAt_lt at_), hstays⟩
    · exact .inl (stays (pageAt_of_set_ne table hij))
  | @enters i e free isNew raised table retry =>
    exact .inl (stays (pageAt_of_set_ne table (by rintro rfl; simp [hx] at free)))
  | waits isNew table retry => exact .inl (stays (by rw [pageAt, table, pageAt]))
  | @clears i e at_ isGone sent table retry =>
    by_cases hij : i = j
    · subst hij
      obtain rfl : e = x := Option.some.inj (at_.symm.trans hx)
      exact .inr ⟨isGone, sent, pageAt_of_set_self table (pageAt_lt at_)⟩
    · exact .inl (stays (pageAt_of_set_ne table hij))
  | @refills i e free some_gone raised table retry =>
    exact .inl (stays (pageAt_of_set_ne table (by rintro rfl; simp [hx] at free)))

/-- A cause that waits after an act waited before it, or was raised. -/
theorem PageAct.waits_from (h : PageAct news lost gone b b') {c : Cause} (hc : c ∈ Machine.waits b') :
    c ∈ Machine.waits b ∨ news c := by
  cases h with
  | stands _ retry | rewrites _ _ _ retry | enters _ _ _ _ retry | clears _ _ _ _ retry => exact .inl (retry ▸ hc)
  | @waits d isNew table retry =>
    rw [retry, List.mem_append, List.mem_singleton] at hc
    exact hc.imp_right fun h => by rwa [h]
  | refills _ _ _ _ retry => exact .inl (by simp [retry, hc])

/-- A cause that waits goes on waiting, or enters the table (R153). -/
theorem PageAct.waits_to (h : PageAct news lost gone b b') {c : Cause} (hc : c ∈ Machine.waits b) :
    c ∈ Machine.waits b' ∨ ∃ i e, pageAt i b' = some e ∧ e.cause = c := by
  cases h with
  | stands _ retry | rewrites _ _ _ retry | enters _ _ _ _ retry | clears _ _ _ _ retry => exact .inl (retry ▸ hc)
  | waits isNew table retry => exact .inl (by simp [retry, hc])
  | @refills i e free some_gone raised table retry =>
    rw [retry, List.mem_cons] at hc
    obtain rfl | hc := hc
    · exact .inr ⟨i, e, pageAt_of_set_self table free.2, rfl⟩
    · exact .inl hc

/-! ### A raise stays made (R152, R153) -/

/-- Every entry of a cause is RAISED. -/
def allRaised (c : Cause) (b : Block) : Prop := ∀ i x, pageAt i b = some x → x.cause = c → x.state = .raised

theorem PageActs.allRaised (h : PageActs news lost gone b b') {c : Cause} (hb : allRaised c b) : allRaised c b' :=
  h.keeps (P := Machine.allRaised c) (fun _ hact hall i x hx hc => by
    obtain ⟨y, hy, hstays⟩ | ⟨_, hraised, _⟩ := hact.comes_from hx
    · exact hstays.state.trans (hall i y hy (hstays.cause.symm.trans hc))
    · exact hraised) hb

/-- A cause held stays held while none of its entries is cleared. -/
theorem PageActs.causeHeld (h : PageActs news lost gone b b') {c : Cause}
    (hg : ∀ e, gone e → e.cause = c → e.state = .acked) (hall : Machine.allRaised c b) (hb : causeHeld c b = true) :
    causeHeld c b' = true := by
  refine (h.keeps (P := fun b => Machine.allRaised c b ∧ Machine.causeHeld c b = true) (fun ho hact ⟨hall, hheld⟩ => ?_)
    ⟨hall, hb⟩).2
  refine ⟨(PageActs.one ho hact).allRaised hall, causeHeld_iff.2 ?_⟩
  obtain ⟨i, e, he, hc⟩ | hw := causeHeld_iff.1 hheld
  · obtain ⟨x, hx, hstays⟩ | ⟨hgone, _⟩ := hact.goes_to he
    · exact .inl ⟨i, x, hx, hstays.cause.trans hc⟩
    · exact absurd ((hall i e he hc).symm.trans (hg e hgone hc)) (by simp)
  · exact (hact.waits_to hw).symm

/-- After a raise the cause is held, or both queues were full and the loss has its event (R152, R153). -/
theorem raise_taken (k : CauseKind) (n : Nat) (b : Block) :
    causeHeld { kind := k, subject := n } (raise k n b) = true ∨
      (freePage (raise k n b) = none ∧ 4 ≤ (raise k n b).pages.retry.length ∧
        offered (.pageLost { kind := k, subject := n }) b (raise k n b)) := by
  rw [causeHeld_iff]
  cases raiseWith_result { kind := k, subject := n } k.priority k.startLevel b with
  | @merges i e e' at_ cause stays table retry =>
    exact .inl (.inl ⟨i, e', pageAt_of_set_self table (pageAt_lt at_), (stays 0 fun _ => False).cause.trans cause⟩)
  | @enters i e free inTable cause raised table retry =>
    exact .inl (.inl ⟨i, e, pageAt_of_set_self table inTable, cause⟩)
  | stillWaits waiting table retry => exact .inl (.inr (by rw [raise, retry]; exact waiting))
  | waits table retry => exact .inl (.inr (by rw [raise, retry]; simp))
  | lost full pages event => exact .inr ⟨full.1, full.2, event⟩

/-! ### A clear stays taken (R154) -/

/-- The page at a slot that an act has still to clear, or that the full queue left clear due. -/
def pending (due : Prop) (own i : Nat) (e : PageEntry) (b : Block) : Prop :=
  (due → 8 ≤ b.line.pageQueue.length) ∧
    ∃ x, pageAt i b = some x ∧ x.cause = e.cause ∧ x.generation = e.generation ∧ x.level = e.level ∧ x.owner = own ∧
      (due → x.clearDue = true)

/-- The CLEAR of an entry of `s` has been sent, and its slot holds no page of the cause. -/
def cleared (i : Nat) (e : PageEntry) (s b : Block) : Prop :=
  clearSent e s b ∧ ∀ x, pageAt i b = some x → x.cause ≠ e.cause

/-- An entry of `s` followed through acts that raise its cause nowhere. -/
structure Followed (due : Prop) (i : Nat) (e : PageEntry) (s b : Block) : Prop where
  onward : Onward s b
  noneNew : ∀ j x, pageAt j b = some x → x.cause = e.cause → ∃ y, pageAt j s = some y ∧ y.cause = e.cause
  notWaiting : e.cause ∉ waits b
  fate : pending due s.station.strapId i e b ∨ cleared i e s b

theorem clearSent_mono {e : PageEntry} {d : Block} (h : clearSent e s b) (g : Onward b d) : clearSent e s d :=
  ⟨fun ht => g.frames.subset (h.1 ht), offered_mono h.2 g.toEventsGrow⟩

theorem Followed.step {due : Prop} {i : Nat} {e : PageEntry} (ho : Onward b b') (hact : PageAct news lost gone b b')
    (hn : ¬news e.cause) (h : Followed due i e s b) : Followed due i e s b' := by
  have hcomes : ∀ {j x'}, pageAt j b' = some x' → x'.cause = e.cause → ∃ x, pageAt j b = some x ∧ x.cause = e.cause := by
    intro j x' hx hc
    obtain ⟨x, hx, hstays⟩ | ⟨_, _, hnew | ⟨_, hw⟩⟩ := hact.comes_from hx
    · exact ⟨x, hx, hstays.cause.symm.trans hc⟩
    · exact absurd (hc ▸ hnew) hn
    · exact absurd (hc ▸ hw) h.notWaiting
  refine ⟨h.onward.trans ho, fun j x hx hc => ?_, fun hw => ?_, ?_⟩
  · obtain ⟨y, hy, hyc⟩ := hcomes hx hc
    exact h.noneNew j y hy hyc
  · exact (hact.waits_from hw).elim h.notWaiting hn
  · obtain ⟨hfull, x, hx, hc, hgen, hlevel, hown, hdue⟩ | ⟨hsent, hslot⟩ := h.fate
    · obtain ⟨x', hx', hstays⟩ | ⟨_, ⟨hframe, hevent⟩, hnone⟩ := hact.goes_to hx
      · refine .inl ⟨fun hd => (hfull hd).trans ho.frames.length_le, x', hx', hstays.cause.trans hc,
          hstays.generation.trans hgen, hstays.level.trans hlevel, ?_, fun hd => hstays.due (hdue hd)⟩
        obtain h' | ⟨_, h'⟩ := hstays.owner
        · exact h'.trans hown
        · exact h'.trans h.onward.strap
      · refine .inr ⟨⟨fun ht => ?_, ?_⟩, by simp [hnone]⟩
        · rw [← hc, ← hgen]
          exact hframe (h.onward.takes.trans ht)
        · rw [hc, hgen, hlevel, h.onward.strap] at hevent
          exact offered_of_grows h.onward.toEventsGrow hevent
    · refine .inr ⟨clearSent_mono hsent ho, fun x hx hc => ?_⟩
      obtain ⟨y, hy, hyc⟩ := hcomes hx hc
      exact hslot y hy hyc

theorem PageActs.followed {due : Prop} {i : Nat} {e : PageEntry} (h : PageActs news lost gone b b')
    (hn : ¬news e.cause) (hb : Followed due i e s b) : Followed due i e s b' :=
  h.keeps (P := Followed due i e s) (fun ho hact hf => hf.step ho hact hn) hb

/-- At the start an entry of this station's is followed. -/
theorem Followed.start {i : Nat} {e : PageEntry} (he : pageAt i s = some e) (ho : e.owner = s.station.strapId)
    (hw : isWaiting e.cause s = false) : Followed False i e s s :=
  ⟨.refl s, fun j x hx hc => ⟨x, hx, hc⟩, by rw [← isWaiting_iff, hw]; simp,
    .inl ⟨False.elim, e, he, rfl, rfl, rfl, ho, False.elim⟩⟩

/-- What a resolution report makes of an entry followed up to it: cleared or clear due (R154). -/
theorem Followed.resolve {i : Nat} {e : PageEntry} (h : Followed False i e s b)
    (hfirst : ∀ j < i, ∀ x, pageAt j s = some x → x.cause ≠ e.cause) : Followed True i e s (resolve e.cause b) := by
  have hacts : PageActs (fun _ => False) (fun _ => False) (fun x => x.cause = e.cause) b (Machine.resolve e.cause b) :=
    resolve_acts (fun _ hc => hc) b
  obtain ⟨_, x, hx, hc, hgen, hlevel, hown, _⟩ | hcleared := h.fate
  · have hlocate : locatePage e.cause b = some (i, x) :=
      locatePage_eq_some.2 ⟨hx, hc, fun j hj y hy hyc => by
        obtain ⟨z, hz, hzc⟩ := h.noneNew j y hy hyc
        exact hfirst j hj z hz hzc⟩
    have hstrap : x.owner = b.station.strapId := hown.trans h.onward.strap.symm
    have heq : Machine.resolve e.cause b = offerClear i x b := by
      rw [Machine.resolve, hlocate]
      exact if_pos hstrap
    rw [heq]
    obtain ⟨m, hm, hsent, htable, hwaits, hretry⟩ | ⟨hfull, htable, hwaits⟩ := offerClear_cases (i := i) hstrap
    · have hclears : PageAct (fun _ => False) (fun _ => False) (fun x => x.cause = e.cause) b m :=
        .clears hx hc hsent htable hwaits
      have hf := h.step hm hclears (fun h => h)
      have hcleared : cleared i e s m := hf.fate.resolve_left fun ⟨_, y, hy, _⟩ => by
        rw [pageAt_of_set_self htable (pageAt_lt hx)] at hy
        cases hy
      rw [hretry]
      exact (enterRetry_acts (news := fun _ => False) (lost := fun _ => False) (gone := fun x => x.cause = e.cause)
        ⟨x, hc⟩ m).followed (fun h => h)
        ⟨hf.onward, hf.noneNew, hf.notWaiting, .inr hcleared⟩
    · have hdue : PageAct (fun _ => False) (fun _ => False) (fun x => x.cause = e.cause) b (offerClear i x b) :=
        .rewrites hx (x.madeDue_staysAs _ _ _) htable hwaits
      have hf := h.step (offerClear_onward i x b) hdue (fun h => h)
      exact ⟨hf.onward, hf.noneNew, hf.notWaiting, .inl ⟨fun _ => hfull, x.madeDue b.now,
        pageAt_of_set_self htable (pageAt_lt hx), hc, hgen, hlevel, hown, fun _ => rfl⟩⟩
  · exact hacts.followed (fun h => h) ⟨h.onward, h.noneNew, h.notWaiting, .inr hcleared⟩

end

end Sys2Proof.Machine
end

section
/-! PROOFS. The page acts of a round (R20, R21, R28, R128). -/

namespace Sys2Proof.Machine

/-! ## The page acts of a round (R20, R21, R28, R128) -/

/-- The ids whose entries reach age 8 at a round, in the order of the Peer Table (R27). -/
def lostIds (b : Block) : List Nat :=
  ((b.peers.map fun p => { p with age := p.age + 1 }).filter fun p => decide (Config.removeAge ≤ p.age)).map Peer.id

theorem mem_lostIds {b : Block} {id : Nat} : id ∈ lostIds b ↔ ∃ p ∈ b.peers, 7 ≤ p.age ∧ p.id = id := by
  simp only [lostIds, List.mem_map, List.mem_filter]
  constructor
  · rintro ⟨_, ⟨⟨p, hp, rfl⟩, hage⟩, rfl⟩
    exact ⟨p, hp, Nat.le_of_succ_le_succ (of_decide_eq_true hage), rfl⟩
  · rintro ⟨p, hp, hage, rfl⟩
    exact ⟨_, ⟨⟨p, hp, rfl⟩, decide_eq_true (Nat.succ_le_succ hage)⟩, rfl⟩

/-- The Peer Table one round older (R27). -/
def agedTable (b : Block) : Block :=
  b.onPeers fun ps => (ps.map fun p => { p with age := p.age + 1 }).filter fun p => decide (p.age < Config.removeAge)

theorem agePeers_eq (b : Block) : agePeers b = (lostIds b).foldl losePeer (agedTable b) := rfl

/-- The causes that a round's aging and pruning raise (R28, R128). -/
def agingNews (lost : Nat → Prop) (c : Cause) : Prop :=
  (∃ id, lost id ∧ c = { kind := .stationLost, subject := id }) ∨ c.kind = .courseReady

/-- The entries that a round's aging clears (R28, R158). -/
def agingGone (lost : Nat → Prop) (e : PageEntry) : Prop :=
  (∃ id, lost id ∧ e.cause = { kind := .configMismatch, subject := id }) ∨ (e.state = .acked ∧ lost e.owner)

section
variable {news : Cause → Prop} {lost : Nat → Prop} {gone : PageEntry → Prop} {id : Nat}

theorem raiseLost_acts (h : lost id) (b : Block) :
    PageActs (agingNews lost) lost (agingGone lost) b (raise .stationLost id b) :=
  raise_acts (.inl ⟨id, h, rfl⟩) b

theorem orphanLost_acts (h : lost id) (b : Block) :
    PageActs (agingNews lost) lost (agingGone lost) b (orphanPages id none b) :=
  orphanPages_acts h (fun _ hs ho => .inr ⟨hs, ho ▸ h⟩) _ _

theorem resolveLost_acts (h : lost id) (b : Block) :
    PageActs (agingNews lost) lost (agingGone lost) b (resolved .configMismatch id b) :=
  resolve_acts (fun _ hc => .inl ⟨id, h, hc⟩) _

/-- What follows the raise of a lost id's STATION_LOST (R28). -/
theorem raisedLost_acts (h : lost id) (b : Block) :
    PageActs (agingNews lost) lost (agingGone lost) (raise .stationLost id b) (losePeer b id) :=
  (orphanLost_acts h _).trans ((resolveLost_acts h _).trans (mapCourses_acts _ _))

theorem losePeer_acts (h : lost id) (b : Block) :
    PageActs (agingNews lost) lost (agingGone lost) b (losePeer b id) :=
  (raiseLost_acts h b).trans (raisedLost_acts h b)

theorem losePeers_acts {ids : List Nat} (h : ∀ id ∈ ids, lost id) (b : Block) :
    PageActs (agingNews lost) lost (agingGone lost) b (ids.foldl losePeer b) :=
  .foldl (fun id hid c => losePeer_acts (h id hid) c) b

theorem Notices.enterActive {s b : Block} (h : Notices s b) {r : EntryReason} : Notices s (enterActive r b) :=
  (h.onStation (f := fun s => { s with shortRun := 0, goodRun := 0 }) rfl).changeState

theorem Notices.enterIsolated {s b : Block} (h : Notices s b) {r : EntryReason} : Notices s (enterIsolated r b) :=
  (h.onStation (f := fun s => { s with shortRun := 0, goodRun := 0 }) rfl).changeState.same rfl rfl rfl

theorem Notices.controlRound {s b : Block} (h : Notices s b) : Notices s (controlRound b) := by
  have hstation : ∀ {f : Station → Station}, (f b.station).clock = b.station.clock → Notices s (b.onStation f) := h.onStation
  unfold Machine.controlRound
  split
  · exact .ite (.ite (hstation rfl).enterActive (hstation rfl).enterIsolated) (hstation rfl)
  · exact .ite (hstation rfl).enterIsolated (hstation rfl)
  · exact .ite (hstation rfl).enterActive (hstation rfl)
  · exact h
  · exact h
  · exact h

/-- A round changes the station state between states in which frames are taken (R40 to R42, R64). -/
theorem controlRound_takes (b : Block) : (controlRound b).lineTakes = b.lineTakes := by
  unfold controlRound
  dsimp only
  repeat' split
  all_goals simp [Block.lineTakes, *]

theorem controlRound_onward (b : Block) : Onward b (controlRound b) :=
  ⟨(Notices.refl b).controlRound.toEventsGrow, (Notices.refl b).controlRound.frames, controlRound_takes b,
    (controlRound_station b).2.2.1⟩

theorem prune_acts (b : Block) : PageActs (fun c => c.kind = .courseReady) lost gone b (pruneParticipants b) := by
  refine PageActs.trans ?_ (evalAllReady_acts (fun _ h => h) _)
  exact .of_pages (.of_notices (Notices.same (.refl _) rfl rfl rfl) rfl) rfl

/-- From the aged peers to the Load Share Unit's round (R40, R125, R159). -/
theorem pruned_acts (b : Block) : PageActs (fun c => c.kind = .courseReady) lost gone b
    (pruneParticipants (decideElection (controlRound b))) := by
  have hcontrol : PageActs (fun c => c.kind = .courseReady) lost gone b (controlRound b) :=
    .of_pages (controlRound_onward b) (by simp)
  have hdecide : PageActs (fun c => c.kind = .courseReady) lost gone (controlRound b) (decideElection (controlRound b)) :=
    .of_pages (.of_notices (Notices.refl _).decideElection (by simp)) (by simp)
  exact hcontrol.trans (hdecide.trans (prune_acts _))

theorem agedTable_acts (b : Block) : PageActs news lost gone b (agedTable b) :=
  .of_pages (.of_notices (Notices.same (.refl b) rfl rfl rfl) rfl) rfl

/-- The acts of a round before the Load Share Unit's, where `ids` are still to be handed on. -/
theorem aging_acts {ids : List Nat} (h : ∀ id ∈ ids, lost id) (b : Block) :
    PageActs (agingNews lost) lost (agingGone lost) b
      (pruneParticipants (decideElection (controlRound (ids.foldl losePeer b)))) :=
  (losePeers_acts h b).trans ((pruned_acts _).mono (fun _ h => .inr h) (fun _ h => h) (fun _ h => h))

theorem beforeShare_acts (b : Block) :
    PageActs (agingNews (· ∈ lostIds b)) (· ∈ lostIds b) (agingGone (· ∈ lostIds b)) b (beforeShare b) :=
  (agedTable_acts b).trans (aging_acts (fun _ h => h) _)

/-! ### The Load Share Unit's round -/

theorem onShare_onward (f : LoadShare → LoadShare) (b : Block) : Onward b (b.onShare f) :=
  .of_notices (Notices.same (.refl b) rfl rfl rfl) rfl

theorem count_onward (n : CounterName) (b : Block) : Onward b (count n b) :=
  ⟨count_grows n b, List.prefix_refl _, rfl, rfl⟩

theorem formInputs_onward (b : Block) : Onward b (formInputs b) := by
  unfold formInputs
  exact onShare_onward _ b

theorem divideFeeder_onward (b : Block) : Onward b (divideFeeder b) := by
  unfold divideFeeder
  exact onShare_onward _ b

theorem applyGrant_onward (b : Block) : Onward b (applyGrant b) := by
  unfold applyGrant
  dsimp only
  have hgrant : ∀ f, Onward b (b.onShare f) := fun f => onShare_onward f b
  split
  · split
    · exact ((hgrant _).trans (count_onward _ _)).trans (count_onward _ _)
    · exact (hgrant _).trans (count_onward _ _)
  · split
    · exact (hgrant _).trans (count_onward _ _)
    · exact hgrant _

theorem bookOvercommit_acts (b : Block) : PageActs (· = overcommitCause) (fun _ => False) (fun e => e.cause = overcommitCause)
    b (bookOvercommit b) := by
  unfold bookOvercommit
  split
  · exact .refl b
  · split
    · exact PageActs.trans (.of_pages ((onShare_onward _ b).trans (count_onward _ _)) rfl) (raise_acts (news := (· = overcommitCause)) rfl _)
    · split
      · extract_lets b'
        have hb' : Onward b b' := onShare_onward _ b
        split
        · exact PageActs.trans (.of_pages hb' rfl) (resolve_acts (fun _ h => h) _)
        · exact .of_pages hb' rfl
      · exact .refl b

/-- The end of a round marks slots alone (R18, R122). -/
theorem roundEnd_notices (b : Block) : (handOnDemand (toggleParity b)).line.pageQueue = b.line.pageQueue := by
  unfold handOnDemand toggleParity markDemand markCourse
  dsimp only
  repeat' split
  all_goals rfl

theorem roundEnd_onward (b : Block) : Onward b (handOnDemand (toggleParity b)) :=
  ⟨.of_port (by simp) (by simp), by rw [roundEnd_notices], by rw [Block.lineTakes, Block.lineTakes]; simp, by simp⟩

/-- The acts of the Load Share Unit's round and what follows it. -/
theorem shareEnd_acts (b : Block) : PageActs (· = overcommitCause) (fun _ => False) (fun e => e.cause = overcommitCause)
    b (endRound b) := by
  have hgrant : Onward b (applyGrant (divideFeeder (formInputs b))) :=
    ((formInputs_onward b).trans (divideFeeder_onward _)).trans (applyGrant_onward _)
  unfold endRound shareRound
  exact PageActs.trans (.of_pages hgrant (by simp)) ((bookOvercommit_acts _).trans (.of_pages (roundEnd_onward _) (by simp)))

/-- The causes that a round raises. -/
def roundNews (lost : Nat → Prop) (c : Cause) : Prop := agingNews lost c ∨ c = overcommitCause

/-- The entries that a round clears. -/
def roundGone (lost : Nat → Prop) (e : PageEntry) : Prop := agingGone lost e ∨ e.cause = overcommitCause

/-- A round's acts after the peers of `ids` are handed on. -/
theorem round_acts {ids : List Nat} (h : ∀ id ∈ ids, lost id) (b : Block) :
    PageActs (roundNews lost) lost (roundGone lost) b
      (endRound (pruneParticipants (decideElection (controlRound (ids.foldl losePeer b))))) :=
  ((aging_acts h b).mono (fun _ => .inl) (fun _ h => h) (fun _ => .inl)).trans
    ((shareEnd_acts _).mono (fun _ => .inr) (fun _ h => h.elim) (fun _ => .inr))

/-- A round comes to each lost id by page acts, and goes on from it by page acts (R28). -/
theorem round_splits {b : Block} (h : id ∈ lostIds b) : ∃ m,
    PageActs (roundNews (· ∈ lostIds b)) (· ∈ lostIds b) (roundGone (· ∈ lostIds b)) b m ∧
      PageActs (roundNews (· ∈ lostIds b)) (· ∈ lostIds b) (roundGone (· ∈ lostIds b)) (losePeer m id)
        (endRound (beforeShare b)) := by
  obtain ⟨pre, post, hsplit⟩ := List.append_of_mem h
  have hpre : ∀ i ∈ pre, i ∈ lostIds b := fun i hi => by simp [hsplit, hi]
  have hpost : ∀ i ∈ post, i ∈ lostIds b := fun i hi => by simp [hsplit, hi]
  refine ⟨pre.foldl losePeer (agedTable b), (agedTable_acts b).trans
    ((losePeers_acts hpre _).mono (fun _ => .inl) (fun _ h => h) (fun _ => .inl)), ?_⟩
  rw [beforeShare, agePeers_eq]
  conv => enter [5]; rw [hsplit, List.foldl_append, List.foldl_cons]
  exact round_acts hpost _

end

end Sys2Proof.Machine
end

section
/-! PROOFS. Lost ids and slots at a round (R18, R27, R28, R122). -/

namespace Sys2Proof.Machine

/-! ## The courses a lost id leaves (R28) -/

theorem hasId_dropId_self (id : Nat) (x : IdSet) : hasId (dropId id x) id = false := by
  simp [hasId, dropId, idBit]

theorem hasId_and {x : IdSet} {id : Nat} (h : hasId x id = false) (y : IdSet) : hasId (x &&& y) id = false := by
  simp_all [hasId]

/-- An id is neither a participant of a course nor in its ready set. -/
def Course.lacks (id : Nat) (c : Course) : Prop := hasId c.participants id = false ∧ hasId c.readySet id = false

/-- Every course lacks an id. -/
def coursesLack (id : Nat) (b : Block) : Prop := ∀ i c, courseAt i b = some c → c.lacks id

theorem courseAt_mapCourses (f : Course → Course) (i : Nat) (b : Block) :
    courseAt i (mapCourses f b) = (courseAt i b).map f := by
  simp only [courseAt, mapCourses, Block.onPlan_plan, List.getD_eq_getElem?_getD, List.getElem?_map]
  cases b.plan.courses[i]? <;> rfl

theorem coursesLack_of_plan {id : Nat} {b b' : Block} (hp : b'.plan = b.plan) (h : coursesLack id b) : coursesLack id b' := by
  unfold coursesLack courseAt
  rwa [hp]

theorem coursesLack_mapCourses {id : Nat} {b : Block} {f : Course → Course}
    (h : ∀ i c, courseAt i b = some c → (f c).lacks id) : coursesLack id (mapCourses f b) := by
  intro i c hc
  rw [courseAt_mapCourses, Option.map_eq_some_iff] at hc
  obtain ⟨d, hd, rfl⟩ := hc
  exact h i d hd

theorem coursesLack_losePeer_self (id : Nat) (b : Block) : coursesLack id (losePeer b id) :=
  coursesLack_mapCourses fun _ _ _ => ⟨hasId_dropId_self _ _, hasId_dropId_self _ _⟩

theorem coursesLack_losePeer {id : Nat} {b : Block} (h : coursesLack id b) (other : Nat) :
    coursesLack id (losePeer b other) := by
  refine coursesLack_mapCourses fun i c hc => ?_
  obtain ⟨hp, hr⟩ := coursesLack_of_plan (b' := resolved .configMismatch other (orphanPages other none
    (raise .stationLost other b))) (by simp) h i c hc
  exact ⟨hasId_and hp _, hasId_and hr _⟩

/-- A course read after one was written is what was written, or stood before. -/
theorem courseAt_setCourse {i j : Nat} {x : Option Course} {c : Course} {b : Block}
    (h : courseAt j (setCourse i x b) = some c) : x = some c ∨ courseAt j b = some c := by
  simp only [courseAt, setCourse, Block.onPlan_plan, List.getD_eq_getElem?_getD, List.getElem?_set] at h ⊢
  split_ifs at h
  · exact .inl h
  · cases h
  · exact .inr h

/-- All-ready is evaluated from the ready set, not into it (R128). -/
theorem coursesLack_evalReady {id : Nat} {b : Block} (h : coursesLack id b) (i : Nat) : coursesLack id (evalReady i b) := by
  unfold evalReady
  split
  · rename_i c hc
    extract_lets ready b'
    have hb' : coursesLack id b' := by
      intro j d hd
      obtain ⟨⟨⟩⟩ | hd := courseAt_setCourse hd
      · exact h i c hc
      · exact h j d hd
    split
    · exact coursesLack_of_plan (by simp) hb'
    · exact hb'
  · exact h

theorem coursesLack_evalAllReady {id : Nat} {b : Block} (h : coursesLack id b) : coursesLack id (evalAllReady b) :=
  List.foldlRecOn (motive := coursesLack id) _ _ h fun _ hb i _ => coursesLack_evalReady hb i

theorem coursesLack_prune {id : Nat} {b : Block} (h : coursesLack id b) : coursesLack id (pruneParticipants b) := by
  refine coursesLack_evalAllReady (coursesLack_of_plan rfl (coursesLack_mapCourses fun i c hc => ?_))
  exact ⟨hasId_and (h i c hc).1 _, hasId_and (h i c hc).2 _⟩

/-- Once an id is lost, no course has it to the end of the round (R28). -/
theorem round_coursesLack {b : Block} {id : Nat} (h : id ∈ lostIds b) : coursesLack id (endRound (beforeShare b)) := by
  obtain ⟨pre, post, hsplit⟩ := List.append_of_mem h
  have hage : coursesLack id (agePeers b) := by
    rw [agePeers_eq, hsplit, List.foldl_append, List.foldl_cons]
    exact List.foldlRecOn (motive := coursesLack id) _ _ (coursesLack_losePeer_self id _)
      fun _ hb other _ => coursesLack_losePeer hb other
  have hdecide : coursesLack id (decideElection (controlRound (agePeers b))) := coursesLack_of_plan (by simp) hage
  exact coursesLack_of_plan (by simp [endRound, beforeShare]) (coursesLack_prune hdecide)

/-! ## The slots and the round parity (R18, R64, R122) -/

theorem Notices.losePeer {s b : Block} (h : Notices s b) {id : Nat} : Notices s (losePeer b id) :=
  h.raise.orphanPages.resolved.mapCourses

theorem Notices.agePeers {s b : Block} (h : Notices s b) : Notices s (agePeers b) :=
  (h.same (b' := agedTable b) rfl rfl rfl).trans (.foldl (fun _ _ => (Notices.refl _).losePeer) _ _)

theorem Notices.pruneParticipants {s b : Block} (h : Notices s b) : Notices s (pruneParticipants b) := by
  have hmasked : ∀ f g, Notices s ((Machine.mapCourses f b).onCoord g) := fun _ _ => h.same rfl rfl rfl
  unfold Machine.pruneParticipants
  exact (hmasked _ _).evalAllReady

theorem beforeShare_notices (b : Block) : Notices b (beforeShare b) :=
  (Notices.refl b).agePeers.controlRound.decideElection.pruneParticipants

theorem bookOvercommit_line (b : Block) :
    (bookOvercommit b).line = { b.line with pageQueue := (bookOvercommit b).line.pageQueue } := by
  have hraise : ∀ c : Block, (raise .overcommit 0 c).line = { c.line with pageQueue := (raise .overcommit 0 c).line.pageQueue } :=
    fun c => (Notices.refl c).raise.line_eq
  have hresolve : ∀ c : Block,
      (resolved .overcommit 0 c).line = { c.line with pageQueue := (resolved .overcommit 0 c).line.pageQueue } :=
    fun c => (Notices.refl c).resolved.line_eq
  unfold bookOvercommit
  dsimp only
  repeat' split
  · rfl
  · exact hraise _
  · exact hresolve _
  · rfl
  · rfl

/-- The Load Share Unit's round marks no slot. -/
theorem shareRound_line (b : Block) :
    (shareRound b).line = { b.line with pageQueue := (shareRound b).line.pageQueue } := by
  have h := bookOvercommit_line (applyGrant (divideFeeder (formInputs b)))
  rw [applyGrant_line, divideFeeder_line, formInputs_line] at h
  exact h

/-- DEMAND and COURSE slot as the end of a round finds them stand since its start. -/
theorem round_slots (b : Block) : (shareRound (beforeShare b)).line.demandSlot = b.line.demandSlot ∧
    (shareRound (beforeShare b)).line.courseSlot = b.line.courseSlot := by
  rw [shareRound_line, (beforeShare_notices b).line_eq]
  exact ⟨rfl, rfl⟩

theorem markCourse_demandSlot (b : Block) : (markCourse b).line.demandSlot = b.line.demandSlot := by
  unfold markCourse
  split <;> rfl

theorem markDemand_courseSlot (b : Block) : (markDemand b).line.courseSlot = b.line.courseSlot := by
  unfold markDemand
  split <;> rfl

theorem toggleParity_demandSlot (b : Block) : (toggleParity b).line.demandSlot = b.line.demandSlot := by
  unfold toggleParity
  dsimp only
  split
  · rfl
  · exact markCourse_demandSlot _

theorem handOnDemand_courseSlot (b : Block) : (handOnDemand b).line.courseSlot = b.line.courseSlot := by
  unfold handOnDemand
  split
  · exact markDemand_courseSlot b
  · rfl

/-- A station that transmits leaves its DEMAND slot pending, another as it stood (R18). -/
theorem handOnDemand_demandSlot (b : Block) :
    (handOnDemand b).line.demandSlot = (b.station.state.transmits || b.line.demandSlot) := by
  unfold handOnDemand
  split
  · rename_i ht
    have htakes : b.lineTakes = true := by
      unfold StationState.transmits at ht
      unfold Block.lineTakes
      split at ht <;> simp_all
    rw [markDemand, if_pos htakes, ht]
    rfl
  · rename_i ht
    simp [ht]

/-- At parity 0 the COURSE slot is marked where frames are taken, at parity 1 it stands (R64, R122). -/
theorem toggleParity_courseSlot (b : Block) : (toggleParity b).line.courseSlot =
    (b.coord.parity && b.lineTakes || b.line.courseSlot) := by
  have htakes : ∀ f, (b.onCoord f).lineTakes = b.lineTakes := fun _ => rfl
  unfold toggleParity
  dsimp only
  cases hp : b.coord.parity with
  | false => simp [hp]
  | true => cases hl : b.lineTakes <;> simp [hp, hl, htakes, markCourse, markFlight]

theorem toggleParity_coord (b : Block) : (toggleParity b).coord = { b.coord with parity := !b.coord.parity } := by
  unfold toggleParity
  dsimp only
  split <;> simp

theorem beforeShare_coord (b : Block) : (beforeShare b).coord = { parity := b.coord.parity, heard := 0 } := by
  simp [beforeShare, pruneParticipants]

/-! ## The pages of a lost id (R28) -/

/-- The part as the resolution report about a lost id finds it: its loss raised, its pages handed on (R28, R158). -/
def orphaned (id : Nat) (b : Block) : Block := orphanPages id none (raise .stationLost id b)

/-- The loss of an id whose cause no page holds is raised at the round (R28, R152, R153). -/
theorem round_raises_lost {b : Block} {id : Nat} (h : id ∈ lostIds b)
    (hnone : locatePage { kind := .stationLost, subject := id } b = none) :
    raiseMade { kind := .stationLost, subject := id } b (endRound (beforeShare b)) := by
  obtain ⟨m, hbefore, hafter⟩ := round_splits h
  have hraise := raiseLost_acts (lost := (· ∈ lostIds b)) h m
  have hend := ((raisedLost_acts (lost := (· ∈ lostIds b)) h m).mono (fun _ => .inl) (fun _ h => h) (fun _ => .inl)).trans hafter
  have hall : allRaised { kind := .stationLost, subject := id } (raise .stationLost id m) :=
    hraise.allRaised (hbefore.allRaised fun i x hx hc => absurd hc (locatePage_eq_none.1 hnone i x hx))
  obtain hheld | ⟨_, _, hlost⟩ := raise_taken .stationLost id m
  · refine .inl (hend.causeHeld (fun e he hc => ?_) hall hheld)
    obtain (⟨_, _, hc'⟩ | ⟨hacked, _⟩) | hc' := he
    · rw [hc] at hc'
      cases hc'
    · exact hacked
    · rw [hc] at hc'
      cases hc'
  · exact .inr (offered_mono (offered_of_grows hbefore.onward.toEventsGrow hlost) hend.onward.toEventsGrow)

/-- A followed entry that was reported resolved has had its CLEAR taken (R154). -/
theorem Followed.clearTaken {i : Nat} {e : PageEntry} {s b : Block} (h : Followed True i e s b)
    (ho : e.owner = s.station.strapId) (hl : s.lineTakes = true) : clearTaken i e s b := by
  obtain ⟨hfull, x, hx, hc, _, _, _, hdue⟩ | ⟨⟨hframe, hevent⟩, hslot⟩ := h.fate
  · exact .inr ⟨hfull trivial, x, hx, hc, hdue trivial⟩
  · exact .inl ⟨hframe hl, ⟨e.level, b.station.clock, le_rfl, .inr rfl, ho ▸ hevent⟩,
      fun x hx hc => absurd hc (hslot x hx)⟩

/-- A lost id's CONFIG_MISMATCH is reported resolved at the round (R28, R154). -/
theorem round_resolves_mismatch {b : Block} {id : Nat} (h : id ∈ lostIds b) :
    resolveMade { kind := .configMismatch, subject := id } b (endRound (beforeShare b)) := by
  intro i e hlocate ho hl hw _
  obtain ⟨hat, hcause, hfirst⟩ := locatePage_eq_some.1 hlocate
  obtain ⟨m, hbefore, hafter⟩ := round_splits h
  have horphan : PageActs (agingNews (· ∈ lostIds b)) (· ∈ lostIds b) (agingGone (· ∈ lostIds b)) m (orphaned id m) :=
    (raiseLost_acts h m).trans (orphanLost_acts h _)
  have hnews : ¬roundNews (· ∈ lostIds b) e.cause := by
    rw [hcause]
    rintro ((⟨_, _, hc⟩ | hc) | hc) <;> cases hc
  have hfollowed : Followed False i e b (orphaned id m) :=
    (hbefore.trans (horphan.mono (fun _ => .inl) (fun _ h => h) (fun _ => .inl))).followed hnews
      (.start hat ho (hcause ▸ hw))
  have hresolved := hfollowed.resolve (hcause ▸ hfirst)
  rw [hcause] at hresolved
  have hdrop : PageActs (roundNews (· ∈ lostIds b)) (· ∈ lostIds b) (roundGone (· ∈ lostIds b))
      (resolve { kind := .configMismatch, subject := id } (orphaned id m)) (losePeer m id) := mapCourses_acts _ _
  exact ((hdrop.trans hafter).followed hnews hresolved).clearTaken ho hl

theorem beforeShare_works (b : Block) : (beforeShare b).station.state.works = b.station.state.works := by
  simp [beforeShare, (controlRound_station (agePeers b)).1]

/-- A working station that is not LOCAL takes frames (R64). -/
theorem takes_of_works {b : Block} (h : b.station.state.works = true) (hl : b.station.state ≠ .localOnly) :
    b.lineTakes = true := by
  unfold Block.lineTakes
  unfold StationState.works at h
  split <;> simp_all

/-- Settles O11: aging by its equation, slots and parity by the end of the round, the lost ids by the acts on their pages. -/
theorem roundAgesPeersAndMarksSlots : Obligations.RoundAgesPeersAndMarksSlots := by
  intro s hr ha
  obtain ⟨hdemand, hcourse⟩ := round_slots s.block
  have hcoord : (endRound (beforeShare s.block)).coord = { parity := !s.block.coord.parity, heard := 0 } := by
    rw [endRound, handOnDemand_coord, toggleParity_coord, shareRound_coord, beforeShare_coord]
  have hdemandSlot : (endRound (beforeShare s.block)).line.demandSlot =
      ((endRound (beforeShare s.block)).station.state.transmits || s.block.line.demandSlot) := by
    rw [endRound, handOnDemand_demandSlot, toggleParity_demandSlot, hdemand, handOnDemand_station]
  have hcourseSlot : (endRound (beforeShare s.block)).line.courseSlot =
      (s.block.coord.parity && (shareRound (beforeShare s.block)).lineTakes || s.block.line.courseSlot) := by
    rw [endRound, handOnDemand_courseSlot, toggleParity_courseSlot, hcourse, shareRound_coord, beforeShare_coord]
  refine completes_round hr ha ⟨?_, fun h => ?_, fun h => ?_, hcoord, fun hp hl => ?_, fun hp => ?_, fun p hp hage => ?_⟩
  · rw [endRound_peers, beforeShare_peers]
  · obtain h | h := h <;> rw [hdemandSlot, h] <;> rfl
  · obtain h | h := h <;> rw [hdemandSlot, h] <;> rfl
  · have hparity : s.block.coord.parity = true := by simpa [hcoord] using hp
    have htakes : (shareRound (beforeShare s.block)).lineTakes = true := by
      refine takes_of_works ?_ ?_ <;> rw [shareRound_station]
      · rw [beforeShare_works]
        simp_all [Block.runs]
      · rwa [← endRound_station]
    rw [hcourseSlot, hparity, htakes]
    rfl
  · have hparity : s.block.coord.parity = false := by simpa [hcoord] using hp
    rw [hcourseSlot, hparity]
    rfl
  · have hid : p.id ∈ lostIds s.block := mem_lostIds.2 ⟨p, hp, hage, rfl⟩
    exact ⟨round_raises_lost hid, round_resolves_mismatch hid, round_coursesLack hid⟩

end Sys2Proof.Machine
end

section
/-! PROOFS. The overcommit bookkeeping of a round (R20 to R22). -/

namespace Sys2Proof.Machine

/-! ## The counters of rounds (R16, R20) -/

/-- Stage 3 counts a round curtailed and a round held (R16). -/
theorem applyGrant_rounds (b : Block) : (applyGrant b).port.counters.ofRounds =
    (if newGrant b < b.share.wantSelf then min 65535 (b.port.counters.roundsCurtailed + 1)
      else b.port.counters.roundsCurtailed,
      b.port.counters.roundsOvercommitted,
      if b.share.applied < target b ∧ increase b = 0 then min 65535 (b.port.counters.roundsHeld + 1)
      else b.port.counters.roundsHeld) := by
  unfold applyGrant
  simp only [← Bool.decide_and, decide_eq_true_eq]
  split_ifs <;> rfl

/-- What the overcommit bookkeeping does (R20 to R22). -/
inductive Booked (b b' : Block) : Prop
  | otherState (state : b.station.state ≠ .active) (same : b' = b)
  | overcommitted (state : b.station.state = .active) (excess : b.share.overcommitted = true)
      (raised : b' = raise .overcommit 0 (count .roundsOvercommitted (b.onShare fun s => { s with cleanRun := 0 })))
  | clears (state : b.station.state = .active) (excess : b.share.overcommitted = false) (run : b.share.cleanRun = 4)
      (resolved : b' = resolved .overcommit 0 (b.onShare fun s => { s with cleanRun := s.cleanRun + 1 }))
  | counts (state : b.station.state = .active) (excess : b.share.overcommitted = false) (run : b.share.cleanRun < 4)
      (same : b' = b.onShare fun s => { s with cleanRun := s.cleanRun + 1 })
  | full (state : b.station.state = .active) (excess : b.share.overcommitted = false) (run : 5 ≤ b.share.cleanRun)
      (same : b' = b)

theorem bookOvercommit_booked (b : Block) : Booked b (bookOvercommit b) := by
  unfold bookOvercommit
  split
  · rename_i h
    exact .otherState h rfl
  · rename_i h
    replace h := not_not.1 h
    split
    · rename_i ho
      exact .overcommitted h ho rfl
    · rename_i ho
      replace ho : b.share.overcommitted = false := by simpa using ho
      split
      · rename_i hlt
        change b.share.cleanRun < 5 at hlt
        extract_lets b'
        split
        · rename_i h5
          change b.share.cleanRun + 1 = 5 at h5
          exact .clears h ho (by omega) rfl
        · rename_i h5
          change ¬b.share.cleanRun + 1 = 5 at h5
          exact .counts h ho (by omega) rfl
      · rename_i hlt
        change ¬b.share.cleanRun < 5 at hlt
        exact .full h ho (by omega) rfl

/-- The bookkeeping leaves rounds curtailed and held, and counts an overcommit (R20). -/
theorem Booked.rounds {b b' : Block} (h : Booked b b') : b'.port.counters.ofRounds =
    (b.port.counters.roundsCurtailed,
      if b.station.state = .active ∧ b.share.overcommitted = true then min 65535 (b.port.counters.roundsOvercommitted + 1)
      else b.port.counters.roundsOvercommitted,
      b.port.counters.roundsHeld) := by
  cases h with
  | otherState state same =>
    rw [same, if_neg fun h => state h.1]
    rfl
  | overcommitted state excess raised =>
    rw [raised, (Notices.refl _).raise.rounds, if_pos ⟨state, excess⟩]
    rfl
  | clears state excess run resolved =>
    rw [resolved, (Notices.refl _).resolved.rounds, if_neg (by simp [excess])]
    rfl
  | counts state excess run same =>
    rw [same, if_neg (by simp [excess])]
    rfl
  | full state excess run same =>
    rw [same, if_neg (by simp [excess])]
    rfl

/-- The clean run after the bookkeeping (R20, R21, R22). -/
theorem Booked.cleanRun {b b' : Block} (h : Booked b b') : b'.share.cleanRun =
    if b.station.state = .active then
      if b.share.overcommitted = true then 0
      else if b.share.cleanRun < 5 then b.share.cleanRun + 1 else b.share.cleanRun
    else b.share.cleanRun := by
  cases h with
  | otherState state same => simp [same, state]
  | overcommitted state excess raised => simp [raised, state, excess]
  | clears state excess run resolved => simp [resolved, state, excess, run]
  | counts state excess run same => simp [same, state, excess, show b.share.cleanRun < 5 by omega]
  | full state excess run same => simp [same, state, excess, show ¬b.share.cleanRun < 5 by omega]

/-! ## A round's bookkeeping (R20 to R22) -/

/-- The part as the bookkeeping finds it (R13 to R16). -/
def granted (b : Block) : Block := applyGrant (divideFeeder (formInputs b))

theorem shareRound_eq (b : Block) : shareRound b = bookOvercommit (granted b) := rfl

theorem granted_beforeShare (b : Block) : granted (beforeShare b) = applyGrant (beforeGrant b) := rfl

theorem granted_onward (b : Block) : Onward b (granted b) :=
  ((formInputs_onward b).trans (divideFeeder_onward _)).trans (applyGrant_onward _)

theorem granted_pages (b : Block) : (granted b).pages = b.pages := by simp [granted]

theorem granted_station (b : Block) : (granted b).station = b.station := by simp [granted]

theorem applyGrant_share (b : Block) : (applyGrant b).share =
    { b.share with applied := newGrant b, rising := decide (newGrant b < target b) } := by
  unfold applyGrant
  dsimp only
  split_ifs <;> rfl

theorem beforeShare_share (b : Block) : (beforeShare b).share = (controlRound (agePeers b)).share := by simp [beforeShare]

theorem controlRound_cleanRun (b : Block) : (controlRound b).share.cleanRun = b.share.cleanRun := by
  unfold controlRound
  dsimp only
  repeat' split
  all_goals simp [enterActive, enterIsolated, cutGrant]

theorem formInputs_cleanRun (b : Block) : (formInputs b).share.cleanRun = b.share.cleanRun := rfl

theorem granted_cleanRun (b : Block) : (granted (beforeShare b)).share.cleanRun = b.share.cleanRun := by
  rw [granted, applyGrant_share, divideFeeder_share]
  dsimp only
  rw [formInputs_cleanRun, beforeShare_share, controlRound_cleanRun, agePeers_share]

theorem granted_overcommitted (b : Block) : (granted b).share.overcommitted = (shareRound b).share.overcommitted := by
  rw [shareRound_share, granted, applyGrant_share]

/-- The counters of rounds stand up to stage 3. -/
theorem beforeGrant_rounds (b : Block) : (beforeGrant b).port.counters.ofRounds = b.port.counters.ofRounds := by
  rw [beforeGrant, divideFeeder_port, formInputs_port, (beforeShare_notices b).rounds]

theorem endRound_port (b : Block) : (endRound b).port = (shareRound b).port := by simp [endRound]

/-- The counters of rounds after the round (R16, R20). -/
theorem round_counters (b : Block) : (endRound (beforeShare b)).port.counters.ofRounds =
    (if newGrant (beforeGrant b) < (beforeGrant b).share.wantSelf then min 65535 (b.port.counters.roundsCurtailed + 1)
      else b.port.counters.roundsCurtailed,
      if (endRound (beforeShare b)).station.state = .active ∧ (endRound (beforeShare b)).share.overcommitted = true then
        min 65535 (b.port.counters.roundsOvercommitted + 1)
      else b.port.counters.roundsOvercommitted,
      if (beforeGrant b).share.applied < target (beforeGrant b) ∧ increase (beforeGrant b) = 0 then
        min 65535 (b.port.counters.roundsHeld + 1)
      else b.port.counters.roundsHeld) := by
  have hstart := beforeGrant_rounds b
  have hgranted := applyGrant_rounds (beforeGrant b)
  rw [← granted_beforeShare] at hgranted
  have hbooked := (bookOvercommit_booked (granted (beforeShare b))).rounds
  simp only [Counters.ofRounds, Prod.mk.injEq] at hstart hgranted
  obtain ⟨hcurtailed, hover, hheld⟩ := hstart
  obtain ⟨hgcurtailed, hgover, hgheld⟩ := hgranted
  rw [endRound_station, endRound_share, ← granted_overcommitted, ← granted_station, endRound_port, shareRound_eq, hbooked]
  rw [hgcurtailed, hgover, hgheld, hcurtailed, hover, hheld]

theorem endRound_pages (b : Block) : (endRound b).pages = (shareRound b).pages := by simp [endRound]

/-- The clean run after the round (R20 to R22). -/
theorem round_cleanRun (b : Block) : (endRound (beforeShare b)).share.cleanRun =
    if (endRound (beforeShare b)).station.state = .active then
      if (endRound (beforeShare b)).share.overcommitted = true then 0
      else if b.share.cleanRun < 5 then b.share.cleanRun + 1 else b.share.cleanRun
    else b.share.cleanRun := by
  have hbooked := (bookOvercommit_booked (granted (beforeShare b))).cleanRun
  rw [granted_station, granted_overcommitted, granted_cleanRun] at hbooked
  rw [endRound_station, endRound_share, shareRound_eq, hbooked, shareRound_eq]

theorem raiseTaken_of_pages {c : Cause} {b b' : Block} (hp : b'.pages = b.pages) (h : raiseTaken c b) : raiseTaken c b' := by
  unfold raiseTaken causeHeld pageIndex isWaiting freePage at *
  rwa [hp]

/-- An overcommitted round in ACTIVE raises the page (R20). -/
theorem round_raises_overcommit {b : Block} (hs : b.station.state = .active)
    (ho : (shareRound b).share.overcommitted = true) : raiseTaken overcommitCause (endRound b) := by
  refine raiseTaken_of_pages (endRound_pages b) ?_
  rw [← granted_overcommitted] at ho
  rw [← granted_station] at hs
  rw [shareRound_eq, bookOvercommit, if_neg (not_not.2 hs), if_pos ho]
  exact (raise_taken .overcommit 0 _).imp_right fun ⟨hfree, hfull, _⟩ => ⟨hfree, hfull⟩

/-- The fifth clean round in ACTIVE reports the overcommit resolved (R21). -/
theorem shareRound_resolves {b : Block} (hs : b.station.state = .active) (ho : (shareRound b).share.overcommitted = false)
    (hrun : (granted b).share.cleanRun = 4) : ∃ f, shareRound b = resolve overcommitCause ((granted b).onShare f) := by
  rw [← granted_overcommitted] at ho
  rw [← granted_station] at hs
  rw [shareRound_eq]
  cases bookOvercommit_booked (granted b) with
  | clears _ _ _ resolved => exact ⟨_, resolved⟩
  | otherState state _ => exact absurd hs state
  | overcommitted _ excess _ => simp [ho] at excess
  | counts _ _ run _ => omega
  | full _ _ run _ => omega

/-- An OVERCOMMIT page followed to the Load Share Unit's round is cleared in it (R21, R154). -/
theorem Followed.overcommit {s b : Block} {i : Nat} {e : PageEntry} (h : Followed False i e s b)
    (hcause : e.cause = overcommitCause) (hfirst : ∀ j < i, ∀ x, pageAt j s = some x → x.cause ≠ e.cause)
    {f : LoadShare → LoadShare} (hf : shareRound b = Machine.resolve overcommitCause ((granted b).onShare f)) :
    Followed True i e s (endRound b) := by
  have hgrant : PageActs (fun _ => False) (fun _ => False) (fun _ => False) b ((granted b).onShare f) :=
    .of_pages ((granted_onward b).trans (onShare_onward f _)) (granted_pages b)
  have hend : PageActs (fun _ => False) (fun _ => False) (fun _ => False) (shareRound b) (endRound b) :=
    .of_pages (roundEnd_onward _) (endRound_pages b)
  have hresolved := (hgrant.followed (fun h => h) h).resolve hfirst
  rw [hcause, ← hf] at hresolved
  exact hend.followed (fun h => h) hresolved

/-- The fifth clean round in ACTIVE clears the page this station owns (R21, R154). -/
theorem round_clears_overcommit {b : Block} (hs : (beforeShare b).station.state = .active)
    (ho : (shareRound (beforeShare b)).share.overcommitted = false) (hrun : b.share.cleanRun = 4) {i : Nat} {e : PageEntry}
    (hw : isWaiting overcommitCause b = false) (hl : locatePage overcommitCause b = some (i, e))
    (hown : e.owner = b.station.strapId) : clearTaken i e b (endRound (beforeShare b)) := by
  obtain ⟨hat, hcause, hfirst⟩ := locatePage_eq_some.1 hl
  have hnews : ¬agingNews (· ∈ lostIds b) e.cause := by
    rw [hcause]
    rintro (⟨_, _, hc⟩ | hc) <;> cases hc
  obtain ⟨f, hf⟩ := shareRound_resolves hs ho ((granted_cleanRun b).trans hrun)
  have hfollowed := (beforeShare_acts b).followed hnews (.start hat hown (hcause ▸ hw))
  have hcleared := hfollowed.overcommit hcause (hcause ▸ hfirst) hf
  have htakes : b.lineTakes = true := by rw [← (beforeShare_acts b).onward.takes, Block.lineTakes, hs]
  exact hcleared.clearTaken hown htakes

/-- Settles O7: the branches of the bookkeeping, the page followed to its CLEAR. -/
theorem overcommitIsBooked : Obligations.OvercommitIsBooked := by
  intro s hr ha
  have hcounters := round_counters s.block
  simp only [Counters.ofRounds, Prod.mk.injEq] at hcounters
  obtain ⟨_, hover, _⟩ := hcounters
  have hclean := round_cleanRun s.block
  refine completes_round hr ha ⟨fun hs ho => ⟨?_, ?_, ?_⟩, fun hs ho => ⟨?_, ?_, ?_⟩, fun hs => ⟨?_, ?_⟩⟩
  · simpa [hs, ho] using hclean
  · simpa [hs, ho] using hover
  · rw [endRound_share] at ho
    rw [endRound_station] at hs
    exact round_raises_overcommit hs ho
  · simpa [hs, ho] using hclean
  · simpa [hs, ho] using hover
  · intro i e hrun _ hw hl hown
    rw [endRound_share] at ho
    rw [endRound_station] at hs
    exact round_clears_overcommit hs ho hrun hw hl hown
  · simpa [hs] using hclean
  · simpa [hs] using hover

end Sys2Proof.Machine
end

section
/-! PROOFS. Own figures, division and grant of a round (R5, R12 to R16). -/

namespace Sys2Proof.Machine

/-! ## The own figures (R5) -/

theorem foldl_max_spec (xs : List Nat) (a : Nat) :
    (∀ x ∈ xs, x ≤ xs.foldl max a) ∧ a ≤ xs.foldl max a ∧ (xs.foldl max a = a ∨ xs.foldl max a ∈ xs) := by
  induction xs generalizing a with
  | nil => simp
  | cons x rest ih =>
    obtain ⟨hall, hmax, hmem⟩ := ih (max a x)
    refine ⟨List.forall_mem_cons.2 ⟨(le_max_right a x).trans hmax, hall⟩, (le_max_left a x).trans hmax, ?_⟩
    rw [List.foldl_cons, List.mem_cons]
    obtain h | h := hmem
    · rw [h]
      omega
    · exact .inr (.inr h)

/-- The class the unit forms is the highest among the extra wants above 0 (R5). -/
theorem highestClass_spec (cs : List Channel) : highestExtra cs (highestClass cs) := by
  obtain ⟨hall, _, hmem⟩ := foldl_max_spec
    ((cs.filter fun c : Channel => decide (c.want.kind = .extra) && decide (0 < c.presented)).map fun c => c.want.cls) 0
  simp only [List.mem_map, List.mem_filter, Bool.and_eq_true, decide_eq_true_eq] at hall hmem
  refine ⟨fun c hc hk hp => hall _ ⟨c, ⟨hc, hk, hp⟩, rfl⟩, hmem.imp_right ?_⟩
  rintro ⟨c, ⟨hc, hk, hp⟩, heq⟩
  exact ⟨c, hc, hk, hp, heq⟩

theorem platesShortHeld_iff {b : Block} :
    platesShortHeld b = true ↔ ∃ i e, pageAt i b = some e ∧ e.cause.kind = .platesShort := by
  simp only [platesShortHeld, List.any_eq_true, Option.any_eq_true, decide_eq_true_eq]
  constructor
  · rintro ⟨_, hmem, e, rfl, hk⟩
    obtain ⟨i, hi⟩ := some_mem_table.1 hmem
    exact ⟨i, e, hi, hk⟩
  · rintro ⟨i, e, hi, hk⟩
    exact ⟨some e, some_mem_table.2 ⟨i, hi⟩, e, rfl, hk⟩

section
variable {news : Cause → Prop} {lost : Nat → Prop} {gone : PageEntry → Prop} {b b' : Block}

/-- A page goes on standing while it is RAISED or its owner is not lost (R154, R158). -/
theorem PageActs.pageStands (h : PageActs news lost gone b b') {i : Nat} {e : PageEntry} (he : pageAt i b = some e)
    (hg : ∀ x, gone x → x.cause = e.cause → x.state = .acked ∧ lost x.owner) (hstand : e.state = .raised ∨ ¬lost e.owner) :
    ∃ x, pageAt i b' = some x ∧ x.cause = e.cause := by
  have hkept : ∃ x, pageAt i b' = some x ∧ x.cause = e.cause ∧ (x.state = .raised ∨ ¬lost x.owner) := by
    refine h.keeps (P := fun b => ∃ x, pageAt i b = some x ∧ x.cause = e.cause ∧ (x.state = .raised ∨ ¬lost x.owner))
      (fun _ hact ⟨x, hx, hc, hs⟩ => ?_) ⟨e, he, rfl, hstand⟩
    obtain ⟨x', hx', hstays⟩ | ⟨hgone, _⟩ := hact.goes_to hx
    · refine ⟨x', hx', hstays.cause.trans hc, ?_⟩
      obtain ho | ⟨hl, _⟩ := hstays.owner
      · rwa [hstays.state, ho]
      · exact .inl (hstays.state.trans (hs.resolve_right (not_not.2 hl)))
    · obtain ⟨hacked, hl⟩ := hg x hgone hc
      rw [hacked] at hs
      exact absurd hl (hs.resolve_left (by simp))
  obtain ⟨x, hx, hc, _⟩ := hkept
  exact ⟨x, hx, hc⟩

/-- No page of a kind comes in while none is raised, and none waits where a slot may be freed (R153). -/
theorem PageActs.noneOfKind (h : PageActs news lost gone b b') {k : CauseKind} (hn : ∀ c, news c → c.kind ≠ k)
    (hnone : ∀ i e, pageAt i b = some e → e.cause.kind ≠ k) (hw : (∃ x, gone x) → ∀ c ∈ waits b, c.kind ≠ k) :
    ∀ i e, pageAt i b' = some e → e.cause.kind ≠ k := by
  refine (h.keeps (P := fun b => (∀ i e, pageAt i b = some e → e.cause.kind ≠ k) ∧
    ((∃ x, gone x) → ∀ c ∈ waits b, c.kind ≠ k)) (fun _ hact ⟨hnone, hw⟩ => ⟨fun i e he => ?_, fun hg c hc => ?_⟩)
    ⟨hnone, hw⟩).1
  · obtain ⟨x, hx, hstays⟩ | ⟨_, _, hnew | ⟨hg, hwait⟩⟩ := hact.comes_from he
    · rw [hstays.cause]
      exact hnone i x hx
    · exact hn _ hnew
    · exact hw hg _ hwait
  · exact (hact.waits_from hc).elim (hw hg c) (hn c)

end

/-- PLATES_SHORT pages the round finds and the table it leaves for the own class (R5, R28, R158). -/
theorem platesShortHeld_beforeShare {b : Block} {i : Nat} {e : PageEntry} (he : pageAt i b = some e)
    (hk : e.cause.kind = .platesShort) (hstand : e.state = .raised ∨ ∀ p ∈ b.peers, 7 ≤ p.age → p.id ≠ e.owner) :
    platesShortHeld (beforeShare b) = true := by
  have hgone : ∀ x, agingGone (· ∈ lostIds b) x → x.cause = e.cause → x.state = .acked ∧ x.owner ∈ lostIds b := by
    rintro x (⟨_, _, hc'⟩ | hx) hc
    · rw [← hc, hc'] at hk
      cases hk
    · exact hx
  have howner : e.state = .raised ∨ e.owner ∉ lostIds b := hstand.imp_right fun h hl => by
    obtain ⟨p, hp, hage, hid⟩ := mem_lostIds.1 hl
    exact h p hp hage hid
  obtain ⟨x, hx, hc⟩ := (beforeShare_acts b).pageStands he hgone howner
  exact platesShortHeld_iff.2 ⟨i, x, hx, hc ▸ hk⟩

theorem not_platesShortHeld_beforeShare {b : Block} (hnone : ∀ i e, pageAt i b = some e → e.cause.kind ≠ .platesShort)
    (hw : (∀ p ∈ b.peers, p.age < 7) ∨ ∀ w ∈ b.pages.retry, w.cause.kind ≠ .platesShort) :
    platesShortHeld (beforeShare b) = false := by
  rw [← Bool.not_eq_true, platesShortHeld_iff]
  rintro ⟨i, e, he, hk⟩
  refine (beforeShare_acts b).noneOfKind (k := .platesShort) (fun c hc => ?_) hnone (fun ⟨x, hx⟩ c hc => ?_) i e he hk
  · obtain ⟨_, _, rfl⟩ | hc := hc
    · simp
    · simp [hc]
  · obtain hold | hwait := hw
    · have hlost : ∃ id, id ∈ lostIds b := by
        obtain ⟨id, hid, _⟩ | ⟨_, hid⟩ := hx
        · exact ⟨id, hid⟩
        · exact ⟨_, hid⟩
      obtain ⟨id, hid⟩ := hlost
      obtain ⟨p, hp, hage, _⟩ := mem_lostIds.1 hid
      have := hold p hp
      omega
    · obtain ⟨w, hmem, rfl⟩ := List.mem_map.1 hc
      exact hwait w hmem

/-! ## The share record a round leaves -/

/-- What the unit forms of its own inputs (R5). -/
theorem formInputs_share (b : Block) : (formInputs b).share =
    { b.share with
      floorSelf := presentedOf .floor b.drive.channels,
      wantSelf := min (presentedOf .floor b.drive.channels + presentedOf .extra b.drive.channels) b.cfg.ratedLoad,
      classSelf := if b.cfg.kind = .dish ∧ platesShortHeld b = true then max (highestClass b.drive.channels) 2
        else highestClass b.drive.channels } := rfl

/-- The round's record is stage 2's, with the grant of stage 3 (R10 to R16). -/
theorem round_share (b : Block) : (endRound (beforeShare b)).share =
    { (beforeGrant b).share with
      applied := newGrant (beforeGrant b), rising := decide (newGrant (beforeGrant b) < target (beforeGrant b)),
      cleanRun := (endRound (beforeShare b)).share.cleanRun } := by
  rw [endRound_share]
  exact shareRound_share (beforeShare b)

theorem round_station (b : Block) : (endRound (beforeShare b)).station = (beforeGrant b).station := by
  rw [endRound_station, beforeGrant, divideFeeder_station, formInputs_station]

theorem round_peers (b : Block) : (endRound (beforeShare b)).peers = (beforeGrant b).peers := by
  rw [endRound_peers, beforeGrant, divideFeeder_peers, formInputs_peers]

theorem beforeGrant_cfg (b : Block) : (beforeGrant b).cfg = b.cfg := by
  rw [Block.cfg, beforeGrant, divideFeeder_station, formInputs_station, ← Block.cfg, beforeShare_cfg]

theorem round_cfg (b : Block) : (endRound (beforeShare b)).cfg = b.cfg := by
  rw [Block.cfg, round_station, ← Block.cfg, beforeGrant_cfg]

/-- The claimants are read off station, peers and own inputs (R11). -/
theorem roundClaimants_congr {b b' : Block} (hs : b'.station = b.station) (hp : b'.peers = b.peers)
    (hf : b'.share.floorSelf = b.share.floorSelf) (hw : b'.share.wantSelf = b.share.wantSelf)
    (hc : b'.share.classSelf = b.share.classSelf) :
    selfClaimant b' = selfClaimant b ∧ roundClaimants b' = roundClaimants b := by
  have hself : selfClaimant b' = selfClaimant b := by
    unfold selfClaimant Block.id
    rw [hs, hf, hw, hc]
  exact ⟨hself, by rw [roundClaimants, roundClaimants, hself, hs, hp]⟩

/-- The station enters ISOLATED at a round with its grant cut, and keeps it otherwise (R17, R40, R41). -/
theorem controlRound_applied (b : Block) : (controlRound b).share.applied =
    if (controlRound b).station.state = .isolated ∧ b.station.state ≠ .isolated then min b.share.applied b.cfg.safeAllowance
    else b.share.applied := by
  unfold controlRound
  dsimp only
  repeat' split
  all_goals simp_all [enterActive, enterIsolated, cutGrant, Block.cfg]

theorem beforeGrant_applied (b : Block) :
    (beforeGrant b).share.applied = grantBefore b (endRound (beforeShare b)) := by
  have hshare : (beforeGrant b).share.applied = (controlRound (agePeers b)).share.applied := by
    rw [beforeGrant, divideFeeder_share, formInputs_share, beforeShare_share]
  have hstate : (endRound (beforeShare b)).station.state = (controlRound (agePeers b)).station.state := by
    rw [endRound_station]
    simp [beforeShare]
  rw [hshare, controlRound_applied, grantBefore, hstate, agePeers_station, agePeers_share, Block.cfg, agePeers_station,
    Block.cfg]

theorem targetAfter_round (b : Block) : targetAfter (endRound (beforeShare b)) = target (beforeGrant b) := by
  rw [targetAfter, round_cfg, round_share, round_station, target, beforeGrant_cfg]

theorem headroomAfter_round (b : Block) : headroomAfter b (endRound (beforeShare b)) = headroom (beforeGrant b) := by
  rw [headroomAfter, ← beforeGrant_applied, round_peers, round_share, headroom]
  rfl

theorem increaseAfter_round (b : Block) : increaseAfter b (endRound (beforeShare b)) = increase (beforeGrant b) := by
  have hcount : (((endRound (beforeShare b)).peers.filter fun p => countedIn (endRound (beforeShare b)) p && p.rising).length) + 1 =
      risingCount (beforeGrant b) := by
    rw [round_peers, risingCount, Nat.add_comm]
    unfold countedIn
    rw [round_station]
    rfl
  rw [increaseAfter, headroomAfter_round, targetAfter_round, ← beforeGrant_applied, Nat.add_comm 1, hcount, increase, beforeGrant_cfg]
  split
  · rename_i h
    simp [Int.toNat_of_nonpos h]
  · rfl

/-- The own figures the round leaves (R5). -/
theorem round_figures (b : Block) :
    (endRound (beforeShare b)).share.floorSelf = presentedOf .floor b.drive.channels ∧
    (endRound (beforeShare b)).share.wantSelf =
      min (presentedOf .floor b.drive.channels + presentedOf .extra b.drive.channels) b.cfg.ratedLoad ∧
    (endRound (beforeShare b)).share.classSelf =
      if b.cfg.kind = .dish ∧ platesShortHeld (beforeShare b) = true then max (highestClass b.drive.channels) 2
      else highestClass b.drive.channels := by
  rw [round_share, beforeGrant, divideFeeder_share, formInputs_share, beforeShare_drive, beforeShare_cfg]
  exact ⟨rfl, rfl, rfl⟩

/-- The division of the round, in the figures it leaves (R12). -/
theorem round_division (b : Block) :
    (endRound (beforeShare b)).share.share = shareOf (endRound (beforeShare b)).share.available
      (roundClaimants (endRound (beforeShare b))) (selfClaimant (endRound (beforeShare b))) ∧
    (endRound (beforeShare b)).share.overcommitted =
      overcommits (endRound (beforeShare b)).share.available (roundClaimants (endRound (beforeShare b))) := by
  have hformed : (endRound (beforeShare b)).share.floorSelf = (formInputs (beforeShare b)).share.floorSelf ∧
      (endRound (beforeShare b)).share.wantSelf = (formInputs (beforeShare b)).share.wantSelf ∧
      (endRound (beforeShare b)).share.classSelf = (formInputs (beforeShare b)).share.classSelf := by
    rw [round_share, beforeGrant, divideFeeder_share]
    simp only [and_self]
  obtain ⟨hfloor, hwant, hclass⟩ := hformed
  obtain ⟨hself, hclaimants⟩ := roundClaimants_congr (b := formInputs (beforeShare b)) (b' := endRound (beforeShare b))
    (by rw [endRound_station, formInputs_station]) (by rw [endRound_peers, formInputs_peers])
    hfloor hwant hclass
  rw [hself, hclaimants, round_share, beforeGrant, divideFeeder_share]
  simp only [and_self]

/-- Settles O6: own figures, division and grant by their stages, the class by the pages the round finds. -/
theorem roundHoldsGrantToTarget : Obligations.RoundHoldsGrantToTarget := by
  intro s hr ha
  obtain ⟨hfloor, hwant, hclass⟩ := round_figures s.block
  obtain ⟨hdivision, hover⟩ := round_division s.block
  have hcounters := round_counters s.block
  simp only [Counters.ofRounds, Prod.mk.injEq] at hcounters
  obtain ⟨hcurtailed, _, hheld⟩ := hcounters
  have happlied : (endRound (beforeShare s.block)).share.applied = newGrant (beforeGrant s.block) := by rw [round_share]
  have hasked : (endRound (beforeShare s.block)).share.wantSelf = (beforeGrant s.block).share.wantSelf := by rw [round_share]
  have hbefore := beforeGrant_applied s.block
  have htarget := targetAfter_round s.block
  have hincrease := increaseAfter_round s.block
  have hle : grantBefore s.block (endRound (beforeShare s.block)) ≤ s.block.share.applied := by
    unfold grantBefore
    split
    · exact Nat.min_le_left _ _
    · exact le_rfl
  refine completes_round hr ha ⟨hfloor, ?_, ⟨highestClass s.block.drive.channels, highestClass_spec _, fun hk => ?_,
    fun hk => ⟨fun i e he hkind hstand => ?_, fun hnone hw => ?_⟩⟩, hdivision, hover, ?_, ?_, ?_, ?_, ?_, ?_,
    round_cfg _, round_frame _⟩
  · rw [hwant, hfloor]
    rfl
  · rw [hclass, if_neg fun h => hk h.1]
  · rw [hclass, if_pos ⟨hk, platesShortHeld_beforeShare he hkind hstand⟩]
  · rw [hclass, if_neg (by simp [not_platesShortHeld_beforeShare hnone hw])]
  · rw [happlied, htarget, hincrease, ← hbefore, newGrant]
  · rw [happlied, htarget]
    exact newGrant_le_target _
  · have hramp := newGrant_le_ramp (beforeGrant s.block)
    rw [beforeGrant_cfg] at hramp
    omega
  · rw [htarget, round_share]
  · rw [hcurtailed, happlied, hasked]
  · rw [hheld, htarget, hincrease, hbefore]

end Sys2Proof.Machine
end

section
/-! PROOFS. Two statements about pages that a part with two entries of one cause refutes (R146, R158). -/

namespace Sys2Proof.Machine

/-- What a command that completes establishes holds of the part after its act. -/
theorem of_completes {c : Instr} {s : State} {P : Block → Prop} {f : Block → Block} (h : completes c s P)
    (hf : exec c s = onBlock f s) : P (f s.block) := by
  obtain ⟨t, ht, _, hp⟩ := h
  cases hf.symm.trans ht
  exact hp

/-! ## Two entries of one cause (R158) -/

/-- A peer whose entry the next round removes (R27). -/
def leavingPeer (id : Nat) : Peer :=
  { id, kind := .oven, signature := 0, state := .active, floor := 0, want := 0, cls := 0, applied := 0, rising := false,
    draw := 0, rated := 0, lastSequence := 0, missed := 0, age := 7, dish := none, base := none }

/-- An ACKED page of station 1 about the loss of station 2, of generation `g`. -/
def lossPage (g : Nat) : PageEntry :=
  { cause := { kind := .stationLost, subject := 2 }, generation := g, owner := 1, level := 1, state := .acked, priority := 2,
    merges := 1, raisedAt := 0, deadline := none, oneShot := false, adopted := false, clearDue := false }

/-- An ACTIVE station 0 that loses stations 1 and 2 at the next round, and holds two pages of one cause. -/
def twicePaged : State :=
  { block :=
      { station := { state := .active, announceTimer := some 1000, initStep := .finished },
        peers := [leavingPeer 1, leavingPeer 2],
        pages := { table := [some (lossPage 5), some (lossPage 4)] ++ List.replicate 14 none } },
    pending := [] }

/-- The page that the loss of station 2 makes anew at slot 0: both pages of the cause were cleared first, the one of
generation 4 last, so that 5 comes again (R149, R152). -/
def lossPagedAnew : PageEntry :=
  { cause := { kind := .stationLost, subject := 2 }, generation := 5, owner := 0, level := 1, state := .raised, priority := 2,
    merges := 1, raisedAt := 0, deadline := some 0, oneShot := false, adopted := false, clearDue := false }

theorem twicePaged_round : pageAt 0 (runRound twicePaged.block) = some lossPagedAnew := by decide

/-- Refutes O9: nothing in the statement bars two entries of one cause. The adopter clears both, and the same round's loss
of station 2 raises the cause again, in the slot and with the generation of the first. -/
theorem not_orphanedPagesAreAdopted : ¬ Obligations.OrphanedPagesAreAdopted := by
  intro h
  obtain ⟨hadopted, _⟩ := of_completes (h.1 twicePaged (leavingPeer 1) 0 (lossPage 5) rfl rfl (by decide) (by decide)
    (by decide) rfl (by decide) rfl (by decide) (by decide) rfl) (f := runRound) rfl
  obtain ⟨_, hclear⟩ := hadopted (by decide) (by decide)
  obtain ⟨_, _, hanew⟩ | ⟨_, x, hx, _, hdue⟩ := hclear rfl
  · exact hanew _ twicePaged_round rfl rfl
  · rw [show x = lossPagedAnew from Option.some.inj (hx.symm.trans twicePaged_round)] at hdue
    cases hdue

/-! ## Two entries of one hold (R146) -/

/-- A clear-due page of station 0 about a jam, of generation `g`. -/
def jamPage (g : Nat) : PageEntry :=
  { cause := { kind := .rackHold, subject := 4 }, generation := g, owner := 0, level := 0, state := .raised, priority := 2,
    merges := 1, raisedAt := 0, deadline := none, oneShot := false, adopted := false, clearDue := true, offeredAt := 1 }

/-- An ACTIVE DISH station whose timed hold is about to become a jam, with code 4 recorded and two pages of it clear due. -/
def twiceHeld : State :=
  { block :=
      { station := { state := .active, image := some { kind := .dish }, initStep := .finished },
        conveyor := { state := .powerHold, jammed := true, holdPage := some 4 },
        pages := { table := [some (jamPage 5), some (jamPage 4)] ++ List.replicate 14 none } },
    pending := [] }

/-- Eight inputs at 20 °C. -/
def roomReadings : List SensorInput := List.replicate 8 (.tenths 200)

/-- The page of the jam that the second raises anew at slot 0: the two CLEARs due were sent first, that of generation 4
last, so that 5 comes again (R149, R152). -/
def jamPagedAnew : PageEntry :=
  { cause := { kind := .rackHold, subject := 4 }, generation := 5, owner := 0, level := 0, state := .raised, priority := 2,
    merges := 1, raisedAt := 1, deadline := some 1, oneShot := false, adopted := false, clearDue := false }

theorem twiceHeld_second : pageAt 0 (runSecond roomReadings twiceHeld.block) = some jamPagedAnew := by decide +kernel

/-- Refutes O21: nothing in the statement bars two entries of one cause. Both CLEARs due are sent as the second begins, and
its change from the timed hold to JAMMED raises code 4 again, in the slot and with the generation of the first. -/
theorem not_conveyorIsJudged : ¬ Obligations.ConveyorIsJudged := by
  intro h
  have hsecond := of_completes (h.1 twiceHeld roomReadings rfl rfl rfl (by decide)) (f := runSecond roomReadings) rfl
  obtain ⟨_, _, _, _, _, _, _, _, _, hresolve, _⟩ := hsecond
  have hstate : (runSecond roomReadings twiceHeld.block).conveyor.state = .jammed := by decide +kernel
  have hclear := hresolve 4 4 rfl rfl (by rw [hstate]; decide) (.inl (by rw [hstate]; rfl)) 0
    (jamPage 5) rfl rfl rfl rfl rfl
  obtain ⟨_, _, hanew⟩ | ⟨_, x, hx, _, hdue⟩ := hclear
  · exact hanew _ twiceHeld_second rfl rfl
  · rw [show x = jamPagedAnew from Option.some.inj (hx.symm.trans twiceHeld_second)] at hdue
    cases hdue

end Sys2Proof.Machine
end

section
/-! PROOFS. Peer Table, round parity, store and all of the drive but its wants stand under every operation that is not a
round, a start, a frame, a window or a tick. -/

namespace Sys2Proof.Machine

/-! ## The drive without its wants -/

/-- A channel but for its want record. -/
def Channel.unwanted (c : Channel) : Channel := { c with want := {} }

/-- The drive but for the want records of its channels. -/
def noWants (d : Drive) : Drive := { d with channels := d.channels.map Channel.unwanted }

theorem unwanted_map {g : Channel → Channel} (h : ∀ c, (g c).unwanted = c.unwanted) (cs : List Channel) :
    (cs.map g).map Channel.unwanted = cs.map Channel.unwanted := by
  rw [List.map_map]
  exact List.map_congr_left fun c _ => h c

/-- A want written into one channel. -/
theorem noWants_set (d : Drive) (i : Nat) {c : Channel} (h : c.unwanted = (d.channels.getD i {}).unwanted) :
    noWants { d with channels := d.channels.set i c } = noWants d := by
  have hchannels : (d.channels.set i c).map Channel.unwanted = d.channels.map Channel.unwanted := by
    rw [List.map_set, h]
    refine List.ext_getElem (by simp) fun j _ hj => ?_
    rw [List.length_map] at hj
    rw [List.getElem_set, List.getElem_map]
    split
    · rename_i hij
      subst hij
      exact congrArg Channel.unwanted (List.getD_eq_getElem _ _ hj)
    · rfl
  exact congrArg (fun cs => { d with channels := cs }) hchannels

@[simp] theorem setDishWants_noWants (b : Block) : noWants (setDishWants b).drive = noWants b.drive := by
  have h := unwanted_map (g := fun c => if c.fitted ∧ c.role ≠ .heat then { c with want := dishWant b c } else c)
    (fun c => by split <;> rfl) b.drive.channels
  simp [setDishWants, noWants, h]

@[simp] theorem deriveConveyor_noWants (b : Block) : noWants (deriveConveyor b).drive = noWants b.drive := by
  unfold deriveConveyor
  dsimp only
  split <;> simp

/-! ## Pages -/

@[simp] theorem learn_stands (c : Cause) (g : Nat) (x : Bool) (b : Block) :
    (learn c g x b).peers = b.peers ∧ (learn c g x b).coord = b.coord ∧ (learn c g x b).store = b.store ∧
      noWants (learn c g x b).drive = noWants b.drive := by
  simp [learn]

@[simp] theorem copyAt_stands (i : Nat) (f : RaiseBody) (b : Block) :
    (copyAt i f b).peers = b.peers ∧ (copyAt i f b).coord = b.coord ∧ (copyAt i f b).store = b.store ∧
      noWants (copyAt i f b).drive = noWants b.drive := by
  simp [copyAt]

@[simp] theorem mergeRaise_stands (i : Nat) (e : PageEntry) (f : RaiseBody) (b : Block) :
    (mergeRaise i e f b).peers = b.peers ∧ (mergeRaise i e f b).coord = b.coord ∧ (mergeRaise i e f b).store = b.store ∧
      noWants (mergeRaise i e f b).drive = noWants b.drive := by
  unfold mergeRaise
  dsimp only
  repeat' split
  all_goals simp

@[simp] theorem raiseAbsent_stands (f : RaiseBody) (m : MemRecord) (b : Block) :
    (raiseAbsent f m b).peers = b.peers ∧ (raiseAbsent f m b).coord = b.coord ∧ (raiseAbsent f m b).store = b.store ∧
      noWants (raiseAbsent f m b).drive = noWants b.drive := by
  unfold raiseAbsent
  repeat' split
  all_goals simp

@[simp] theorem heardRaise_stands (f : RaiseBody) (b : Block) :
    (heardRaise f b).peers = b.peers ∧ (heardRaise f b).coord = b.coord ∧ (heardRaise f b).store = b.store ∧
      noWants (heardRaise f b).drive = noWants b.drive := by
  unfold heardRaise
  dsimp only
  repeat' split
  all_goals simp

@[simp] theorem ackEntry_stands (i : Nat) (e : PageEntry) (b : Block) :
    (ackEntry i e b).peers = b.peers ∧ (ackEntry i e b).coord = b.coord ∧ (ackEntry i e b).store = b.store ∧
      noWants (ackEntry i e b).drive = noWants b.drive := by
  simp [ackEntry]

@[simp] theorem clearIfOneShot_stands (c : Cause) (b : Block) :
    (clearIfOneShot c b).peers = b.peers ∧ (clearIfOneShot c b).coord = b.coord ∧ (clearIfOneShot c b).store = b.store ∧
      noWants (clearIfOneShot c b).drive = noWants b.drive := by
  unfold clearIfOneShot
  repeat' split
  all_goals simp

@[simp] theorem heardAck_stands (c : Cause) (g : Nat) (b : Block) :
    (heardAck c g b).peers = b.peers ∧ (heardAck c g b).coord = b.coord ∧ (heardAck c g b).store = b.store ∧
      noWants (heardAck c g b).drive = noWants b.drive := by
  unfold heardAck
  dsimp only
  repeat' split
  all_goals simp

@[simp] theorem heardClear_stands (c : Cause) (g : Nat) (b : Block) :
    (heardClear c g b).peers = b.peers ∧ (heardClear c g b).coord = b.coord ∧ (heardClear c g b).store = b.store ∧
      noWants (heardClear c g b).drive = noWants b.drive := by
  unfold heardClear
  dsimp only
  repeat' split
  all_goals simp

@[simp] theorem radioAck_stands (c : Option Cause) (g : Nat) (b : Block) :
    (radioAck c g b).peers = b.peers ∧ (radioAck c g b).coord = b.coord ∧ (radioAck c g b).store = b.store ∧
      noWants (radioAck c g b).drive = noWants b.drive := by
  unfold radioAck
  repeat' split
  all_goals simp

@[simp] theorem expireAck_stands (i : Nat) (b : Block) :
    (expireAck i b).peers = b.peers ∧ (expireAck i b).coord = b.coord ∧ (expireAck i b).store = b.store ∧
      noWants (expireAck i b).drive = noWants b.drive := by
  unfold expireAck
  repeat' split
  all_goals simp

@[simp] theorem retryClear_stands (i : Nat) (b : Block) :
    (retryClear i b).peers = b.peers ∧ (retryClear i b).coord = b.coord ∧ (retryClear i b).store = b.store ∧
      noWants (retryClear i b).drive = noWants b.drive := by
  unfold retryClear
  repeat' split
  all_goals simp

@[simp] theorem withdraw_stands (r : Received) (b : Block) :
    (withdraw r b).peers = b.peers ∧ (withdraw r b).coord = b.coord ∧ (withdraw r b).store = b.store ∧
      noWants (withdraw r b).drive = noWants b.drive := ⟨rfl, rfl, rfl, rfl⟩

/-! ## Courses -/

@[simp] theorem courseSecond_stands (i : Nat) (b : Block) :
    (courseSecond i b).peers = b.peers ∧ (courseSecond i b).coord = b.coord ∧ (courseSecond i b).store = b.store ∧
      noWants (courseSecond i b).drive = noWants b.drive := by
  unfold courseSecond
  dsimp only
  repeat' split
  all_goals simp

@[simp] theorem coursesSecond_stands (b : Block) :
    (coursesSecond b).peers = b.peers ∧ (coursesSecond b).coord = b.coord ∧ (coursesSecond b).store = b.store ∧
      noWants (coursesSecond b).drive = noWants b.drive := by
  unfold coursesSecond
  exact ⟨foldl_keeps Block.peers _ _ fun b _ => by simp, foldl_keeps Block.coord _ _ fun b _ => by simp,
    foldl_keeps Block.store _ _ fun b _ => by simp, foldl_keeps (fun b => noWants b.drive) _ _ fun b _ => by simp⟩

@[simp] theorem takeCourseItem_stands (s : Nat) (x : CourseItem) (b : Block) :
    (takeCourseItem s b x).peers = b.peers ∧ (takeCourseItem s b x).coord = b.coord ∧ (takeCourseItem s b x).store = b.store ∧
      noWants (takeCourseItem s b x).drive = noWants b.drive := by
  unfold takeCourseItem
  repeat' split
  all_goals simp

@[simp] theorem heardShift_stands (x : ShiftBody) (b : Block) :
    (heardShift x b).peers = b.peers ∧ (heardShift x b).coord = b.coord ∧ (heardShift x b).store = b.store ∧
      noWants (heardShift x b).drive = noWants b.drive := by
  unfold heardShift
  repeat' split
  all_goals simp

@[simp] theorem shiftCourse_stands (i : Nat) (c : Course) (o : Nat) (h : Bool) (b : Block) :
    (shiftCourse i c o h b).peers = b.peers ∧ (shiftCourse i c o h b).coord = b.coord ∧ (shiftCourse i c o h b).store = b.store ∧
      noWants (shiftCourse i c o h b).drive = noWants b.drive := by
  simp [shiftCourse]

/-! ## Conveyor -/

@[simp] theorem settleEmpty_stands (b : Block) :
    (settleEmpty b).peers = b.peers ∧ (settleEmpty b).coord = b.coord ∧ (settleEmpty b).store = b.store ∧
      noWants (settleEmpty b).drive = noWants b.drive := by
  unfold settleEmpty
  repeat' split
  all_goals simp

@[simp] theorem countHold_stands (b : Block) :
    (countHold b).peers = b.peers ∧ (countHold b).coord = b.coord ∧ (countHold b).store = b.store ∧
      noWants (countHold b).drive = noWants b.drive := by
  unfold countHold
  split
  all_goals simp

@[simp] theorem timeoutHold_stands (b : Block) :
    (timeoutHold b).peers = b.peers ∧ (timeoutHold b).coord = b.coord ∧ (timeoutHold b).store = b.store ∧
      noWants (timeoutHold b).drive = noWants b.drive := by
  unfold timeoutHold
  repeat' split
  all_goals simp

@[simp] theorem countAdvance_stands (b : Block) :
    (countAdvance b).peers = b.peers ∧ (countAdvance b).coord = b.coord ∧ (countAdvance b).store = b.store ∧
      noWants (countAdvance b).drive = noWants b.drive := ⟨rfl, rfl, rfl, rfl⟩

@[simp] theorem timeoutAdvance_stands (b : Block) :
    (timeoutAdvance b).peers = b.peers ∧ (timeoutAdvance b).coord = b.coord ∧ (timeoutAdvance b).store = b.store ∧
      noWants (timeoutAdvance b).drive = noWants b.drive := by
  unfold timeoutAdvance
  repeat' split
  all_goals simp

@[simp] theorem rinseHealthChanged_stands (r : Role) (b : Block) :
    (rinseHealthChanged r b).peers = b.peers ∧ (rinseHealthChanged r b).coord = b.coord ∧ (rinseHealthChanged r b).store = b.store ∧
      noWants (rinseHealthChanged r b).drive = noWants b.drive := by
  unfold rinseHealthChanged
  repeat' split
  all_goals simp

@[simp] theorem conveyorSecond_stands (b : Block) :
    (conveyorSecond b).peers = b.peers ∧ (conveyorSecond b).coord = b.coord ∧ (conveyorSecond b).store = b.store ∧
      noWants (conveyorSecond b).drive = noWants b.drive := by
  unfold conveyorSecond
  repeat' split
  all_goals simp

@[simp] theorem endJam_stands (b : Block) :
    (endJam b).peers = b.peers ∧ (endJam b).coord = b.coord ∧ (endJam b).store = b.store ∧
      noWants (endJam b).drive = noWants b.drive := by
  unfold endJam
  repeat' split
  all_goals simp

@[simp] theorem pulse_stands (b : Block) :
    (pulse b).peers = b.peers ∧ (pulse b).coord = b.coord ∧ (pulse b).store = b.store ∧
      noWants (pulse b).drive = noWants b.drive := by
  simp [pulse]

@[simp] theorem tenth_stands (b : Block) :
    (tenth b).peers = b.peers ∧ (tenth b).coord = b.coord ∧ (tenth b).store = b.store ∧
      noWants (tenth b).drive = noWants b.drive := by
  unfold tenth
  repeat' split
  all_goals simp

@[simp] theorem appendRack_stands (l : LoadKind) (p : Nat) (b : Block) :
    (appendRack l p b).peers = b.peers ∧ (appendRack l p b).coord = b.coord ∧ (appendRack l p b).store = b.store ∧
      noWants (appendRack l p b).drive = noWants b.drive := by
  simp [appendRack]

@[simp] theorem rackEnters_stands (b : Block) :
    (rackEnters b).peers = b.peers ∧ (rackEnters b).coord = b.coord ∧ (rackEnters b).store = b.store ∧
      noWants (rackEnters b).drive = noWants b.drive := by
  unfold rackEnters
  repeat' split
  all_goals simp

@[simp] theorem rackLeaves_stands (b : Block) :
    (rackLeaves b).peers = b.peers ∧ (rackLeaves b).coord = b.coord ∧ (rackLeaves b).store = b.store ∧
      noWants (rackLeaves b).drive = noWants b.drive := by
  unfold rackLeaves
  repeat' split
  all_goals simp

@[simp] theorem dropUntracked_stands (b : Block) :
    (dropUntracked b).peers = b.peers ∧ (dropUntracked b).coord = b.coord ∧ (dropUntracked b).store = b.store ∧
      noWants (dropUntracked b).drive = noWants b.drive := by
  unfold dropUntracked
  dsimp only
  repeat' split
  all_goals simp

@[simp] theorem removeHead_stands (r : Rack) (rs : List Rack) (b : Block) :
    (removeHead r rs b).peers = b.peers ∧ (removeHead r rs b).coord = b.coord ∧ (removeHead r rs b).store = b.store ∧
      noWants (removeHead r rs b).drive = noWants b.drive := by
  unfold removeHead
  dsimp only
  repeat' split
  all_goals simp

/-! ## Plan -/

@[simp] theorem setTask_stands (t : Nat) (k : Option Task) (b : Block) :
    (setTask t k b).peers = b.peers ∧ (setTask t k b).coord = b.coord ∧ (setTask t k b).store = b.store ∧
      noWants (setTask t k b).drive = noWants b.drive := ⟨rfl, rfl, rfl, rfl⟩

@[simp] theorem releaseWants_stands (m : Mask8) (b : Block) :
    (releaseWants m b).peers = b.peers ∧ (releaseWants m b).coord = b.coord ∧ (releaseWants m b).store = b.store ∧
      noWants (releaseWants m b).drive = noWants b.drive := by
  unfold releaseWants
  exact ⟨foldl_keeps Block.peers _ _ fun b _ => by simp, foldl_keeps Block.coord _ _ fun b _ => by simp,
    foldl_keeps Block.store _ _ fun b _ => by simp, foldl_keeps (fun b => noWants b.drive) _ _ fun b i =>
      noWants_set b.drive i (c := { b.drive.channels.getD i {} with want := {} }) rfl⟩

@[simp] theorem taskEvent_stands (t : Nat) (x : TaskState) (b : Block) :
    (taskEvent t x b).peers = b.peers ∧ (taskEvent t x b).coord = b.coord ∧ (taskEvent t x b).store = b.store ∧
      noWants (taskEvent t x b).drive = noWants b.drive := by
  unfold taskEvent
  repeat' split
  all_goals simp

@[simp] theorem testPlates_stands (c : Nat) (b : Block) :
    (testPlates c b).peers = b.peers ∧ (testPlates c b).coord = b.coord ∧ (testPlates c b).store = b.store ∧
      noWants (testPlates c b).drive = noWants b.drive := by
  unfold testPlates
  repeat' split
  all_goals simp

@[simp] theorem setProfile_stands (i : Nat) (p : Profile) (b : Block) :
    (setProfile i p b).peers = b.peers ∧ (setProfile i p b).coord = b.coord ∧ (setProfile i p b).store = b.store ∧
      noWants (setProfile i p b).drive = noWants b.drive := ⟨rfl, rfl, rfl, rfl⟩

@[simp] theorem passTask_stands (c t : Nat) (b : Block) :
    (passTask c t b).peers = b.peers ∧ (passTask c t b).coord = b.coord ∧ (passTask c t b).store = b.store ∧
      noWants (passTask c t b).drive = noWants b.drive := by
  unfold passTask
  repeat' split
  all_goals simp

@[simp] theorem applyEdit_stands (t : Nat) (b : Block) :
    (applyEdit t b).peers = b.peers ∧ (applyEdit t b).coord = b.coord ∧ (applyEdit t b).store = b.store ∧
      noWants (applyEdit t b).drive = noWants b.drive := by
  unfold applyEdit
  dsimp only
  repeat' split
  all_goals simp

@[simp] theorem planClear_stands (b : Block) :
    (planClear b).peers = b.peers ∧ (planClear b).coord = b.coord ∧ (planClear b).store = b.store ∧
      noWants (planClear b).drive = noWants b.drive := by
  have hwants := unwanted_map (g := fun c => if c.role = .heat then { c with want := {} } else c)
    (fun c => by split <;> rfl) b.drive.channels
  unfold planClear
  dsimp only
  simp only [markCourse_peers, markCourse_coord, markCourse_store, markCourse_drive]
  rw [foldl_keeps Block.peers _ _ fun b _ => by simp, foldl_keeps Block.coord _ _ fun b _ => by simp,
    foldl_keeps Block.store _ _ fun b _ => by simp, foldl_keeps Block.drive _ _ fun b _ => by simp]
  exact ⟨rfl, rfl, rfl, by simp [noWants, hwants]⟩

/-! ## Engine -/

@[simp] theorem presentWants_stands (v : TaskView) (k : Task) (b : Block) :
    (presentWants v k b).peers = b.peers ∧ (presentWants v k b).coord = b.coord ∧ (presentWants v k b).store = b.store ∧
      noWants (presentWants v k b).drive = noWants b.drive := by
  unfold presentWants
  exact ⟨foldl_keeps Block.peers _ _ fun b _ => by simp, foldl_keeps Block.coord _ _ fun b _ => by simp,
    foldl_keeps Block.store _ _ fun b _ => by simp, foldl_keeps (fun b => noWants b.drive) _ _ fun b i =>
      noWants_set b.drive i (c := { b.drive.channels.getD i {} with want := k.wantOf v (b.drive.channels.getD i {}) }) rfl⟩

@[simp] theorem faultTask_stands (t : Nat) (k : Task) (w : TaskFault) (b : Block) :
    (faultTask t k w b).peers = b.peers ∧ (faultTask t k w b).coord = b.coord ∧ (faultTask t k w b).store = b.store ∧
      noWants (faultTask t k w b).drive = noWants b.drive := by
  simp [faultTask]

@[simp] theorem plateTest_stands (v : TaskView) (k : Task) (b : Block) :
    (plateTest v k b).2.peers = b.peers ∧ (plateTest v k b).2.coord = b.coord ∧ (plateTest v k b).2.store = b.store ∧
      noWants (plateTest v k b).2.drive = noWants b.drive := by
  unfold plateTest
  repeat' split
  all_goals simp

@[simp] theorem runTask_stands (t : Nat) (k : Task) (d : Direct) (b : Block) :
    (runTask t k d b).peers = b.peers ∧ (runTask t k d b).coord = b.coord ∧ (runTask t k d b).store = b.store ∧
      noWants (runTask t k d b).drive = noWants b.drive := by
  simp [runTask]

@[simp] theorem testAndRun_stands (t : Nat) (k : Task) (b : Block) :
    (testAndRun t k b).peers = b.peers ∧ (testAndRun t k b).coord = b.coord ∧ (testAndRun t k b).store = b.store ∧
      noWants (testAndRun t k b).drive = noWants b.drive := by
  unfold testAndRun
  repeat' split
  all_goals simp

@[simp] theorem resolveTask_stands (t : Nat) (k : Task) (b : Block) :
    (resolveTask t k b).peers = b.peers ∧ (resolveTask t k b).coord = b.coord ∧ (resolveTask t k b).store = b.store ∧
      noWants (resolveTask t k b).drive = noWants b.drive := by
  unfold resolveTask
  dsimp only
  repeat' split
  all_goals simp

@[simp] theorem taskWork_stands (t : Nat) (b : Block) :
    (taskWork t b).peers = b.peers ∧ (taskWork t b).coord = b.coord ∧ (taskWork t b).store = b.store ∧
      noWants (taskWork t b).drive = noWants b.drive := by
  unfold taskWork
  repeat' split
  all_goals simp

@[simp] theorem noteTask_stands (t : Nat) (x : TaskState) (b : Block) :
    (noteTask t x b).peers = b.peers ∧ (noteTask t x b).coord = b.coord ∧ (noteTask t x b).store = b.store ∧
      noWants (noteTask t x b).drive = noWants b.drive := by
  unfold noteTask
  repeat' split
  all_goals simp

@[simp] theorem taskSecond_stands (t : Nat) (b : Block) :
    (taskSecond t b).peers = b.peers ∧ (taskSecond t b).coord = b.coord ∧ (taskSecond t b).store = b.store ∧
      noWants (taskSecond t b).drive = noWants b.drive := by
  unfold taskSecond
  dsimp only
  repeat' split
  all_goals simp

@[simp] theorem handOn_stands (ts : List (Option Task)) (t : Nat) (b : Block) :
    (handOn ts t b).peers = b.peers ∧ (handOn ts t b).coord = b.coord ∧ (handOn ts t b).store = b.store ∧
      noWants (handOn ts t b).drive = noWants b.drive := by
  unfold handOn
  repeat' split
  all_goals simp

@[simp] theorem engineSecond_stands (b : Block) :
    (engineSecond b).peers = b.peers ∧ (engineSecond b).coord = b.coord ∧ (engineSecond b).store = b.store ∧
      noWants (engineSecond b).drive = noWants b.drive := by
  unfold engineSecond
  dsimp only
  rw [foldl_keeps Block.peers _ _ fun b _ => by simp, foldl_keeps Block.peers _ _ fun b _ => by simp,
    foldl_keeps Block.coord _ _ fun b _ => by simp, foldl_keeps Block.coord _ _ fun b _ => by simp,
    foldl_keeps Block.store _ _ fun b _ => by simp, foldl_keeps Block.store _ _ fun b _ => by simp,
    foldl_keeps (fun b => noWants b.drive) _ _ fun b _ => by simp,
    foldl_keeps (fun b => noWants b.drive) _ _ fun b _ => by simp]
  exact ⟨rfl, rfl, rfl, rfl⟩

/-! ## Line -/

@[simp] theorem setPosition_stands (p : Position) (b : Block) :
    (setPosition p b).peers = b.peers ∧ (setPosition p b).coord = b.coord ∧ (setPosition p b).store = b.store ∧
      noWants (setPosition p b).drive = noWants b.drive := ⟨rfl, rfl, rfl, rfl⟩

@[simp] theorem beginCycle_stands (b : Block) :
    (beginCycle b).peers = b.peers ∧ (beginCycle b).coord = b.coord ∧ (beginCycle b).store = b.store ∧
      noWants (beginCycle b).drive = noWants b.drive := by
  unfold beginCycle
  repeat' split
  all_goals simp

@[simp] theorem slotStart_stands (r : Bool) (b : Block) :
    (slotStart r b).peers = b.peers ∧ (slotStart r b).coord = b.coord ∧ (slotStart r b).store = b.store ∧
      noWants (slotStart r b).drive = noWants b.drive := by
  unfold slotStart
  dsimp only
  repeat' split
  all_goals simp

@[simp] theorem activitySeen_stands (b : Block) :
    (activitySeen b).peers = b.peers ∧ (activitySeen b).coord = b.coord ∧ (activitySeen b).store = b.store ∧
      noWants (activitySeen b).drive = noWants b.drive := by
  unfold activitySeen
  repeat' split
  all_goals simp

@[simp] theorem complete_stands (b : Block) :
    (complete b).peers = b.peers ∧ (complete b).coord = b.coord ∧ (complete b).store = b.store ∧
      noWants (complete b).drive = noWants b.drive := by
  unfold complete
  repeat' split
  all_goals simp

@[simp] theorem collide_stands (b : Block) :
    (collide b).peers = b.peers ∧ (collide b).coord = b.coord ∧ (collide b).store = b.store ∧
      noWants (collide b).drive = noWants b.drive := by
  unfold collide
  dsimp only
  repeat' split
  all_goals simp

@[simp] theorem corrupt_stands (b : Block) :
    (corrupt b).peers = b.peers ∧ (corrupt b).coord = b.coord ∧ (corrupt b).store = b.store ∧
      noWants (corrupt b).drive = noWants b.drive := by
  unfold corrupt
  repeat' split
  all_goals simp

/-! ## Control -/

@[simp] theorem settleSecond_stands (b : Block) :
    (settleSecond b).peers = b.peers ∧ (settleSecond b).coord = b.coord ∧ (settleSecond b).store = b.store ∧
      noWants (settleSecond b).drive = noWants b.drive := by
  have hfold {β : Type} (v : Block → β) (hexpire : ∀ i b, v (expireAck i b) = v b) (hretry : ∀ i b, v (retryClear i b) = v b)
      (hhold : ∀ b, v (timeoutHold b) = v b) (hadvance : ∀ b, v (timeoutAdvance b) = v b) : v (settleSecond b) = v b := by
    have hfolds := (foldl_keeps v (fun acc i => retryClear i acc) pageIndices fun b i => hretry i b).trans
      (foldl_keeps v (fun acc i => expireAck i acc) pageIndices (fun b i => hexpire i b) (b := b))
    unfold settleSecond
    dsimp only
    split
    · rw [hadvance, hhold, hfolds]
    · exact hfolds
  exact ⟨hfold Block.peers (by simp) (by simp) (by simp) (by simp), hfold Block.coord (by simp) (by simp) (by simp) (by simp),
    hfold Block.store (by simp) (by simp) (by simp) (by simp),
    hfold (fun b => noWants b.drive) (by simp) (by simp) (by simp) (by simp)⟩

@[simp] theorem setRadio_stands (r : Radio) (b : Block) :
    (setRadio r b).peers = b.peers ∧ (setRadio r b).coord = b.coord ∧ (setRadio r b).store = b.store ∧
      noWants (setRadio r b).drive = noWants b.drive := by
  unfold setRadio
  repeat' split
  all_goals simp

@[simp] theorem radioStatus_stands (r : Radio) (b : Block) :
    (radioStatus r b).peers = b.peers ∧ (radioStatus r b).coord = b.coord ∧ (radioStatus r b).store = b.store ∧
      noWants (radioStatus r b).drive = noWants b.drive := by
  unfold radioStatus
  repeat' split
  all_goals simp

@[simp] theorem sendHead_stands (b : Block) :
    (sendHead b).peers = b.peers ∧ (sendHead b).coord = b.coord ∧ (sendHead b).store = b.store ∧
      noWants (sendHead b).drive = noWants b.drive := by
  unfold sendHead
  repeat' split
  all_goals simp

@[simp] theorem taken_stands (c : Option Cause) (g : Nat) (b : Block) :
    (taken c g b).peers = b.peers ∧ (taken c g b).coord = b.coord ∧ (taken c g b).store = b.store ∧
      noWants (taken c g b).drive = noWants b.drive := by
  unfold taken
  repeat' split
  all_goals simp

@[simp] theorem sendExpired_stands (b : Block) :
    (sendExpired b).peers = b.peers ∧ (sendExpired b).coord = b.coord ∧ (sendExpired b).store = b.store ∧
      noWants (sendExpired b).drive = noWants b.drive := by
  unfold sendExpired
  repeat' split
  all_goals simp

@[simp] theorem radioAcks_stands (c : Option Cause) (g : Nat) (b : Block) :
    (radioAcks c g b).peers = b.peers ∧ (radioAcks c g b).coord = b.coord ∧ (radioAcks c g b).store = b.store ∧
      noWants (radioAcks c g b).drive = noWants b.drive := by
  unfold radioAcks
  repeat' split
  all_goals simp

end Sys2Proof.Machine
end

section
/-! PROOFS. What each command can do to the station state, the strap id, the Peer Table and the settings stored: the Peer
Table stays ordered (R24), LOCAL and HALTED are left only by a start (R44, R45), and only the end of a settings write
changes the stored block (R34, R175). -/

namespace Sys2Proof.Machine

/-! ## Peer Table and store under the acts of the drive -/

@[simp] theorem sampleLine_peers_store (v : Nat) (b : Block) :
    (sampleLine v b).peers = b.peers ∧ (sampleLine v b).store = b.store := by
  unfold sampleLine
  dsimp only
  split <;> simp

@[simp] theorem setChannel_peers_store (k : Nat) (c : Channel) (b : Block) :
    (setChannel k c b).peers = b.peers ∧ (setChannel k c b).store = b.store := ⟨rfl, rfl⟩

@[simp] theorem elementFault_peers_store (k : Nat) (x : Health) (r : Nat) (b : Block) :
    (elementFault k x r b).peers = b.peers ∧ (elementFault k x r b).store = b.store := by
  simp [elementFault]

@[simp] theorem completeCheck_peers_store (k m : Nat) (b : Block) :
    (completeCheck k m b).peers = b.peers ∧ (completeCheck k m b).store = b.store := by
  unfold completeCheck
  dsimp only
  repeat' split
  all_goals simp

@[simp] theorem checkChannel_peers_store (t : Nat) (ms : List Nat) (k : Nat) (b : Block) :
    (checkChannel t ms k b).peers = b.peers ∧ (checkChannel t ms k b).store = b.store := by
  unfold checkChannel
  dsimp only
  split <;> simp

@[simp] theorem tick_peers_store (v : Nat) (ms : List Nat) (b : Block) :
    (tick v ms b).peers = b.peers ∧ (tick v ms b).store = b.store := by
  unfold tick
  split
  · dsimp only
    rw [foldl_keeps Block.peers _ _ fun b k => by simp, foldl_keeps Block.store _ _ fun b k => by simp]
    simp
  · exact ⟨rfl, rfl⟩

@[simp] theorem mendChannel_peers_store (k : Nat) (c : Channel) (b : Block) :
    (mendChannel k c b).peers = b.peers ∧ (mendChannel k c b).store = b.store := by
  simp [mendChannel]

@[simp] theorem openWindow_peers_store (b : Block) :
    (openWindow b).peers = b.peers ∧ (openWindow b).store = b.store := by
  have hframe := openWindow_frame b
  simp only [changesOnly_iff] at hframe
  simp_all

@[simp] theorem completeWindow_peers_store (b : Block) :
    (completeWindow b).peers = b.peers ∧ (completeWindow b).store = b.store := by
  have hframe := completeWindow_frame b
  simp only [changesOnly_iff] at hframe
  simp_all

@[simp] theorem windowStart_peers_store (b : Block) :
    (windowStart b).peers = b.peers ∧ (windowStart b).store = b.store := by
  unfold windowStart
  split <;> simp

@[simp] theorem readInputs_peers_store (i : Nat) (xs : List SensorInput) (b : Block) :
    (readInputs i xs b).peers = b.peers ∧ (readInputs i xs b).store = b.store := by
  have hframe := readInputs_frame i xs b
  simp only [changesOnly_iff] at hframe
  simp_all

@[simp] theorem editApplies_peers_store (t : Nat) (b : Block) :
    (editApplies t b).peers = b.peers ∧ (editApplies t b).store = b.store := by
  unfold editApplies
  dsimp only
  repeat' split
  all_goals simp

theorem heardCourse_peers_store (x : Nat) (items : List CourseItem) (b : Block) :
    (heardCourse x items b).peers = b.peers ∧ (heardCourse x items b).store = b.store := by
  unfold heardCourse
  dsimp only
  simp only [evalAllReady_peers, evalAllReady_store, mapCourses_peers, mapCourses_store]
  rw [foldl_keeps Block.peers _ _ fun b i => by simp, foldl_keeps Block.store _ _ fun b i => by simp]
  exact ⟨rfl, rfl⟩

/-! ## The owners of the host's commands -/

/-- The owner of a command that it accepts leaves Peer Table and store alone. -/
def ownerSpares (own : Block → Answer) : Prop :=
  ∀ b b' data, own b = .ok (b', data) → b'.peers = b.peers ∧ b'.store = b.store

/-- A transfer leaves Peer Table and store alone where its owner does. -/
theorem transfer_peers_store {own : Block → Answer} (h : ownerSpares own) (code : Nat) (bad : Bool) (gate : StateGate)
    (dish : Bool) (b : Block) :
    (transfer code bad gate dish own b).peers = b.peers ∧ (transfer code bad gate dish own b).store = b.store := by
  unfold transfer
  split
  · cases hg : gates bad gate dish own (deliver b) with
    | error r => simp [conclude, answer, numbered8, hg]
    | ok x =>
      obtain ⟨after, data⟩ := x
      have hown : own (deliver b) = .ok (after, data) := by
        unfold gates at hg
        split_ifs at hg
        exact hg
      simpa [conclude, answer, numbered8, hg] using h _ _ _ hown
  · exact ⟨rfl, rfl⟩

theorem ownReadStatus_spares : ownerSpares ownReadStatus := by
  rintro b b' data ⟨⟩
  exact ⟨rfl, rfl⟩

theorem ownReadEvent_spares : ownerSpares ownReadEvent := by
  intro b b' data h
  unfold ownReadEvent at h
  split at h <;> cases h <;> exact ⟨rfl, rfl⟩

theorem ownReadTable_spares (selector : Nat) : ownerSpares (ownReadTable selector) := by
  intro b b' data h
  unfold ownReadTable at h
  split at h <;> cases h
  exact ⟨rfl, rfl⟩

theorem ownReadCounters_spares : ownerSpares ownReadCounters := by
  rintro b b' data ⟨⟩
  exact ⟨rfl, rfl⟩

theorem ownClearCounters_spares : ownerSpares ownClearCounters := by
  rintro b b' data ⟨⟩
  exact ⟨rfl, rfl⟩

theorem ownPostProfile_spares (i : Byte) (p : ProfileFields) : ownerSpares (ownPostProfile i p) := by
  intro b b' data h
  unfold ownPostProfile at h
  split at h
  · cases h
  · cases checked_ok h
    simp

theorem ownDeleteProfile_spares (i : Byte) : ownerSpares (ownDeleteProfile i) := by
  intro b b' data h
  cases checked_ok h
  simp

theorem ownPostCourse_spares (tag version : Byte) (offset : Word16) (lead : Option Word16) :
    ownerSpares (ownPostCourse tag version offset lead) := by
  intro b b' data h
  unfold ownPostCourse at h
  dsimp only at h
  repeat' split at h
  all_goals cases h
  simp

theorem ownDeleteCourse_spares (tag : Byte) : ownerSpares (ownDeleteCourse tag) := by
  intro b b' data h
  unfold ownDeleteCourse at h
  repeat' split at h
  all_goals cases h
  simp

theorem ownSetLock_spares (tag : Byte) (lock : Bool) : ownerSpares (ownSetLock tag lock) := by
  intro b b' data h
  unfold ownSetLock at h
  split at h <;> cases h
  simp

theorem ownShiftCourse_spares (tag : Byte) (offset : Word16) (hold : Byte) :
    ownerSpares (ownShiftCourse tag offset hold) := by
  intro b b' data h
  unfold ownShiftCourse at h
  split at h <;> cases h
  simp

@[simp] theorem passTasks_peers_store (i : Nat) (ts : List Nat) (b : Block) :
    (ts.foldl (fun acc t => passTask i t acc) b).peers = b.peers ∧
      (ts.foldl (fun acc t => passTask i t acc) b).store = b.store :=
  ⟨foldl_keeps Block.peers _ _ fun b t => by simp, foldl_keeps Block.store _ _ fun b t => by simp⟩

theorem ownMarkPassed_spares (tag : Byte) : ownerSpares (ownMarkPassed tag) := by
  intro b b' data h
  unfold ownMarkPassed at h
  split at h
  · cases h
  · split at h
    · cases h
      exact ⟨rfl, rfl⟩
    · simp only [Except.ok.injEq, Prod.mk.injEq] at h
      rw [← h.1]
      simp

theorem ownPostTask_spares (tag profile : Byte) (mask : Mask8) (sensor : Byte) (plates : Word16) :
    ownerSpares (ownPostTask tag profile mask sensor plates) := by
  intro b b' data h
  replace h := checked_ok h
  split at h <;> cases h
  simp

theorem ownEditTask_spares (i profile : Byte) (mask : Mask8) (sensor : Byte) (plates : Word16) :
    ownerSpares (ownEditTask i profile mask sensor plates) := by
  intro b b' data h
  replace h := checked_ok h
  split at h <;> cases h
  simp

theorem ownCancelTask_spares (i : Byte) : ownerSpares (ownCancelTask i) := by
  intro b b' data h
  replace h := checked_ok h
  split at h <;> cases h
  simp

theorem ownSetPlates_spares (i : Byte) (loaded : Word16) : ownerSpares (ownSetPlates i loaded) := by
  intro b b' data h
  replace h := checked_ok h
  split at h <;> cases h
  simp

theorem ownRaiseStaffCall_spares (subject priority level : Byte) :
    ownerSpares (ownRaiseStaffCall subject priority level) := by
  intro b b' data h
  unfold ownRaiseStaffCall at h
  split at h <;> cases h
  simp

theorem ownClearStaffCall_spares (subject : Byte) : ownerSpares (ownClearStaffCall subject) := by
  intro b b' data h
  unfold ownClearStaffCall at h
  repeat' split at h
  all_goals cases h
  simp

theorem ownClearFault_spares (channel : Byte) : ownerSpares (ownClearFault channel) := by
  intro b b' data h
  unfold ownClearFault at h
  dsimp only at h
  repeat' split at h
  all_goals cases h
  all_goals simp 

theorem ownRackLoaded_spares (kind plates : Byte) : ownerSpares (ownRackLoaded kind plates) := by
  intro b b' data h
  unfold ownRackLoaded at h
  repeat' split at h
  all_goals cases h
  simp

theorem ownRackRemoved_spares (rack : RackField) : ownerSpares (ownRackRemoved rack) := by
  intro b b' data h
  unfold ownRackRemoved removeUntracked removeNumbered at h
  repeat' split at h
  all_goals cases h
  all_goals simp

theorem ownManualAdvance_spares : ownerSpares ownManualAdvance := by
  intro b b' data h
  unfold ownManualAdvance at h
  split at h <;> cases h
  simp

theorem ownRunRequest_spares (run : Bool) : ownerSpares (ownRunRequest run) := by
  rintro b b' data ⟨⟩
  simp

theorem ownResetTallies_spares : ownerSpares ownResetTallies := by
  rintro b b' data ⟨⟩
  exact ⟨rfl, rfl⟩

theorem ownPlanClear_spares : ownerSpares ownPlanClear := by
  rintro b b' data ⟨⟩
  simp

/-! ## Station state, strap id, Peer Table and stored settings -/

/-- Station state, strap id, Peer Table and stored settings stand. -/
structure Rests (b b' : Block) : Prop where
  state : b'.station.state = b.station.state
  id : b'.id = b.id
  peers : b'.peers = b.peers
  stored : b'.store.block = b.store.block

theorem Rests.refl (b : Block) : Rests b b := ⟨rfl, rfl, rfl, rfl⟩

theorem Rests.of_same {b b' : Block} (hs : b'.station = b.station ∧ b'.share = b.share)
    (h : b'.peers = b.peers ∧ b'.store = b.store) : Rests b b' :=
  ⟨by rw [hs.1], by rw [Block.id, hs.1, Block.id], h.1, by rw [h.2]⟩

theorem Rests.transfer {own : Block → Answer} (hk : ownerKeeps own) (hs : ownerSpares own) {code : Nat} {bad : Bool}
    {gate : StateGate} {dish : Bool} {b : Block} : Rests b (transfer code bad gate dish own b) :=
  .of_same (transfer_station_share hk _ _ _ _ _) (transfer_peers_store hs _ _ _ _ _)

/-- A gated meaning rests where the function does. -/
theorem Rests.whenRuns {f : Block → Block} (h : ∀ b, Rests b (f b)) (b : Block) : Rests b (whenRuns f b) := by
  unfold Machine.whenRuns
  split
  · exact h b
  · exact .refl b

theorem Rests.whenDish {f : Block → Block} (h : ∀ b, Rests b (f b)) (b : Block) : Rests b (whenDish f b) := by
  unfold Machine.whenDish
  split
  · exact h b
  · exact .refl b

/-- The Peer Table one period older, its entries of age 8 gone (R27). -/
def agedPeers (ps : List Peer) : List Peer :=
  (ps.map fun p => { p with age := p.age + 1 }).filter fun p => decide (p.age < Config.removeAge)

/-- What a command does to station state, strap id, Peer Table and stored settings: a start resets, a step of INIT leads on,
a round ages the peers and may decide a state, a frame of the own id leads a working station to LOCAL, a DEMAND places its
sender's entry, the end of a settings write replaces the block, and every other command leaves the four. -/
inductive Effect (c : Instr) (b b' : Block) : Prop
  | start (hc : (∃ x, c = .powerOn x) ∨ (∃ x, c = .resetPinReleased x) ∨ ∃ x, c = .restart x)
      (state : b'.station.state = .initial) (peers : b'.peers = []) (stored : b'.store.block = b.store.block)
  | initStep (before : b.station.state = .initial) (id : b'.id = b.id) (peers : b'.peers = b.peers)
      (stored : b'.store.block = b.store.block)
  | round (state : b.station.state = .localOnly → b'.station.state = .localOnly) (works : b.station.state.works = true)
      (id : b'.id = b.id) (peers : b'.peers = agedPeers b.peers) (stored : b'.store.block = b.store.block)
  | entersLocal (works : b.station.state.works = true) (state : b'.station.state = .localOnly) (id : b'.id = b.id)
      (peers : b'.peers = b.peers) (stored : b'.store.block = b.store.block)
  | demand (state : b'.station.state = b.station.state) (id : b'.id = b.id) (p : Peer) (bound : p.id ≤ 31)
      (foreign : p.id ≠ b.id) (peers : b'.peers = putPeer p b.peers) (stored : b'.store.block = b.store.block)
  | written (hc : c = .settingsWriteDone) (hb : b' = writeDone b)
  | rests (h : Rests b b')

theorem Effect.of_same {c : Instr} {b b' : Block} (hs : b'.station = b.station ∧ b'.share = b.share)
    (h : b'.peers = b.peers ∧ b'.store = b.store) : Effect c b b' := .rests (.of_same hs h)

theorem Effect.of_whenRuns {c : Instr} {f : Block → Block} (hs : ∀ b, (f b).station = b.station ∧ (f b).share = b.share)
    (h : ∀ b, (f b).peers = b.peers ∧ (f b).store = b.store) (b : Block) : Effect c b (whenRuns f b) :=
  .rests (.whenRuns (fun b => .of_same (hs b) (h b)) b)

theorem Effect.of_whenDish {c : Instr} {f : Block → Block} (hs : ∀ b, (f b).station = b.station ∧ (f b).share = b.share)
    (h : ∀ b, (f b).peers = b.peers ∧ (f b).store = b.store) (b : Block) : Effect c b (whenDish f b) :=
  .rests (.whenDish (fun b => .of_same (hs b) (h b)) b)

theorem Effect.transfer {c : Instr} {own : Block → Answer} (hk : ownerKeeps own) (hs : ownerSpares own) {code : Nat}
    {bad : Bool} {gate : StateGate} {dish : Bool} {b : Block} : Effect c b (transfer code bad gate dish own b) :=
  .rests (.transfer hk hs)

theorem initAt_initial {step : InitStep} {b : Block} (h : initAt step b = true) : b.station.state = .initial := by
  obtain ⟨⟨_, hstate⟩, _⟩ : (b.station.resetHeld = false ∧ b.station.state = .initial) ∧ _ := by simpa [initAt] using h
  exact hstate

theorem checkSettings_effect (c : Instr) (b : Block) : Effect c b (checkSettings b) := by
  unfold checkSettings
  split
  · rename_i h
    split <;> exact .initStep (initAt_initial h.1) rfl rfl rfl
  · exact .rests (.refl b)

theorem loopbackDone_effect (c : Instr) (passed : Bool) (inputs : List SensorInput) (b : Block) :
    Effect c b (loopbackDone passed inputs b) := by
  unfold loopbackDone
  split
  · rename_i h
    split
    · exact .initStep (initAt_initial h) (by rw [Block.id, enterListen_station, inListen_station]; rfl)
        (by simp [enterListen]) (by simp [enterListen])
    · exact .initStep (initAt_initial h) rfl rfl rfl
  · exact .rests (.refl b)

theorem controlRound_of_local {b : Block} (h : b.station.state = .localOnly) : controlRound b = b := by
  unfold controlRound
  rw [h]

theorem runRound_effect (c : Instr) (b : Block) : Effect c b (runRound b) := by
  unfold runRound
  split
  · rename_i h
    have hworks : b.station.state.works = true := by simpa using (Bool.and_eq_true_iff.1 h.1).2
    have hcontrol := (controlRound_station (agePeers b)).2.2.1
    refine .round (fun hlocal => ?_) hworks ?_ (by simp [agedPeers]) (by simp)
    · simp only [handOnDemand_station, toggleParity_station, shareRound_station, pruneParticipants_station,
        decideElection_station]
      rw [controlRound_of_local (by simpa using hlocal)]
      simpa using hlocal
    · simp only [Block.id, handOnDemand_station, toggleParity_station, shareRound_station, pruneParticipants_station,
        decideElection_station]
      rw [hcontrol, agePeers_station]
  · exact .rests (.refl b)

theorem judgeSignature_peers_store (i : Nat) (g : Word16) (b : Block) :
    (judgeSignature i g b).peers = b.peers ∧ (judgeSignature i g b).store = b.store := by
  unfold judgeSignature
  split <;> simp

/-- The entry a DEMAND of sequence `x` makes of its sender `i`, its missed count grown by the gap (R25). -/
def heardPeer (i x : Nat) (d : Demand) (b : Block) : Peer :=
  peerOf i x (satTo 65535 (((findPeer i b).elim 0 fun p => p.missed) +
    (findPeer i b).elim 0 fun p => sequenceGap p.lastSequence x)) d

/-- A DEMAND places its sender's entry, and nothing else in the Peer Table (R25). -/
theorem heardDemand_peers_store (i x : Nat) (d : Demand) (b : Block) :
    (heardDemand i x d b).peers = putPeer (heardPeer i x d b) b.peers ∧ (heardDemand i x d b).store = b.store := by
  have hjudge := judgeSignature_peers_store i d.signature
  unfold heardDemand
  dsimp only
  split <;> split <;> simp [hjudge, heardPeer]

/-- Work on a frame's body leaves Peer Table and store, but for the entry that a DEMAND places (R25). -/
theorem handle_peers_store (i x : Nat) (r : Received) (b : Block) :
    ((handle i x r b).peers = b.peers ∨ ∃ p : Peer, p.id = i ∧ (handle i x r b).peers = putPeer p b.peers) ∧
      (handle i x r b).store = b.store := by
  cases r with
  | demand d => exact ⟨.inr ⟨_, rfl, (heardDemand_peers_store i x d b).1⟩, (heardDemand_peers_store i x d b).2⟩
  | course items => exact ⟨.inl (heardCourse_peers_store i items b).1, (heardCourse_peers_store i items b).2⟩
  | shift f => simp [handle]
  | raise f => simp [handle]
  | ack c g => simp [handle]
  | clear c g => simp [handle]

theorem acceptFrame_peers_store (i x : Nat) (f : Option FrameForm) (bs : List Byte) (b : Block) :
    ((acceptFrame i x f bs b).peers = b.peers ∨ ∃ p : Peer, p.id = i ∧ (acceptFrame i x f bs b).peers = putPeer p b.peers) ∧
      (acceptFrame i x f bs b).store = b.store := by
  unfold acceptFrame
  repeat' split
  · rename_i r _
    simpa using handle_peers_store i x r (count .framesReceived b)
  all_goals simp

theorem receive_effect (c : Instr) (source sequence : Byte) (form : Option FrameForm) (body : List Byte) (b : Block) :
    Effect c b (receive source sequence form body b) := by
  unfold receive
  split
  · rename_i hlisten
    have hworks : b.station.state.works = true := by
      have hruns := (Bool.and_eq_true_iff.1 hlisten).1
      exact (Bool.and_eq_true_iff.1 hruns).2
    split
    · exact .of_same (by simp) (by simp)
    · rename_i hform
      split
      · unfold duplicate
        split
        · exact .of_same (by simp) (by simp)
        · exact .entersLocal hworks (by simp [enterLocal]) (by simp [enterLocal, Block.id]) (by simp [enterLocal])
            (by simp [enterLocal])
      · rename_i hforeign
        have hstation := (acceptFrame_station_share source.toNat sequence.toNat form body
          (b.onLine fun l => { l with lastSender := some source.toNat }))
        obtain ⟨hpeers | ⟨p, hid, hpeers⟩, hstore⟩ := acceptFrame_peers_store source.toNat sequence.toNat form body
          (b.onLine fun l => { l with lastSender := some source.toNat })
        · exact .of_same hstation ⟨hpeers, hstore⟩
        · exact .demand (congrArg Station.state hstation.1) (congrArg Station.strapId hstation.1) p
            (by rw [hid]; omega) (by rwa [hid]) hpeers (congrArg Store.block hstore)
  · exact .rests (.refl b)

theorem runSecond_rests (inputs : List SensorInput) (b : Block) : Rests b (runSecond inputs b) := by
  unfold runSecond
  repeat' split
  · exact .refl b
  · exact ⟨by simp [tickClock], by simp [tickClock, Block.id], by simp [tickClock], by simp [tickClock]⟩
  · exact ⟨rfl, rfl, rfl, rfl⟩

theorem writeSettings_rests (block : List Byte) (b : Block) : Rests b (writeSettings block b) := by
  unfold writeSettings
  dsimp only
  repeat' split
  · exact .of_same (by simp [conclude, answer, numbered8]) (by simp [conclude, answer, numbered8])
  · exact ⟨rfl, rfl, rfl, rfl⟩
  · exact .refl b

theorem restartPart_effect (straps : BitVec 5) (b : Block) : Effect (.restart straps) b (restartPart straps.toNat b) := by
  unfold restartPart
  split
  · exact .start (.inr (.inr ⟨_, rfl⟩)) rfl rfl rfl
  · exact .rests (.refl b)

/-- A command whose meaning acts on the block has the effect of that act. -/
theorem Effect.of_onBlock {c : Instr} {f : Block → Block} {s t : State} (hf : Effect c s.block (f s.block))
    (h : onBlock f s = .next t) : Effect c s.block t.block := by
  cases h
  exact hf

/-- Every command has one of the effects. -/
theorem exec_effect (c : Instr) (s t : State) (h : exec c s = .next t) : Effect c s.block t.block := by
  cases c with
  | powerOn straps => exact .of_onBlock (.start (.inl ⟨_, rfl⟩) rfl rfl rfl) h
  | resetPinHeld => exact .of_onBlock (.rests ⟨rfl, rfl, rfl, rfl⟩) h
  | resetPinReleased straps => exact .of_onBlock (.start (.inr (.inl ⟨_, rfl⟩)) rfl rfl rfl) h
  | settingsCheck => exact .of_onBlock (checkSettings_effect _ _) h
  | loopbackTestDone passed inputs => exact .of_onBlock (loopbackDone_effect _ _ _ _) h
  | round => exact .of_onBlock (runRound_effect _ _) h
  | driveTick volts amps => exact .of_onBlock (.of_same (by simp) (by simp)) h
  | burstWindowStart => exact .of_onBlock (.of_same (by simp) (by simp)) h
  | second inputs => exact .of_onBlock (.rests (runSecond_rests _ _)) h
  | holdTimeout => exact .of_onBlock (.of_whenDish (by simp) (by simp) _) h
  | taskEditApply task => exact .of_onBlock (.of_whenRuns (by simp) (by simp) _) h
  | ackTimerExpiry entry => exact .of_onBlock (.of_whenRuns (by simp) (by simp) _) h
  | clearRetry entry => exact .of_onBlock (.of_whenRuns (by simp) (by simp) _) h
  | manualAdvanceTimeout => exact .of_onBlock (.of_whenDish (by simp) (by simp) _) h
  | dwellTenth => exact .of_onBlock (.of_whenDish (by simp) (by simp) _) h
  | encoderPulse => exact .of_onBlock (.of_whenDish (by simp) (by simp) _) h
  | entrySensor => exact .of_onBlock (.of_whenDish (by simp) (by simp) _) h
  | exitSensor => exact .of_onBlock (.of_whenDish (by simp) (by simp) _) h
  | radioStatusRecord ready => exact .of_onBlock (.of_same (by simp) (by simp)) h
  | radioStatusTimeout => exact .of_onBlock (.of_same (by simp) (by simp)) h
  | sendRecord => exact .of_onBlock (.of_same (by simp) (by simp)) h
  | takenRecord kind subject generation => exact .of_onBlock (.of_same (by simp) (by simp)) h
  | sendTimeout => exact .of_onBlock (.of_same (by simp) (by simp)) h
  | radioAckRecord kind subject generation => exact .of_onBlock (.of_same (by simp) (by simp)) h
  | badRadioRecord => exact .of_onBlock (.of_same ⟨rfl, rfl⟩ ⟨rfl, rfl⟩) h
  | gapEnd => exact .of_onBlock (.of_same (by simp) (by simp)) h
  | slotStart lineAtRest => exact .of_onBlock (.of_same (by simp) (by simp)) h
  | lineActivitySeen => exact .of_onBlock (.of_same (by simp) (by simp)) h
  | transmissionComplete => exact .of_onBlock (.of_same (by simp) (by simp)) h
  | collision => exact .of_onBlock (.of_same (by simp) (by simp)) h
  | corruptFrame cause => exact .of_onBlock (.of_same (by simp) (by simp)) h
  | unknownFrame source kind sequence body => exact .of_onBlock (receive_effect _ _ _ _ _ _) h
  | demandFrame source sequence body => exact .of_onBlock (receive_effect _ _ _ _ _ _) h
  | courseFrame source sequence body => exact .of_onBlock (receive_effect _ _ _ _ _ _) h
  | shiftFrame source sequence body => exact .of_onBlock (receive_effect _ _ _ _ _ _) h
  | pageRaiseFrame source sequence body => exact .of_onBlock (receive_effect _ _ _ _ _ _) h
  | pageAckFrame source sequence body => exact .of_onBlock (receive_effect _ _ _ _ _ _) h
  | pageClearFrame source sequence body => exact .of_onBlock (receive_effect _ _ _ _ _ _) h
  | noneTransfer =>
    refine .of_onBlock (.rests ?_) h
    unfold emptyTransfer
    split <;> exact ⟨rfl, rfl, rfl, rfl⟩
  | transferCutShort => exact .of_onBlock (.rests (.refl _)) h
  | unknownCommand code =>
    exact .of_onBlock (.transfer (by rintro b b' data ⟨⟩; exact ⟨rfl, rfl⟩) (by rintro b b' data ⟨⟩; exact ⟨rfl, rfl⟩)) h
  | readStatus => exact .of_onBlock (.transfer ownReadStatus_keeps ownReadStatus_spares) h
  | readEvent => exact .of_onBlock (.transfer ownReadEvent_keeps ownReadEvent_spares) h
  | readTable selector => exact .of_onBlock (.transfer (ownReadTable_keeps _) (ownReadTable_spares _)) h
  | readCounters => exact .of_onBlock (.transfer ownReadCounters_keeps ownReadCounters_spares) h
  | readAndClearCounters => exact .of_onBlock (.transfer ownClearCounters_keeps ownClearCounters_spares) h
  | postProfile index content => exact .of_onBlock (.transfer (ownPostProfile_keeps _ _) (ownPostProfile_spares _ _)) h
  | deleteProfile index => exact .of_onBlock (.transfer (ownDeleteProfile_keeps _) (ownDeleteProfile_spares _)) h
  | postCourse tag version offset lead =>
    exact .of_onBlock (.transfer (ownPostCourse_keeps _ _ _ _) (ownPostCourse_spares _ _ _ _)) h
  | deleteCourse tag => exact .of_onBlock (.transfer (ownDeleteCourse_keeps _) (ownDeleteCourse_spares _)) h
  | lockCourse tag => exact .of_onBlock (.transfer (ownSetLock_keeps _ _) (ownSetLock_spares _ _)) h
  | unlockCourse tag => exact .of_onBlock (.transfer (ownSetLock_keeps _ _) (ownSetLock_spares _ _)) h
  | shiftCourse tag offset hold => exact .of_onBlock (.transfer (ownShiftCourse_keeps _ _ _) (ownShiftCourse_spares _ _ _)) h
  | markPassed tag => exact .of_onBlock (.transfer (ownMarkPassed_keeps _) (ownMarkPassed_spares _)) h
  | postTask tag profile mask sensor plates =>
    exact .of_onBlock (.transfer (ownPostTask_keeps _ _ _ _ _) (ownPostTask_spares _ _ _ _ _)) h
  | editTask index profile mask sensor plates =>
    exact .of_onBlock (.transfer (ownEditTask_keeps _ _ _ _ _) (ownEditTask_spares _ _ _ _ _)) h
  | cancelTask index => exact .of_onBlock (.transfer (ownCancelTask_keeps _) (ownCancelTask_spares _)) h
  | setPlates index loaded => exact .of_onBlock (.transfer (ownSetPlates_keeps _ _) (ownSetPlates_spares _ _)) h
  | raiseStaffCall subject priority level =>
    exact .of_onBlock (.transfer (ownRaiseStaffCall_keeps _ _ _) (ownRaiseStaffCall_spares _ _ _)) h
  | clearStaffCall subject => exact .of_onBlock (.transfer (ownClearStaffCall_keeps _) (ownClearStaffCall_spares _)) h
  | clearFault channel => exact .of_onBlock (.transfer (ownClearFault_keeps _) (ownClearFault_spares _)) h
  | rackLoaded kind plates => exact .of_onBlock (.transfer (ownRackLoaded_keeps _ _) (ownRackLoaded_spares _ _)) h
  | rackRemoved rack => exact .of_onBlock (.transfer (ownRackRemoved_keeps _) (ownRackRemoved_spares _)) h
  | manualAdvance => exact .of_onBlock (.transfer ownManualAdvance_keeps ownManualAdvance_spares) h
  | conveyorStart => exact .of_onBlock (.transfer (ownRunRequest_keeps _) (ownRunRequest_spares _)) h
  | conveyorStop => exact .of_onBlock (.transfer (ownRunRequest_keeps _) (ownRunRequest_spares _)) h
  | resetTallies => exact .of_onBlock (.transfer ownResetTallies_keeps ownResetTallies_spares) h
  | writeSettings block => exact .of_onBlock (.rests (writeSettings_rests _ _)) h
  | settingsWriteDone => exact .of_onBlock (.written rfl rfl) h
  | planClear => exact .of_onBlock (.transfer ownPlanClear_keeps ownPlanClear_spares) h
  | restart straps => exact .of_onBlock (restartPart_effect _ _) h
  | lineSeenActiveWhileSeeking => exact .of_onBlock (.rests ⟨rfl, rfl, rfl, rfl⟩) h

/-- A step carries out the first command waiting, or rests. -/
theorem step_effect {s s' : State} (h : step s = .next s') :
    s' = s ∨ ∃ c rest, s.pending = c :: rest ∧ Effect c s.block s'.block := by
  unfold step at h
  split at h
  · cases h
    exact .inl rfl
  · rename_i c rest hp
    exact .inr ⟨c, rest, hp, exec_effect c { s with pending := rest } s' h⟩

/-! ## The Peer Table stays ordered (R24) -/

theorem idsRise_iff (ps : List Peer) : idsRise ps = true ↔ ps.Pairwise fun p q => p.id < q.id := by
  induction ps with
  | nil => simp [idsRise]
  | cons p rest ih =>
    cases rest with
    | nil => simp [idsRise]
    | cons q rest =>
      rw [idsRise, Bool.and_eq_true, ih, decide_eq_true_iff]
      constructor
      · rintro ⟨hpq, hrest⟩
        refine List.pairwise_cons.2 ⟨fun x hx => ?_, hrest⟩
        obtain rfl | hx := List.mem_cons.1 hx
        · exact hpq
        · exact hpq.trans ((List.pairwise_cons.1 hrest).1 x hx)
      · intro hall
        obtain ⟨hp, hrest⟩ := List.pairwise_cons.1 hall
        exact ⟨hp q List.mem_cons_self, hrest⟩

/-- R24's form of a Peer Table in a station of id `own`. -/
structure PeersIn (own : Nat) (ps : List Peer) : Prop where
  rise : ps.Pairwise fun p q => p.id < q.id
  each : ∀ p ∈ ps, p.id ≤ 31 ∧ p.id ≠ own

theorem peersOrdered_iff (b : Block) : peersOrdered b = true ↔ PeersIn b.id b.peers := by
  simp only [peersOrdered, Bool.and_eq_true, idsRise_iff, List.all_eq_true, decide_eq_true_eq]
  exact ⟨fun h => ⟨h.1, h.2⟩, fun h => ⟨h.1, h.2⟩⟩

theorem PeersIn.nil (own : Nat) : PeersIn own [] := ⟨.nil, by simp⟩

theorem PeersIn.aged {own : Nat} {ps : List Peer} (h : PeersIn own ps) : PeersIn own (agedPeers ps) := by
  refine ⟨List.Pairwise.filter _ (List.pairwise_map.2 h.rise), fun p hp => ?_⟩
  obtain ⟨q, hq, rfl⟩ := List.mem_map.1 (List.mem_of_mem_filter hp)
  exact h.each q hq

/-- The entries after one is placed: the one placed, and entries that stood. -/
theorem mem_putPeer {p x : Peer} {ps : List Peer} (h : x ∈ putPeer p ps) : x = p ∨ x ∈ ps := by
  induction ps with
  | nil => exact .inl (by simpa [putPeer] using h)
  | cons q rest ih =>
    unfold putPeer at h
    split_ifs at h
    · exact List.mem_cons.1 h
    · exact (List.mem_cons.1 h).imp id (List.mem_cons_of_mem q)
    · obtain rfl | hx := List.mem_cons.1 h
      · exact .inr List.mem_cons_self
      · exact (ih hx).imp id (List.mem_cons_of_mem q)

/-- A placed entry takes its place in the order (R24). -/
theorem putPeer_rises {p : Peer} {ps : List Peer} (h : ps.Pairwise fun p q => p.id < q.id) :
    (putPeer p ps).Pairwise fun p q => p.id < q.id := by
  induction ps with
  | nil => simp [putPeer]
  | cons q rest ih =>
    obtain ⟨hq, hrest⟩ := List.pairwise_cons.1 h
    unfold putPeer
    split_ifs with hlt heq
    · refine List.pairwise_cons.2 ⟨fun x hx => ?_, h⟩
      obtain rfl | hx := List.mem_cons.1 hx
      · exact hlt
      · exact hlt.trans (hq x hx)
    · exact List.pairwise_cons.2 ⟨fun x hx => heq ▸ hq x hx, hrest⟩
    · refine List.pairwise_cons.2 ⟨fun x hx => ?_, ih hrest⟩
      obtain rfl | hx := mem_putPeer hx
      · omega
      · exact hq x hx

theorem PeersIn.put {own : Nat} {ps : List Peer} (h : PeersIn own ps) {p : Peer} (bound : p.id ≤ 31)
    (foreign : p.id ≠ own) : PeersIn own (putPeer p ps) := by
  refine ⟨putPeer_rises h.rise, fun x hx => ?_⟩
  obtain rfl | hx := mem_putPeer hx
  · exact ⟨bound, foreign⟩
  · exact h.each x hx

theorem Effect.peersIn {c : Instr} {b b' : Block} (h : Effect c b b') (hb : PeersIn b.id b.peers) :
    PeersIn b'.id b'.peers := by
  cases h with
  | start _ _ peers _ => exact peers ▸ .nil _
  | initStep _ id peers _ => rwa [id, peers]
  | round _ _ id peers _ => rw [id, peers]; exact hb.aged
  | entersLocal _ _ id peers _ => rwa [id, peers]
  | demand _ id p bound foreign peers _ => rw [id, peers]; exact hb.put bound foreign
  | written _ h =>
    subst h
    unfold writeDone
    split <;> exact hb
  | rests h => rwa [h.id, h.peers]

/-- Settles O53: each effect a command can have keeps the table's form. -/
theorem peersStayOrdered : Obligations.PeersStayOrdered := by
  intro s s' hs h
  rw [peersOrdered_iff] at hs ⊢
  obtain rfl | ⟨c, rest, _, heffect⟩ := step_effect h
  · exact hs
  · exact heffect.peersIn hs

/-! ## LOCAL and HALTED are left by a start alone (R44, R45) -/

/-- Settles O57: a start leads to INIT, and no other effect leaves LOCAL or HALTED. -/
theorem localAndHaltedAreLeftOnlyByAStart : Obligations.LocalAndHaltedAreLeftOnlyByAStart := by
  intro s s' hs h
  obtain rfl | ⟨c, rest, hp, heffect⟩ := step_effect h
  · exact .inl rfl
  · cases heffect with
    | start hc state _ _ =>
      refine .inr ⟨state, ?_⟩
      obtain ⟨x, rfl⟩ | ⟨x, rfl⟩ | ⟨x, rfl⟩ := hc
      · exact ⟨x, rest, .inl hp⟩
      · exact ⟨x, rest, .inr (.inl hp)⟩
      · exact ⟨x, rest, .inr (.inr hp)⟩
    | initStep before _ _ _ => simp [before] at hs
    | round state works _ _ _ =>
      obtain hlocal | hhalted := hs
      · exact .inl ((state hlocal).trans hlocal.symm)
      · simp [hhalted, StationState.works] at works
    | entersLocal works state _ _ _ =>
      obtain hlocal | hhalted := hs
      · exact .inl (state.trans hlocal.symm)
      · simp [hhalted, StationState.works] at works
    | demand state _ _ _ _ _ _ => exact .inl state
    | written _ hb => exact .inl (by rw [hb, (writeDone_station_share _).1])
    | rests h => exact .inl h.state

/-! ## Port and store (R34, R168, R169, R175) -/

/-- A gated meaning leaves the port's view alone where the function does. -/
theorem held_whenRuns {f : Block → Block} (h : ∀ b, (f b).held = b.held) (b : Block) : (whenRuns f b).held = b.held := by
  unfold whenRuns
  split
  · exact h b
  · rfl

theorem held_whenDish {f : Block → Block} (h : ∀ b, (f b).held = b.held) (b : Block) : (whenDish f b).held = b.held := by
  unfold whenDish
  split
  · exact h b
  · rfl

theorem held_of_onBlock {f : Block → Block} {s t : State} (hf : (f s.block).held = s.block.held)
    (h : onBlock f s = .next t) : t.block.held = s.block.held := by
  cases h
  exact hf

/-- A command that is no transfer, no end of a settings write and no start leaves what the port holds for the host. -/
theorem exec_held {c : Instr} {s t : State} (hc : portOrStart c = false) (h : exec c s = .next t) :
    t.block.held = s.block.held := by
  cases c with
  | resetPinHeld => exact held_of_onBlock (held_holdReset _) h
  | settingsCheck => exact held_of_onBlock (held_checkSettings _) h
  | loopbackTestDone passed inputs => exact held_of_onBlock (held_loopbackDone _ _ _) h
  | round => exact held_of_onBlock (held_runRound _) h
  | driveTick volts amps => exact held_of_onBlock (held_tick _ _ _) h
  | burstWindowStart => exact held_of_onBlock (held_windowStart _) h
  | second inputs => exact held_of_onBlock (held_runSecond _ _) h
  | holdTimeout => exact held_of_onBlock (held_whenDish (by simp) _) h
  | taskEditApply task => exact held_of_onBlock (held_whenRuns (by simp) _) h
  | ackTimerExpiry entry => exact held_of_onBlock (held_whenRuns (by simp) _) h
  | clearRetry entry => exact held_of_onBlock (held_whenRuns (by simp) _) h
  | manualAdvanceTimeout => exact held_of_onBlock (held_whenDish (by simp) _) h
  | dwellTenth => exact held_of_onBlock (held_whenDish (by simp) _) h
  | encoderPulse => exact held_of_onBlock (held_whenDish (by simp) _) h
  | entrySensor => exact held_of_onBlock (held_whenDish (by simp) _) h
  | exitSensor => exact held_of_onBlock (held_whenDish (by simp) _) h
  | radioStatusRecord ready => exact held_of_onBlock (by simp) h
  | radioStatusTimeout => exact held_of_onBlock (by simp) h
  | sendRecord => exact held_of_onBlock (by simp) h
  | takenRecord kind subject generation => exact held_of_onBlock (by simp) h
  | sendTimeout => exact held_of_onBlock (by simp) h
  | radioAckRecord kind subject generation => exact held_of_onBlock (by simp) h
  | badRadioRecord => exact held_of_onBlock rfl h
  | gapEnd => exact held_of_onBlock (by simp) h
  | slotStart lineAtRest => exact held_of_onBlock (by simp) h
  | lineActivitySeen => exact held_of_onBlock (by simp) h
  | transmissionComplete => exact held_of_onBlock (by simp) h
  | collision => exact held_of_onBlock (by simp) h
  | corruptFrame cause => exact held_of_onBlock (by simp) h
  | unknownFrame source kind sequence body => exact held_of_onBlock (held_receive _ _ _ _ _) h
  | demandFrame source sequence body => exact held_of_onBlock (held_receive _ _ _ _ _) h
  | courseFrame source sequence body => exact held_of_onBlock (held_receive _ _ _ _ _) h
  | shiftFrame source sequence body => exact held_of_onBlock (held_receive _ _ _ _ _) h
  | pageRaiseFrame source sequence body => exact held_of_onBlock (held_receive _ _ _ _ _) h
  | pageAckFrame source sequence body => exact held_of_onBlock (held_receive _ _ _ _ _) h
  | pageClearFrame source sequence body => exact held_of_onBlock (held_receive _ _ _ _ _) h
  | transferCutShort => exact held_of_onBlock rfl h
  | lineSeenActiveWhileSeeking => exact held_of_onBlock (by simp) h
  | _ => cases hc

/-- Only the end of a settings write changes the stored block. -/
theorem Effect.stored {c : Instr} {b b' : Block} (h : Effect c b b') :
    b'.store.block = b.store.block ∨ (c = .settingsWriteDone ∧ b' = writeDone b) := by
  cases h with
  | start _ _ _ stored => exact .inl stored
  | initStep _ _ _ stored => exact .inl stored
  | round _ _ _ _ stored => exact .inl stored
  | entersLocal _ _ _ _ stored => exact .inl stored
  | demand _ _ _ _ _ _ stored => exact .inl stored
  | written hc hb => exact .inr ⟨hc, hb⟩
  | rests h => exact .inl h.stored

/-- The end of a settings write stores the block that was being written, where there was one. -/
theorem writeDone_stored (b : Block) :
    (writeDone b).store.block = b.store.block ∨
      ∃ w, b.store.writing = some w ∧ (writeDone b).store.block = w.block := by
  unfold writeDone
  split
  · rename_i w hw
    exact .inr ⟨w, hw, rfl⟩
  · exact .inl rfl

/-- Settles O58: the port by each command, the store by the effects. -/
theorem portAndStoreChangeByTheirCommandsOnly : Obligations.PortAndStoreChangeByTheirCommandsOnly := by
  intro s s' c rest hp h
  have hexec : exec c { s with pending := rest } = .next s' := by rwa [step, hp] at h
  refine ⟨fun hc => ?_, fun hne => ?_⟩
  · have hheld := exec_held hc hexec
    simp only [Block.held, Prod.mk.injEq] at hheld
    exact hheld
  · obtain hsame | ⟨rfl, hb⟩ := (exec_effect _ _ _ hexec).stored
    · exact absurd hsame hne
    · obtain hsame | hwritten := writeDone_stored s.block
      · exact absurd (hb ▸ hsame) hne
      · exact ⟨rfl, hb ▸ hwritten⟩

end Sys2Proof.Machine
end

section
/-! PROOFS. The outputs (R137, R163, R172), the gates of the appliance port (R169) and the settings write (R175). -/

namespace Sys2Proof.Machine

/-! ## The outputs -/

theorem works_iff (x : StationState) : x.works = true ↔ x ≠ .initial ∧ x ≠ .halted := by cases x <;> decide

theorem apart_iff (x : StationState) : x.apart = true ↔ x = .isolated ∨ x = .localOnly := by cases x <;> decide

theorem runs_iff (b : Block) :
    b.runs = true ↔ b.station.resetHeld = false ∧ b.station.state ≠ .initial ∧ b.station.state ≠ .halted := by
  simp [Block.runs, works_iff]

theorem lights_iff (apart : Bool) (e : PageEntry) :
    e.lights apart = true ↔ e.clearDue = false ∧ ((e.state = .raised ∧ 1 ≤ e.level) ∨ apart = true) := by
  simp [PageEntry.lights, or_comm]

theorem lamp_iff (b : Block) :
    b.lamp = true ↔ b.runs = true ∧ ∃ i e, pageAt i b = some e ∧ e.lights b.station.state.apart = true := by
  simp only [Block.lamp, Bool.and_eq_true, List.any_eq_true, Option.any_eq_true]
  constructor
  · rintro ⟨hruns, _, hmem, e, rfl, hlights⟩
    obtain ⟨i, hi⟩ := some_mem_table.1 hmem
    exact ⟨hruns, i, e, hi, hlights⟩
  · rintro ⟨hruns, i, e, hi, hlights⟩
    exact ⟨hruns, some e, some_mem_table.2 ⟨i, hi⟩, e, rfl, hlights⟩

/-- Settles O3: each output read from its definition. -/
theorem outputsFollowTheState : Obligations.OutputsFollowTheState := by
  intro b
  refine ⟨?_, by simp [Block.interrupt], ?_⟩
  · simp only [lamp_iff, runs_iff, lights_iff, apart_iff, and_assoc]
  · have hdish : b.dishRuns = true ↔ b.station.resetHeld = false ∧ b.station.state ≠ .initial ∧
        b.station.state ≠ .halted ∧ b.cfg.kind = .dish := by
      rw [Block.dishRuns, Bool.and_eq_true, runs_iff, decide_eq_true_iff, and_assoc, and_assoc]
    have hmoves : b.conveyor.state.moves = true ↔ b.conveyor.state = .running ∨ b.conveyor.state = .slowed := by
      cases b.conveyor.state <;> decide
    have hadvance : b.conveyor.advance.isSome = true ↔ b.conveyor.advance ≠ none := Option.isSome_iff_ne_none
    simp only [Block.motor, hdish, hmoves, hadvance]

/-! ## The gates of the appliance port (R169) -/

/-- A command refused: the old response delivered, the reason in the slot, the number one on. -/
theorem conclude_error (code : Nat) (r : Reason) (b : Block) : refusedWith code r b (conclude code (.error r) (deliver b)) := by
  simp [refusedWith, answeredWith, eventsStand, changesOnly_iff, conclude, answer, numbered8]

/-- A transfer that a gate stops refuses its command with the gate's reason. -/
theorem completes_refused {c : Instr} {s : State} {code : Nat} {bad : Bool} {gate : StateGate} {dish : Bool}
    {own : Block → Answer} {r : Reason} (hc : exec c s = onBlock (transfer code bad gate dish own) s)
    (hp : s.block.portAnswers = true) (hg : gates bad gate dish own (deliver s.block) = .error r) :
    completes c s fun b => refusedWith code r s.block b := by
  refine completes_of _ hc ?_
  rw [transfer, if_pos hp]
  simp only [hg]
  exact conclude_error code r s.block

/-- Gate 2: a command of the working states in INIT or HALTED. -/
theorem completes_wrongState {c : Instr} {s : State} {code : Nat} {bad dish : Bool} {own : Block → Answer}
    (hbad : bad = false) (hp : s.block.portAnswers = true) (hw : s.block.station.state.works = false)
    (hc : exec c s = onBlock (transfer code bad .working dish own) s) :
    completes c s fun b => refusedWith code .wrongState s.block b :=
  completes_refused hc hp (by simp [gates, hbad, StateGate.passes, hw])

/-- Settles O36: the transfer without a command by its definition, the refusals by the gates. -/
theorem gatesRefuseWithoutEffect : Obligations.GatesRefuseWithoutEffect := by
  intro s hp
  refine ⟨completes_of emptyTransfer rfl ?_, fun code _ => completes_refused rfl hp rfl, fun hw => ?_,
    fun hw block hlength => ?_⟩
  · rw [emptyTransfer, if_pos hp]
    simp [changesOnly_iff]
  · have hgate2 {c : Instr} {code : Nat} {dish : Bool} {own : Block → Answer}
        (hc : exec c s = onBlock (transfer code false .working dish own) s) :
        completes c s fun b => refusedWith code .wrongState s.block b := completes_wrongState rfl hp hw hc
    refine ⟨?_, fun tag => ?_, fun selector hselector => completes_wrongState (by simpa using hselector) hp hw rfl,
      fun content rack mask p q r u m n lead => ?_⟩
    all_goals
      simp only [gatedCommands, List.forall_mem_cons, List.not_mem_nil, false_imp_iff, implies_true, and_true]
      and_intros
    all_goals exact hgate2 rfl
  · refine completes_of (writeSettings block) rfl ?_
    have hg : gates (decide (block.length ≠ Config.blockBytes)) .atRest false (fun x => .ok (x, [])) (deliver s.block) =
        .error .wrongState := by simp [gates, hlength, Config.blockBytes, StateGate.passes, hw]
    simp only [writeSettings, hp, hg]
    exact conclude_error 27 .wrongState s.block

/-! ## The settings write (R38, R175) -/

/-- Settles O47: the write begun and the write ended, each by its definition. -/
theorem settingsAreWrittenWhole : Obligations.SettingsAreWrittenWhole := by
  refine fun s => ⟨fun block hp hw hlength => completes_of (writeSettings block) rfl ?_,
    fun w hwriting => completes_of writeDone rfl ?_⟩
  · have hg : gates (decide (block.length ≠ Config.blockBytes)) .atRest false (fun x => .ok (x, [])) (deliver s.block) =
        .ok (deliver s.block, []) := by simp [gates, hlength, Config.blockBytes, StateGate.passes, hw]
    simp only [writeSettings, hp, hg]
    simp [changesOnly_iff, numbered8, next8, Block.portAnswers]
  · simp [writeDone, hwriting, answer, changesOnly_iff]

end Sys2Proof.Machine
end

section
/-! PROOFS. The change of station state that a round decides (R40 to R42, R44, R46). -/

namespace Sys2Proof.Machine

/-! ## Station Control's part of a round -/

/-- Station Control decides the station state of a round, by the peers left after aging. -/
theorem endRound_beforeShare_station (b : Block) :
    (endRound (beforeShare b)).station = (controlRound (agePeers b)).station := by
  simp [endRound_station, beforeShare]

theorem enterIsolated_offered {r : EntryReason} {s b : Block} (h : EventsGrow s b) :
    offered (.stateChange b.station.state .isolated r) s (enterIsolated r b) := by
  have hoffer := changeState_offered .isolated r (b.onStation fun s => { s with shortRun := 0, goodRun := 0 })
  exact offered_of_grows (h.trans (.of_port rfl rfl)) (offered_mono hoffer (.of_port rfl rfl))

theorem enterActive_offered {r : EntryReason} {s b : Block} (h : EventsGrow s b) :
    offered (.stateChange b.station.state .active r) s (enterActive r b) := by
  have hoffer := changeState_offered .active r (b.onStation fun s => { s with shortRun := 0, goodRun := 0 })
  exact offered_of_grows (h.trans (.of_port rfl rfl)) hoffer

/-- Station Control counts the round, and then may enter ACTIVE or ISOLATED. -/
theorem controlRound_cases (b : Block) : ∃ c : Block, c.station.state = b.station.state ∧ EventsGrow b c ∧
    (controlRound b = c ∨ (∃ r, controlRound b = enterActive r c) ∨ ∃ r, controlRound b = enterIsolated r c) := by
  have hcount {f : Station → Station} (hs : (f b.station).state = b.station.state)
      (hc : (f b.station).clock = b.station.clock) (h : controlRound b = b.onStation f ∨
        (∃ r, controlRound b = enterActive r (b.onStation f)) ∨ ∃ r, controlRound b = enterIsolated r (b.onStation f)) :
      ∃ c : Block, c.station.state = b.station.state ∧ EventsGrow b c ∧
        (controlRound b = c ∨ (∃ r, controlRound b = enterActive r c) ∨ ∃ r, controlRound b = enterIsolated r c) :=
    ⟨b.onStation f, hs, .of_port hc rfl, h⟩
  cases hs : b.station.state with
  | listen =>
    rw [← hs]
    refine hcount (f := fun s => { s with listenRounds := b.station.listenRounds + 1 }) rfl rfl ?_
    simp only [controlRound, hs]
    split
    · split
      · exact .inr (.inl ⟨_, rfl⟩)
      · exact .inr (.inr ⟨_, rfl⟩)
    · exact .inl rfl
  | active =>
    rw [← hs]
    refine hcount (f := fun s => { s with shortRun := if enoughPeers b then 0 else b.station.shortRun + 1 }) rfl rfl ?_
    simp only [controlRound, hs]
    by_cases hn : (if enoughPeers b then 0 else b.station.shortRun + 1) = 3
    · rw [if_pos hn]
      exact .inr (.inr ⟨_, rfl⟩)
    · rw [if_neg hn]
      exact .inl rfl
  | isolated =>
    rw [← hs]
    refine hcount (f := fun s => { s with goodRun := if enoughPeers b then b.station.goodRun + 1 else 0 }) rfl rfl ?_
    simp only [controlRound, hs]
    by_cases hn : (if enoughPeers b then b.station.goodRun + 1 else 0) = 2
    · rw [if_pos hn]
      exact .inr (.inl ⟨_, rfl⟩)
    · rw [if_neg hn]
      exact .inl rfl
  | initial | localOnly | halted => exact ⟨b, hs, .refl b, .inl (by simp [controlRound, hs])⟩

/-- A change of station state places its event (R46). -/
theorem controlRound_offered {b : Block} (h : (controlRound b).station.state ≠ b.station.state) :
    offered (.stateChange b.station.state (controlRound b).station.state (controlRound b).station.reason) b
      (controlRound b) := by
  obtain ⟨c, hstate, hgrows, hc | ⟨r, hc⟩ | ⟨r, hc⟩⟩ := controlRound_cases b
  · exact absurd (hc ▸ hstate) h
  · rw [hc, enterActive_station, ← hstate]
    exact enterActive_offered hgrows
  · rw [hc, enterIsolated_station, ← hstate]
    exact enterIsolated_offered hgrows

theorem controlRound_signature (b : Block) : (controlRound b).station.signature = b.station.signature := by
  unfold controlRound
  dsimp only
  repeat' split
  all_goals simp

/-- The fresh peers at the end of a round are those that Station Control counted (R30, R40). -/
theorem round_freshPeers (b : Block) : (endRound (beforeShare b)).freshPeers = (agePeers b).freshPeers := by
  simp only [Block.freshPeers, endRound_peers, beforeShare_peers, endRound_beforeShare_station, controlRound_signature,
    agePeers_peers]
  rfl

theorem enoughPeers_agePeers (b : Block) :
    enoughPeers (agePeers b) = decide (b.cfg.minPeers ≤ (endRound (beforeShare b)).freshPeers) := by
  rw [round_freshPeers, enoughPeers, Block.cfg, agePeers_station, Block.cfg]

/-! ## The station after Station Control's part, by state -/

theorem controlRound_listen {b : Block} (h : b.station.state = .listen) : (controlRound b).station =
    if b.station.listenRounds + 1 = 4 then
      { b.station with
        state := if enoughPeers b then .active else .isolated,
        reason := if enoughPeers b then .peersPresent else .peersAbsent,
        listenRounds := b.station.listenRounds + 1, shortRun := 0, goodRun := 0 }
    else { b.station with listenRounds := b.station.listenRounds + 1 } := by
  have henough : enoughPeers (b.onStation fun s => { s with listenRounds := b.station.listenRounds + 1 }) = enoughPeers b :=
    rfl
  simp only [controlRound, h, henough]
  split
  · split <;> simp
  · simp [h]

theorem controlRound_active {b : Block} (h : b.station.state = .active) : (controlRound b).station =
    if enoughPeers b = false ∧ b.station.shortRun + 1 = 3 then
      { b.station with state := .isolated, reason := .peersLost, shortRun := 0, goodRun := 0 }
    else { b.station with shortRun := if enoughPeers b then 0 else b.station.shortRun + 1 } := by
  simp only [controlRound, h]
  cases enoughPeers b <;> by_cases hn : b.station.shortRun + 1 = 3 <;> simp [hn, h]

theorem controlRound_isolated {b : Block} (h : b.station.state = .isolated) : (controlRound b).station =
    if enoughPeers b = true ∧ b.station.goodRun + 1 = 2 then
      { b.station with state := .active, reason := .peersRegained, shortRun := 0, goodRun := 0 }
    else { b.station with goodRun := if enoughPeers b then b.station.goodRun + 1 else 0 } := by
  simp only [controlRound, h]
  cases enoughPeers b <;> by_cases hn : b.station.goodRun + 1 = 2 <;> simp [hn, h]

/-- A round that ends in ISOLATED leaves the grant under the safe allowance (R17). -/
theorem round_isolated_grant {b : Block} (h : (endRound (beforeShare b)).station.state = .isolated) :
    (endRound (beforeShare b)).share.applied ≤ b.cfg.safeAllowance := by
  have hstate : (beforeShare b).station.state = .isolated := by rwa [endRound_station] at h
  have hwithin := shareRound_grantWithin (beforeShare b) (by rw [hstate]; rfl)
  have hcfg : (shareRound (beforeShare b)).cfg = b.cfg := by
    rw [← beforeShare_cfg b, Block.cfg, shareRound_station, Block.cfg]
  rw [grantWithin, shareRound_station, hstate] at hwithin
  rw [endRound_share, ← hcfg]
  simpa using hwithin

/-- Settles O12: the event by the change Station Control makes, the figures by its part in each state. -/
theorem roundDecidesStationState : Obligations.RoundDecidesStationState := by
  intro s hr ha
  have hstation := endRound_beforeShare_station s.block
  have henough := enoughPeers_agePeers s.block
  have haged := agePeers_station s.block
  have hend : EventsGrow (controlRound (agePeers s.block)) (endRound (beforeShare s.block)) :=
    ((Notices.refl _).decideElection.pruneParticipants).toEventsGrow.trans (shareEnd_acts _).onward.toEventsGrow
  refine completes_round hr ha ⟨fun hne => ?_, ?_⟩
  · rw [hstation] at hne ⊢
    rw [← haged] at hne ⊢
    exact offered_mono (offered_of_grows (Notices.refl _).agePeers.toEventsGrow (controlRound_offered hne)) hend
  · generalize hb : endRound (beforeShare s.block) = b at *
    cases hs : s.block.station.state with
    | listen =>
      rw [controlRound_listen (by rw [haged, hs]), haged, henough] at hstation
      by_cases hn : s.block.station.listenRounds + 1 = 4 <;> by_cases hp : s.block.cfg.minPeers ≤ b.freshPeers <;>
        simp [hstation, hn, hp, hs]
    | active =>
      rw [controlRound_active (by rw [haged, hs]), haged, henough] at hstation
      dsimp only
      split
      · rename_i hshort
        rw [if_pos ⟨by simpa using hshort.1, hshort.2⟩] at hstation
        refine ⟨by rw [hstation], by rw [hstation], by rw [hstation], by rw [hstation], ?_⟩
        exact hb ▸ round_isolated_grant (by rw [hb, hstation])
      · rename_i hlong
        rw [if_neg (by simpa using hlong)] at hstation
        by_cases hp : b.freshPeers < s.block.cfg.minPeers <;> simp [hstation, hs, ← Nat.not_lt, hp]
    | isolated =>
      rw [controlRound_isolated (by rw [haged, hs]), haged, henough] at hstation
      dsimp only
      split
      · rename_i hgood
        rw [if_pos ⟨by simpa using hgood.1, hgood.2⟩] at hstation
        simp [hstation]
      · rename_i hbad
        rw [if_neg (by simpa using hbad)] at hstation
        simp [hstation, hs]
    | localOnly =>
      rw [controlRound_of_local (by rw [haged, hs]), haged] at hstation
      exact hstation
    | initial | halted =>
      simp [runs_iff, hs] at hr

end Sys2Proof.Machine
end

section
/-! PROOFS. A DEMAND (R25, R26, R29, R31, R59, R63): its sender's entry, the frame counters, the pages it reports resolved
and the frames it withdraws. -/

namespace Sys2Proof.Machine

/-! ## The sender's entry (R25) -/

theorem find_putPeer_self {p : Peer} {id : Nat} (h : p.id = id) (ps : List Peer) :
    (putPeer p ps).find? (fun x => x.id = id) = some p := by
  subst h
  induction ps with
  | nil => simp [putPeer]
  | cons x rest ih =>
    unfold putPeer
    split_ifs with hlt heq
    · simp
    · simp
    · rw [List.find?_cons_of_neg (by simpa using Ne.symm heq), ih]

theorem find_putPeer_of_ne {p : Peer} {other : Nat} (h : other ≠ p.id) (ps : List Peer) :
    (putPeer p ps).find? (fun x => x.id = other) = ps.find? fun x => x.id = other := by
  have hp : p.id ≠ other := Ne.symm h
  induction ps with
  | nil => simp [putPeer, hp]
  | cons x rest ih =>
    unfold putPeer
    split_ifs with hlt heq
    · simp [hp]
    · simp [hp, ← heq]
    · rw [List.find?_cons, List.find?_cons, ih]

/-! ## The counters of the line that page acts leave (R60, R63) -/

/-- Frames received and sequence gaps. -/
def Block.heardCounters (b : Block) : Nat × Nat := (b.port.counters.framesReceived, b.port.counters.sequenceGaps)

theorem heardCounters_of_port {b b' : Block} (h : b'.port = b.port) : b'.heardCounters = b.heardCounters := by
  rw [Block.heardCounters, h, Block.heardCounters]

@[simp] theorem offer_heardCounters (e : EventBody) (b : Block) : (offer e b).heardCounters = b.heardCounters := by
  simp [Block.heardCounters]

@[simp] theorem onPages_heardCounters (f : Pages → Pages) (b : Block) : (b.onPages f).heardCounters = b.heardCounters := rfl

@[simp] theorem setPage_heardCounters (i : Nat) (e : Option PageEntry) (b : Block) :
    (setPage i e b).heardCounters = b.heardCounters := rfl

@[simp] theorem setMemory_heardCounters (c : Cause) (r : MemRecord) (b : Block) :
    (setMemory c r b).heardCounters = b.heardCounters := rfl

@[simp] theorem unlist_heardCounters (c : Cause) (b : Block) : (unlist c b).heardCounters = b.heardCounters := rfl

@[simp] theorem placeSend_heardCounters (c : Cause) (b : Block) : (placeSend c b).heardCounters = b.heardCounters :=
  heardCounters_of_port (by simp)

@[simp] theorem queuePage_heardCounters (f : PageFrame) (b : Block) :
    (queuePage f b).2.heardCounters = b.heardCounters := by
  unfold queuePage
  repeat' split
  all_goals rfl

@[simp] theorem makeEntry_heardCounters (i : Nat) (w : Waiting) (b : Block) :
    (makeEntry i w b).heardCounters = b.heardCounters := by
  have hcount : ∀ c : Block, (count .pagesRaised c).heardCounters = c.heardCounters := fun _ => rfl
  simp [makeEntry, hcount, pageEvent]

@[simp] theorem enterRetry_heardCounters (b : Block) : (enterRetry b).heardCounters = b.heardCounters := by
  unfold enterRetry
  split <;> simp

theorem joinRetry_heardCounters (c : Cause) (p l : Nat) (b : Block) : (joinRetry c p l b).1.heardCounters = b.heardCounters := by
  unfold joinRetry
  repeat' split
  · rfl
  · rfl
  · exact offer_heardCounters _ _

@[simp] theorem raise_heardCounters (k : CauseKind) (n : Nat) (b : Block) : (raise k n b).heardCounters = b.heardCounters := by
  unfold raise raiseWith
  repeat' split
  · rfl
  · simp
  · exact joinRetry_heardCounters _ _ _ _

@[simp] theorem removeEntry_heardCounters (i : Nat) (e : PageEntry) (g : Nat) (b : Block) :
    (removeEntry i e g b).heardCounters = b.heardCounters := by simp [removeEntry, removedEvent]

@[simp] theorem offerClear_heardCounters (i : Nat) (e : PageEntry) (b : Block) :
    (offerClear i e b).heardCounters = b.heardCounters := by
  unfold offerClear
  dsimp only
  split <;> simp

@[simp] theorem resolved_heardCounters (k : CauseKind) (n : Nat) (b : Block) :
    (resolved k n b).heardCounters = b.heardCounters := by
  unfold resolved resolve
  repeat' split
  all_goals simp

@[simp] theorem adoptPage_heardCounters (l : Nat) (c : Cause) (b : Block) : (adoptPage l c b).heardCounters = b.heardCounters := by
  unfold adoptPage
  dsimp only
  repeat' split
  all_goals simp [pageEvent]

@[simp] theorem orphanPages_heardCounters (l : Nat) (x : Option Nat) (b : Block) :
    (orphanPages l x b).heardCounters = b.heardCounters := by
  unfold orphanPages
  split
  · exact foldl_keeps Block.heardCounters _ _ fun b c => adoptPage_heardCounters l c b
  · rfl

@[simp] theorem decideElection_heardCounters (b : Block) : (decideElection b).heardCounters = b.heardCounters :=
  heardCounters_of_port (by simp)

@[simp] theorem evalReady_heardCounters (i : Nat) (b : Block) : (evalReady i b).heardCounters = b.heardCounters := by
  have hset : ∀ (c : Course) (b : Block), (setCourse i (some c) b).heardCounters = b.heardCounters := fun _ _ => rfl
  unfold evalReady
  dsimp only
  repeat' split
  all_goals simp [hset]

@[simp] theorem evalAllReady_heardCounters (b : Block) : (evalAllReady b).heardCounters = b.heardCounters :=
  foldl_keeps Block.heardCounters _ _ fun b i => evalReady_heardCounters i b

/-! ## A resolution report with room in the PAGE queue (R154) -/

/-- No page and no waiting raise is of the cause. -/
structure Absent (c : Cause) (b : Block) : Prop where
  table : ∀ j x, pageAt j b = some x → x.cause ≠ c
  retry : c ∉ waits b

section
variable {news : Cause → Prop} {lost : Nat → Prop} {gone : PageEntry → Prop} {b b' : Block}

/-- A cause that is not raised stays absent. -/
theorem PageActs.absent (h : PageActs news lost gone b b') {c : Cause} (hn : ¬news c) (hb : Absent c b) : Absent c b' :=
  h.keeps (P := Absent c) (fun _ hact hold => by
    refine ⟨fun j x hx hc => ?_, fun hw => (hact.waits_from hw).elim hold.retry hn⟩
    obtain ⟨y, hy, hstays⟩ | ⟨_, _, hnew | ⟨_, hw⟩⟩ := hact.comes_from hx
    · exact hold.table j y hy (hstays.cause.symm.trans hc)
    · exact hn (hc ▸ hnew)
    · exact hold.retry (hc ▸ hw)) hb

theorem Absent.heldPage {c : Cause} (h : Absent c b) : heldPage c b = none := by
  rw [Machine.heldPage, pageIndex_eq_none.2 h.table]
  rfl

/-- The page of an entry is at its slot, alone of its cause, and no raise of the cause waits. -/
structure OnlyPage (i : Nat) (e : PageEntry) (b : Block) : Prop where
  here : ∃ x, pageAt i b = some x ∧ x.cause = e.cause ∧ x.generation = e.generation ∧ x.level = e.level ∧ x.owner = e.owner
  only : ∀ j x, pageAt j b = some x → x.cause = e.cause → j = i
  retry : e.cause ∉ waits b

/-- Acts that neither raise its cause nor clear it leave the only page of it. -/
theorem PageActs.onlyPage {i : Nat} {e : PageEntry} (h : PageActs news (fun _ => False) gone b b') (hn : ¬news e.cause)
    (hg : ∀ x, gone x → x.cause ≠ e.cause) (hb : OnlyPage i e b) : OnlyPage i e b' :=
  h.keeps (P := OnlyPage i e) (fun _ hact hold => by
    obtain ⟨x, hx, hcause, hgeneration, hlevel, howner⟩ := hold.here
    refine ⟨?_, fun j y hy hc => ?_, fun hw => (hact.waits_from hw).elim hold.retry hn⟩
    · obtain ⟨x', hx', hstays⟩ | ⟨hgone, _⟩ := hact.goes_to hx
      · exact ⟨x', hx', hstays.cause.trans hcause, hstays.generation.trans hgeneration, hstays.level.trans hlevel,
          (hstays.owner.resolve_right fun h => h.1.elim).trans howner⟩
      · exact absurd hcause (hg x hgone)
    · obtain ⟨z, hz, hstays⟩ | ⟨_, _, hnew | ⟨_, hw⟩⟩ := hact.comes_from hy
      · exact hold.only j z hz (hstays.cause.symm.trans hc)
      · exact absurd (hc ▸ hnew) hn
      · exact absurd (hc ▸ hw) hold.retry) hb

/-- With room in the PAGE queue the report queues the CLEAR and leaves no page of the cause (R154). -/
theorem OnlyPage.resolve {i : Nat} {e : PageEntry} (h : OnlyPage i e b) (ho : e.owner = b.station.strapId)
    (ht : b.lineTakes = true) (hroom : b.line.pageQueue.length < 8) :
    clearSent e b (resolve e.cause b) ∧ Absent e.cause (resolve e.cause b) := by
  obtain ⟨x, hx, hcause, hgeneration, hlevel, howner⟩ := h.here
  have hlocate : locatePage e.cause b = some (i, x) :=
    locatePage_eq_some.2 ⟨hx, hcause, fun j hj y hy hyc => absurd (h.only j y hy hyc) (by omega)⟩
  have hstrap : x.owner = b.station.strapId := howner.trans ho
  have hqueued : queuePage (clearFrame x.cause x.generation) b =
      (true, b.onLine fun l => { l with pageQueue := l.pageQueue ++ [clearFrame x.cause x.generation] }) := by
    simp [queuePage, ht, Config.pagePlaces, hroom]
  set q := b.onLine fun l => { l with pageQueue := l.pageQueue ++ [clearFrame x.cause x.generation] } with hq
  have hon : Onward b q := ⟨.of_port rfl rfl, List.prefix_append _ _, rfl, rfl⟩
  have htaken : Machine.resolve e.cause b = enterRetry (takenOut i x x.generation q) := by
    rw [Machine.resolve, hlocate]
    dsimp only
    rw [if_pos (show x.owner = b.id from hstrap), offerClear, hqueued]
    rfl
  have hretry : PageActs (fun _ => False) (fun _ => False) (fun _ => True) (takenOut i x x.generation q)
      (enterRetry (takenOut i x x.generation q)) := enterRetry_acts ⟨e, trivial⟩ _
  have hout := takenOut_onward i x x.generation q
  obtain ⟨htable, hwaits⟩ := takenOut_pages i x x.generation q
  have hsent : clearSent e b (takenOut i x x.generation q) := by
    have hevent := takenOut_offered i x x.generation q
    refine ⟨fun _ => hout.frames.subset ?_, ?_⟩
    · rw [← hcause, ← hgeneration]
      simp [hq]
    · rw [← ho, ← hcause, ← hgeneration, ← hlevel, ← howner]
      exact offered_of_grows hon.toEventsGrow hevent
  rw [htaken]
  refine ⟨clearSent_mono hsent hretry.onward, hretry.absent (fun h => h) ⟨fun j y hy hyc => ?_, ?_⟩⟩
  · obtain ⟨_, hnone⟩ | hold := pageAt_of_set htable hy
    · cases hnone
    · obtain rfl := h.only j y hold hyc
      rw [pageAt_of_set_self htable (pageAt_lt hold)] at hy
      cases hy
  · rw [hwaits]
    exact h.retry

/-- A cause held stays held where no page of it is cleared. -/
theorem PageActs.stillHeld (h : PageActs news lost gone b b') {c : Cause} (hg : ∀ e, gone e → e.cause ≠ c)
    (hb : Machine.causeHeld c b = true) : Machine.causeHeld c b' = true :=
  h.keeps (P := fun b => Machine.causeHeld c b = true) (fun _ hact hheld => by
    rw [causeHeld_iff] at hheld ⊢
    obtain ⟨i, e, he, hc⟩ | hw := hheld
    · obtain ⟨x, hx, hstays⟩ | ⟨hgone, _⟩ := hact.goes_to he
      · exact .inl ⟨i, x, hx, hstays.cause.trans hc⟩
      · exact absurd hc (hg e hgone)
    · exact (hact.waits_to hw).symm) hb

end

theorem queuePage_length (f : PageFrame) (b : Block) :
    (queuePage f b).2.line.pageQueue.length ≤ b.line.pageQueue.length + 1 := by
  obtain ⟨_, _, h⟩ | ⟨_, _, h⟩ | ⟨_, h⟩ := queuePage_cases f b <;> rw [h]
  · simp
  · simp
  · exact Nat.le_succ _

theorem enterRetry_length (b : Block) : (enterRetry b).line.pageQueue.length ≤ b.line.pageQueue.length + 1 := by
  unfold enterRetry
  split
  · simp only [makeEntry, placeSend_line]
    refine (queuePage_length _ _).trans ?_
    simp [pageEvent, setPage, setMemory]
  · exact Nat.le_succ _

/-- A resolution report queues a CLEAR and the RAISE of the retry head, at the most (R153, R154). -/
theorem resolve_length (c : Cause) (b : Block) :
    (resolve c b).line.pageQueue.length ≤ b.line.pageQueue.length + 2 := by
  unfold resolve
  split
  · rename_i i e _
    split
    · have hqueued := queuePage_length (clearFrame e.cause e.generation) b
      unfold offerClear
      dsimp only
      split
      · refine (enterRetry_length _).trans ?_
        simpa [removedEvent, setPage, setMemory] using hqueued
      · refine Nat.le_succ_of_le ?_
        simpa [setPage] using hqueued
    · omega
  · omega

/-! ## The DEMAND's acts in order (R25, R29, R31, R63) -/

/-- The part with the sender's entry placed and the gap counted (R25, R63). -/
def demandPlaced (i x : Nat) (d : Demand) (b : Block) : Block :=
  (countBy .sequenceGaps ((findPeer i b).elim 0 fun p => sequenceGap p.lastSequence x) b).onPeers
    (putPeer (heardPeer i x d b))

/-- The part after the sender's signature was judged (R29, R31). -/
def demandJudged (i x : Nat) (d : Demand) (b : Block) : Block :=
  judgeSignature i d.signature (resolved .stationLost i (demandPlaced i x d b))

/-- The frame is the first after a restart of a STALE sender (R63). -/
def demandRestarts (i x : Nat) (b : Block) : Bool := decide (x = 0) && (findPeer i b).any fun p => !p.fresh

/-- The part with the pages of a restarted sender handed on and the election decided (R63, R159). -/
def demandSettled (i x : Nat) (d : Demand) (b : Block) : Block :=
  let judged := demandJudged i x d b
  let adopted := if demandRestarts i x b then orphanPages i (some i) judged else judged
  if d.kind = .base then decideElection adopted else adopted

theorem heardDemand_eq (i x : Nat) (d : Demand) (b : Block) :
    heardDemand i x d b = evalAllReady (demandSettled i x d b) := rfl

theorem judgeSignature_heardCounters (i : Nat) (g : Word16) (b : Block) :
    (judgeSignature i g b).heardCounters = b.heardCounters := by
  unfold judgeSignature
  split <;> simp

theorem heardDemand_heardCounters (i x : Nat) (d : Demand) (b : Block) :
    (heardDemand i x d b).heardCounters = (demandPlaced i x d b).heardCounters := by
  rw [heardDemand_eq, demandSettled, demandJudged]
  split <;> split <;> simp [judgeSignature_heardCounters]

theorem demandPlaced_onward (i x : Nat) (d : Demand) (b : Block) : Onward b (demandPlaced i x d b) :=
  .of_notices ((Notices.refl b).trans ⟨countBy_grows _ _ b, List.prefix_refl _, rfl, rfl⟩ |>.same rfl rfl rfl) rfl

theorem demandPlaced_pages (i x : Nat) (d : Demand) (b : Block) : (demandPlaced i x d b).pages = b.pages := rfl

theorem demandRest_notices (i x : Nat) (d : Demand) (b : Block) :
    Notices (resolved .stationLost i (demandPlaced i x d b)) (heardDemand i x d b) := by
  have hjudged : Notices (resolved .stationLost i (demandPlaced i x d b)) (demandJudged i x d b) := by
    unfold demandJudged judgeSignature
    split
    · exact (Notices.refl _).resolved
    · exact (Notices.refl _).raise
  have hsettled : Notices (demandJudged i x d b) (demandSettled i x d b) := by
    unfold demandSettled
    dsimp only
    split
    · exact (Notices.ite (Notices.refl _).orphanPages (.refl _)).decideElection
    · exact Notices.ite (Notices.refl _).orphanPages (.refl _)
  exact (hjudged.trans hsettled).evalAllReady

theorem heardDemand_notices (i x : Nat) (d : Demand) (b : Block) : Notices b (heardDemand i x d b) := by
  have hplaced : Notices b (demandPlaced i x d b) :=
    (Notices.refl b).trans ⟨countBy_grows _ _ b, List.prefix_refl _, rfl, rfl⟩ |>.same rfl rfl rfl
  exact (hplaced.resolved (k := .stationLost) (n := i)).trans (demandRest_notices i x d b)

/-- From the judged signature to the DEMAND's end, an ACKED page of a restarted sender may be cleared (R63, R158). -/
theorem demandEnd_acts (i x : Nat) (d : Demand) (b : Block) :
    PageActs (fun c => c.kind = .courseReady) (· = i) (fun e => demandRestarts i x b = true ∧ e.state = .acked)
      (demandJudged i x d b) (heardDemand i x d b) := by
  have hdecide : ∀ c : Block, PageActs (fun c => c.kind = .courseReady) (· = i)
      (fun e => demandRestarts i x b = true ∧ e.state = .acked) c (decideElection c) := fun c =>
    .of_pages (.of_notices (Notices.refl c).decideElection (by simp)) (by simp)
  have hsettled : PageActs (fun c => c.kind = .courseReady) (· = i)
      (fun e => demandRestarts i x b = true ∧ e.state = .acked) (demandJudged i x d b) (demandSettled i x d b) := by
    unfold demandSettled
    dsimp only
    split
    · refine PageActs.trans ?_ (hdecide _)
      split
      · rename_i hrestarts
        exact orphanPages_acts (lost := (· = i)) rfl (fun _ hacked _ => ⟨hrestarts, hacked⟩) _ _
      · exact .refl _
    · split
      · rename_i hrestarts
        exact orphanPages_acts (lost := (· = i)) rfl (fun _ hacked _ => ⟨hrestarts, hacked⟩) _ _
      · exact .refl _
  exact hsettled.trans (evalAllReady_acts (fun _ h => h) _)

/-- The report on STATION_LOST clears no page of another cause (R29). -/
theorem demandLost_acts (i x : Nat) (d : Demand) (b : Block) :
    PageActs (fun _ => False) (fun _ => False) (fun e => e.cause = { kind := .stationLost, subject := i }) b
      (resolved .stationLost i (demandPlaced i x d b)) :=
  PageActs.trans (.of_pages (demandPlaced_onward i x d b) (demandPlaced_pages i x d b)) (resolve_acts (fun _ h => h) _)

/-- STATION_LOST of the sender is reported resolved (R29). -/
theorem demand_clears_lost {i x : Nat} {d : Demand} {b : Block} {k : Nat} {e : PageEntry} (h : OnlyPage k e b)
    (hc : e.cause = { kind := .stationLost, subject := i }) (ho : e.owner = b.station.strapId) (ht : b.lineTakes = true)
    (hroom : b.line.pageQueue.length < 6) :
    clearSent e b (heardDemand i x d b) ∧ Absent e.cause (heardDemand i x d b) := by
  have hplaced := demandPlaced_onward i x d b
  have honly : OnlyPage k e (demandPlaced i x d b) := ⟨h.here, h.only, h.retry⟩
  obtain ⟨hsent, habsent⟩ := honly.resolve (ho.trans hplaced.strap.symm) (hplaced.takes.trans ht)
    (show b.line.pageQueue.length < 8 by omega)
  rw [hc] at hsent habsent ⊢
  have hjudged : PageActs (· = { kind := .configMismatch, subject := i }) (fun _ => False) (fun _ => True)
      (resolved .stationLost i (demandPlaced i x d b)) (demandJudged i x d b) := by
    unfold demandJudged judgeSignature
    split
    · exact resolve_acts (fun _ _ => trivial) _
    · exact raise_acts (news := (· = { kind := .configMismatch, subject := i })) rfl _
  have hend := demandEnd_acts i x d b
  refine ⟨clearSent_mono ⟨fun _ => hsent.1 (hplaced.takes.trans ht), ?_⟩ (hjudged.onward.trans hend.onward),
    hend.absent (by simp) (hjudged.absent (by simp) habsent)⟩
  rw [← hplaced.strap]
  exact offered_of_grows hplaced.toEventsGrow hsent.2

/-- With this station's own signature CONFIG_MISMATCH of the sender is reported resolved (R31). -/
theorem demand_clears_mismatch {i x : Nat} {d : Demand} {b : Block} {k : Nat} {e : PageEntry} (h : OnlyPage k e b)
    (hc : e.cause = { kind := .configMismatch, subject := i }) (hsignature : d.signature = b.station.signature)
    (ho : e.owner = b.station.strapId) (ht : b.lineTakes = true) (hroom : b.line.pageQueue.length < 6) :
    clearSent e b (heardDemand i x d b) ∧ Absent e.cause (heardDemand i x d b) := by
  have hlost := demandLost_acts i x d b
  have hlength : (resolved .stationLost i (demandPlaced i x d b)).line.pageQueue.length ≤ b.line.pageQueue.length + 2 :=
    resolve_length _ _
  have honly : OnlyPage k e (resolved .stationLost i (demandPlaced i x d b)) :=
    hlost.onlyPage (fun h => h) (fun y hy => by simp [hy, hc]) h
  obtain ⟨hsent, habsent⟩ := honly.resolve (ho.trans hlost.onward.strap.symm) (hlost.onward.takes.trans ht) (by omega)
  have hjudged : demandJudged i x d b =
      resolved .configMismatch i (resolved .stationLost i (demandPlaced i x d b)) := by
    unfold demandJudged judgeSignature
    rw [if_pos (by simpa [demandPlaced] using hsignature)]
  have hend := demandEnd_acts i x d b
  rw [hjudged] at hend
  rw [hc] at hsent habsent ⊢
  refine ⟨clearSent_mono ⟨fun _ => hsent.1 (hlost.onward.takes.trans ht), ?_⟩ hend.onward, hend.absent (by simp) habsent⟩
  rw [← hlost.onward.strap]
  exact offered_of_grows hlost.onward.toEventsGrow hsent.2

/-- Another signature raises CONFIG_MISMATCH of a sender that did not restart (R31). -/
theorem demand_raises_mismatch {i x : Nat} {d : Demand} {b : Block} (hsignature : d.signature ≠ b.station.signature)
    (hrestarts : demandRestarts i x b = false) :
    raiseMade { kind := .configMismatch, subject := i } b (heardDemand i x d b) := by
  have hlost := demandLost_acts i x d b
  have hjudged : demandJudged i x d b = raise .configMismatch i (resolved .stationLost i (demandPlaced i x d b)) := by
    unfold demandJudged judgeSignature
    rw [if_neg (by simpa [demandPlaced] using hsignature)]
  have hend := demandEnd_acts i x d b
  rw [hjudged] at hend
  obtain hheld | ⟨_, _, hevent⟩ := raise_taken .configMismatch i (resolved .stationLost i (demandPlaced i x d b))
  · exact .inl (hend.stillHeld (by simp [hrestarts]) hheld)
  · exact .inr (offered_mono (offered_of_grows hlost.onward.toEventsGrow hevent) hend.onward.toEventsGrow)

/-! ## The withdrawal (R59) -/

/-- The first entry of a table with a property is the first of its entries that has it. -/
theorem findIdx_bind_eq_find {α : Type} (p : α → Bool) (xs : List (Option α)) :
    ((xs.findIdx? fun e => e.any p).bind fun i => xs.getD i none) = (xs.filterMap id).find? p := by
  induction xs with
  | nil => rfl
  | cons x rest ih =>
    cases x with
    | none =>
      rw [List.filterMap_cons_none rfl, ← ih, List.findIdx?_cons]
      cases List.findIdx? (fun e => Option.any p e) rest <;> simp
    | some a =>
      rw [List.filterMap_cons_some (f := id) (b := a) rfl, List.findIdx?_cons]
      by_cases hp : p a
      · simp [hp]
      · rw [List.find?_cons_of_neg hp, ← ih]
        cases List.findIdx? (fun e => Option.any p e) rest <;> simp [hp]

theorem shiftSuperseded_eq (b : Block) (x : ShiftEntry) : shiftSuperseded b x = shiftOverruled b x := by
  have hfind := findIdx_bind_eq_find (fun c : Course => decide (c.tag = x.tag)) b.plan.courses
  unfold shiftSuperseded shiftOverruled locateCourse courseIndex courseAt
  rw [← hfind]
  cases b.plan.courses.findIdx? fun e => e.any fun c => decide (c.tag = x.tag) with
  | none => rfl
  | some i =>
    simp only [Option.bind_some]
    cases b.plan.courses.getD i none <;> rfl

/-- Of PAGE frames a DEMAND overrules RAISEs alone, by the page table as it stands. -/
theorem pageSuperseded_demand (d : Demand) (b : Block) (f : PageFrame) :
    pageSuperseded (.demand d) b f = overruled none b f := by
  unfold pageSuperseded overruled
  cases f.sub with
  | raise => cases heldPage f.cause b <;> rfl
  | ack => rfl
  | clear => rfl

theorem overruled_of_pages {heard : Option (PageSub × Cause × Nat)} {b b' : Block} (h : b'.pages = b.pages)
    (f : PageFrame) : overruled heard b' f = overruled heard b f := by
  unfold overruled heldPage pageIndex pageAt
  rw [h]

theorem shiftOverruled_of_plan {b b' : Block} (h : b'.plan = b.plan) (x : ShiftEntry) :
    shiftOverruled b' x = shiftOverruled b x := by
  unfold shiftOverruled locateCourse courseIndex courseAt
  rw [h]

/-- The withdrawal after a DEMAND whose acts put PAGE frames at the tail and left the SHIFT queue. -/
theorem withdraw_demand {d : Demand} {s b : Block} (h : Notices s b) : withdrawsOverruled none s (withdraw (.demand d) b) := by
  obtain ⟨added, hadded⟩ := h.frames
  have hpages := overruled_of_pages (heard := none) (show (withdraw (.demand d) b).pages = b.pages from rfl)
  have hplan := shiftOverruled_of_plan (show (withdraw (.demand d) b).plan = b.plan from rfl)
  have hshift : b.line.shiftQueue = s.line.shiftQueue := by rw [h.line_eq]
  refine ⟨⟨added.filter fun f => !overruled none b f, ?_⟩, fun f hf => ?_, ?_⟩
  · simp only [hpages]
    simp only [withdraw, Block.onLine_line, pageSuperseded_demand, ← hadded, List.filter_append]
  · rw [hpages]
    simp only [withdraw, Block.onLine_line, pageSuperseded_demand, List.mem_filter] at hf
    simpa using hf.2
  · simp only [hplan]
    simp only [withdraw, Block.onLine_line, shiftSuperseded_eq, hshift]

/-- A CLEAR waiting is not withdrawn by a DEMAND. -/
theorem clearFrame_mem_withdraw {d : Demand} {c : Cause} {g : Nat} {b : Block} (h : clearFrame c g ∈ b.line.pageQueue) :
    clearFrame c g ∈ (withdraw (.demand d) b).line.pageQueue :=
  List.mem_filter.2 ⟨h, by rw [pageSuperseded_demand]; rfl⟩

/-! ## The frame (R25) -/

/-- The part as a DEMAND of `i` finds it: the sender noted, the frame counted. -/
def demandTaken (i : Nat) (b : Block) : Block :=
  count .framesReceived (b.onLine fun l => { l with lastSender := some i })

theorem receive_demand {source sequence : Byte} {body : List Byte} {d : Demand} {b : Block} (hl : listening b = true)
    (h31 : source.toNat ≤ 31) (hid : source.toNat ≠ b.station.strapId) (hadmits : FrameForm.demand.admits body.length = true)
    (hparse : parseDemand body = some d) : receive source sequence (some .demand) body b =
      setPosition .gap (withdraw (.demand d) (heardDemand source.toNat sequence.toNat d (demandTaken source.toNat b))) := by
  have hlong : ¬(31 < source.toNat ∨ 56 < body.length) := by
    simp only [FrameForm.admits, Bool.or_eq_true, decide_eq_true_eq] at hadmits
    omega
  have hbody : parseBody .demand body = some (.demand d) := by simp [parseBody, hparse]
  rw [receive, if_pos hl, if_neg hlong, if_neg (show ¬source.toNat = b.id from hid), acceptFrame]
  simp only [hadmits, hbody]
  rfl

theorem demandTaken_eventsGrow (i : Nat) (b : Block) : EventsGrow b (demandTaken i b) := ⟨rfl, List.prefix_refl _, id⟩

theorem judgeSignature_frame (i : Nat) (g : Word16) (b : Block) :
    changesOnly [.plan, .line, .pages, .pager, .port] b (judgeSignature i g b) := by
  unfold judgeSignature
  split <;> simp [changesOnly_iff]

theorem heardDemand_frame (i x : Nat) (d : Demand) (b : Block) :
    changesOnly [.peers, .plan, .line, .pages, .pager, .port] b (heardDemand i x d b) := by
  have hplaced : changesOnly [.peers, .plan, .line, .pages, .pager, .port] b
      (resolved .stationLost i (demandPlaced i x d b)) := by
    simp [changesOnly_iff, demandPlaced]
  have hjudged := changesOnly_trans hplaced (changesOnly_mono (judgeSignature_frame i d.signature _) (by simp))
  have hend : changesOnly [.peers, .plan, .line, .pages, .pager, .port] (demandJudged i x d b) (heardDemand i x d b) := by
    rw [heardDemand_eq, demandSettled]
    split <;> split <;> simp [changesOnly_iff]
  exact changesOnly_trans hjudged hend

theorem missed_eq_elim (s : Block) (source sequence : Byte) :
    missedFrames s source sequence =
      (findPeer source.toNat s).elim 0 fun p => sequenceGap p.lastSequence sequence.toNat := by
  unfold missedFrames
  cases findPeer source.toNat s <;> rfl

/-- The entry that a DEMAND makes of its sender, figure by figure (R25, R26). -/
theorem heardPeer_eq (source sequence : Byte) (d : Demand) (b : Block) :
    heardPeer source.toNat sequence.toNat d (demandTaken source.toNat b) =
      { id := source.toNat, kind := d.kind, signature := d.signature, state := d.state, floor := min 800 d.floor,
        want := min 800 d.want, cls := d.cls, applied := min 800 d.applied, rising := d.rising, draw := min 2040 d.draw,
        rated := min 800 d.rated, lastSequence := sequence.toNat,
        missed := (match findPeer source.toNat b with
          | some old => min 65535 (old.missed + missedFrames b source sequence)
          | none => 0),
        age := 0, dish := d.dish, base := d.base } := by
  have hold : findPeer source.toNat (demandTaken source.toNat b) = findPeer source.toNat b := rfl
  rw [heardPeer, peerOf, hold, ← missed_eq_elim]
  cases hfind : findPeer source.toNat b with
  | none => simp [missedFrames, hfind, satTo]
  | some old => simp [satTo]

/-- The counters that a DEMAND counts up (R60, R63). -/
theorem heardDemand_counters (source sequence : Byte) (d : Demand) (b : Block) :
    (heardDemand source.toNat sequence.toNat d (demandTaken source.toNat b)).port.counters.framesReceived =
        min 65535 (b.port.counters.framesReceived + 1) ∧
      (heardDemand source.toNat sequence.toNat d (demandTaken source.toNat b)).port.counters.sequenceGaps =
        min 65535 (b.port.counters.sequenceGaps + missedFrames b source sequence) := by
  have hcounters := heardDemand_heardCounters source.toNat sequence.toNat d (demandTaken source.toNat b)
  simp only [Block.heardCounters, Prod.mk.injEq] at hcounters
  rw [hcounters.1, hcounters.2, missed_eq_elim]
  exact ⟨rfl, rfl⟩

theorem demandRestarts_eq_false {source sequence : Byte} {b : Block}
    (h : ¬(sequence = 0 ∧ ∃ old, findPeer source.toNat b = some old ∧ 3 ≤ old.age)) :
    demandRestarts source.toNat sequence.toNat b = false := by
  by_contra hrestarts
  simp only [demandRestarts, Bool.and_eq_false_imp, not_forall, decide_eq_true_eq, Bool.not_eq_false,
    Option.any_eq_true, exists_prop] at hrestarts
  obtain ⟨hzero, old, hold, hstale⟩ := hrestarts
  exact h ⟨BitVec.eq_of_toNat_eq hzero, old, hold, by
    rw [Peer.fresh, Bool.not_eq_true', decide_eq_false_iff_not] at hstale
    exact Nat.le_of_not_lt hstale⟩

/-- What the frame leaves cleared: a page of STATION_LOST of its sender, and with this station's own signature one of
CONFIG_MISMATCH (R29, R31). -/
theorem demand_clears {s : Block} {i x k : Nat} {d : Demand} {c : Cause} {e : PageEntry} (hsubject : c.subject = i)
    (hkind : c.kind = .stationLost ∨ (c.kind = .configMismatch ∧ d.signature = s.station.signature))
    (hlocate : locatePage c s = some (k, e)) (ho : e.owner = s.station.strapId) (ht : s.lineTakes = true)
    (hroom : s.line.pageQueue.length < 6) (hw : isWaiting c s = false)
    (honly : ∀ j x, pageAt j s = some x → x.cause = c → j = k) :
    clearSent e (demandTaken i s) (heardDemand i x d (demandTaken i s)) ∧
      Absent e.cause (heardDemand i x d (demandTaken i s)) := by
  obtain ⟨hat, hcause, _⟩ := locatePage_eq_some.1 hlocate
  have hpage : OnlyPage k e (demandTaken i s) :=
    ⟨⟨e, hat, rfl, rfl, rfl, rfl⟩, fun j x hx hc => honly j x hx (hc.trans hcause), by
      rw [← isWaiting_iff, hcause, show isWaiting c (demandTaken i s) = isWaiting c s from rfl, hw]
      simp⟩
  obtain hlost | ⟨hmismatch, hsignature⟩ := hkind
  · exact demand_clears_lost hpage (by rw [hcause, ← hsubject, ← hlost]) ho ht hroom
  · exact demand_clears_mismatch hpage (by rw [hcause, ← hsubject, ← hmismatch]) hsignature ho ht hroom

/-- Settles O29: the entry by its placing, the pages by the acts of the DEMAND, the withdrawal by its equation. -/
theorem demandReplacesItsEntry : Obligations.DemandReplacesItsEntry := by
  intro s source sequence body d hl h31 hid hadmits hparse
  refine completes_of (receive source sequence (some .demand) body) rfl ?_
  rw [receive_demand hl h31 hid hadmits hparse]
  generalize hheard : heardDemand source.toNat sequence.toNat d (demandTaken source.toNat s.block) = heard
  have hpeers : heard.peers = putPeer (heardPeer source.toNat sequence.toNat d (demandTaken source.toNat s.block))
      s.block.peers := hheard ▸ (heardDemand_peers_store _ _ _ _).1
  have hnotices : Notices (demandTaken source.toNat s.block) heard := hheard ▸ heardDemand_notices _ _ _ _
  have hframe : changesOnly [.peers, .plan, .line, .pages, .pager, .port] (demandTaken source.toNat s.block) heard :=
    hheard ▸ heardDemand_frame _ _ _ _
  obtain ⟨hreceived, hgaps⟩ := heardDemand_counters source sequence d s.block
  rw [hheard] at hreceived hgaps
  refine ⟨?_, fun other hother => ?_, congrArg Line.lastSender hnotices.line_eq, hreceived, hgaps,
    fun c i e hsubject hkind hlocate ho ht hroom hw honly => ?_, ?_, fun hsignature hfresh => ?_, ?_⟩
  · refine Eq.trans ?_ (congrArg some (heardPeer_eq source sequence d s.block))
    simp only [findPeer, setPosition, withdraw, Block.onLine_peers, hpeers]
    exact find_putPeer_self (p := heardPeer source.toNat sequence.toNat d (demandTaken source.toNat s.block)) rfl _
  · simp only [findPeer, setPosition, withdraw, Block.onLine_peers, hpeers]
    exact find_putPeer_of_ne hother _
  · obtain ⟨⟨hqueued, hevent⟩, habsent⟩ := demand_clears (x := sequence.toNat) hsubject hkind hlocate ho ht hroom hw honly
    obtain ⟨_, hcause, _⟩ := locatePage_eq_some.1 hlocate
    rw [hheard] at hqueued hevent habsent
    rw [hcause] at hqueued habsent
    refine ⟨clearFrame_mem_withdraw (hqueued ht), habsent.heldPage, ?_⟩
    rw [pageRemoved, ho]
    exact offered_mono (offered_of_grows (demandTaken_eventsGrow _ _) hevent) (.of_port rfl rfl)
  · exact withdraw_demand (s := demandTaken source.toNat s.block) hnotices
  · have hraised := demand_raises_mismatch (i := source.toNat) (b := demandTaken source.toNat s.block) hsignature
      (demandRestarts_eq_false (b := s.block) hfresh)
    rw [hheard] at hraised
    exact hraised.imp id fun hlost =>
      offered_mono (offered_of_grows (demandTaken_eventsGrow _ _) hlost) (.of_port rfl rfl)
  · have htaken : changesOnly [.peers, .plan, .line, .pages, .pager, .port] s.block (demandTaken source.toNat s.block) := by
      simp [changesOnly_iff, demandTaken]
    refine changesOnly_trans (changesOnly_trans htaken hframe) ?_
    simp [changesOnly_iff, setPosition, withdraw]

end Sys2Proof.Machine
end

section
/-! PROOFS. The acts of a second (R33, R103): what each of its steps keeps of the plan, the drive and the event queue. -/

namespace Sys2Proof.Machine

/-! ## Steps that leave plan and drive (R33) -/

/-- Events joined the queue; plan, and the drive but its wants, stand. -/
structure PlanRests (b b' : Block) : Prop extends EventsGrow b b' where
  plan : b'.plan = b.plan
  drive : noWants b'.drive = noWants b.drive

theorem PlanRests.trans {b c d : Block} (h : PlanRests b c) (g : PlanRests c d) : PlanRests b d :=
  ⟨h.toEventsGrow.trans g.toEventsGrow, g.plan.trans h.plan, g.drive.trans h.drive⟩

theorem PlanRests.refl (b : Block) : PlanRests b b := ⟨.refl b, rfl, rfl⟩

theorem PlanRests.foldl {α : Type} {f : Block → α → Block} (h : ∀ b x, PlanRests b (f b x)) (xs : List α) (b : Block) :
    PlanRests b (xs.foldl f b) := by
  induction xs generalizing b with
  | nil => exact .refl b
  | cons x rest ih => exact (h b x).trans (ih _)

/-! ### The timers due at a second's start (log 66) -/

theorem expireAck_rests (i : Nat) (b : Block) : PlanRests b (expireAck i b) := by
  refine ⟨?_, ?_, (expireAck_stands i b).2.2.2⟩
  · unfold expireAck
    dsimp only
    split
    · exact .refl b
    · exact (((Notices.refl b).setPage.setMemory.ite (Notices.refl b).setPage).queuePage.pageEvent.count
        fun _ _ => rfl).placeSend.toEventsGrow
  · unfold expireAck
    dsimp only
    repeat' split
    all_goals simp

theorem retryClear_rests (i : Nat) (b : Block) : PlanRests b (retryClear i b) := by
  refine ⟨?_, ?_, (retryClear_stands i b).2.2.2⟩
  · unfold retryClear
    split
    · exact .refl b
    · exact (Notices.refl b).offerClear.toEventsGrow
  · unfold retryClear
    split <;> simp

theorem timeoutHold_rests (b : Block) : PlanRests b (timeoutHold b) := by
  refine ⟨?_, ?_, (timeoutHold_stands b).2.2.2⟩
  · unfold timeoutHold
    repeat' split
    · exact (Notices.refl b).raiseHold.toEventsGrow
    · exact .refl b
    · exact .refl b
  · unfold timeoutHold
    repeat' split
    all_goals simp

theorem timeoutAdvance_rests (b : Block) : PlanRests b (timeoutAdvance b) := by
  refine ⟨?_, ?_, (timeoutAdvance_stands b).2.2.2⟩
  · unfold timeoutAdvance endAdvance
    repeat' split
    · exact (Notices.refl b).onConveyor.offer.toEventsGrow
    · exact .refl b
    · exact .refl b
  · unfold timeoutAdvance
    split <;> simp

theorem settleSecond_rests (b : Block) : PlanRests b (settleSecond b) := by
  have hfolds := (PlanRests.foldl (f := fun acc i => expireAck i acc) (fun b i => expireAck_rests i b) pageIndices b).trans
    (.foldl (f := fun acc i => retryClear i acc) (fun b i => retryClear_rests i b) pageIndices _)
  unfold settleSecond
  dsimp only
  split
  · exact (hfolds.trans (timeoutHold_rests _)).trans (timeoutAdvance_rests _)
  · exact hfolds

/-! ### The conveyor's part (R134 to R146) -/

theorem conveyorSecond_rests (b : Block) : PlanRests b (conveyorSecond b) := by
  refine ⟨?_, ?_, (conveyorSecond_stands b).2.2.2⟩
  · have hcount : Notices b (countHold b) := by
      unfold countHold
      split
      · exact (Notices.refl b).onConveyor
      · exact .refl b
    have hrinse : Notices b (readRinse (countHold b)) := hcount.same (by simp) (by simp) (by simp)
    have hwants : Notices b (setDishWants (deriveConveyor (readRinse (countHold b)))) := hrinse.deriveConveyor.onDrive
    unfold conveyorSecond
    split
    · exact hwants.onConveyor.toEventsGrow
    · exact .refl b
  · unfold conveyorSecond countHold countAdvance
    repeat' split
    all_goals simp

/-! ## The Task Engine's acts (R103) -/

/-- A part of the second of task `t`: events joined the queue, the plan but for the record of `t` stands, and so does the
drive but for wants; a channel `spared` that wants 0 goes on wanting 0. -/
structure TaskAct (t : Nat) (spared : Nat → Prop) (b b' : Block) : Prop extends EventsGrow b b' where
  plan : { b'.plan with tasks := [] } = { b.plan with tasks := [] }
  others : ∀ u, u ≠ t → taskAt u b' = taskAt u b
  drive : noWants b'.drive = noWants b.drive
  wants : ∀ j, spared j → (channelAt j b).want = {} → (channelAt j b').want = {}

section
variable {t : Nat} {spared : Nat → Prop} {b c d : Block}

theorem TaskAct.refl (b : Block) : TaskAct t spared b b := ⟨.refl b, rfl, fun _ _ => rfl, rfl, fun _ _ h => h⟩

theorem TaskAct.trans (h : TaskAct t spared b c) (g : TaskAct t spared c d) : TaskAct t spared b d :=
  ⟨h.toEventsGrow.trans g.toEventsGrow, g.plan.trans h.plan, fun u hu => (g.others u hu).trans (h.others u hu),
    g.drive.trans h.drive, fun j hj hw => g.wants j hj (h.wants j hj hw)⟩

/-- What leaves plan and drive. -/
theorem TaskAct.of_same (h : EventsGrow b c) (hp : c.plan = b.plan) (hd : c.drive = b.drive) : TaskAct t spared b c :=
  ⟨h, by rw [hp], fun u _ => by rw [taskAt, hp, taskAt], by rw [hd], fun j _ hw => by rwa [channelAt, hd]⟩

theorem offer_act (e : EventBody) (b : Block) : TaskAct t spared b (offer e b) :=
  .of_same (offer_grows e b) (by simp) (by simp)

theorem raise_act (k : CauseKind) (n : Nat) (b : Block) : TaskAct t spared b (raise k n b) :=
  .of_same (Notices.refl b).raise.toEventsGrow (by simp) (by simp)

theorem resolved_act (k : CauseKind) (n : Nat) (b : Block) : TaskAct t spared b (resolved k n b) :=
  .of_same (Notices.refl b).resolved.toEventsGrow (by simp) (by simp)

theorem taskAt_setTask_ne {t u : Nat} (h : u ≠ t) (k : Option Task) (b : Block) : taskAt u (setTask t k b) = taskAt u b := by
  simp [taskAt, setTask, List.getD_eq_getElem?_getD, List.getElem?_set_ne (Ne.symm h)]

/-- An entry of the task table written reads back. -/
theorem taskAt_setTask {t : Nat} {k : Task} {b : Block} (h : taskAt t b = some k) (x : Option Task) :
    taskAt t (setTask t x b) = x := by
  have hlt : t < b.plan.tasks.length := by
    by_contra hge
    rw [taskAt, List.getD_eq_default _ _ (Nat.le_of_not_lt hge)] at h
    cases h
  simp [taskAt, setTask, List.getD_eq_getElem?_getD, hlt]

theorem setTask_act (k : Option Task) (b : Block) : TaskAct t spared b (setTask t k b) :=
  ⟨.of_port rfl rfl, rfl, fun _ hu => taskAt_setTask_ne hu k b, rfl, fun _ _ h => h⟩

/-! ### Wants written -/

theorem channelAt_set (i j : Nat) (c : Channel) (b : Block) :
    channelAt j (b.onDrive fun d => { d with channels := d.channels.set i c }) =
      if i = j ∧ j < b.drive.channels.length then c else channelAt j b := by
  simp only [channelAt, Block.onDrive_drive, List.getD_eq_getElem?_getD, List.getElem?_set]
  by_cases hij : i = j
  · subst hij
    by_cases hi : i < b.drive.channels.length <;> simp [hi]
  · simp [hij]

/-- A want written into one channel, 0 where the channel is spared. -/
theorem writeWant_act {w : Channel → Want} {i : Nat} (h : spared i → ∀ c, w c = {}) (b : Block) :
    TaskAct t spared b (b.onDrive fun d =>
      { d with channels := d.channels.set i { d.channels.getD i {} with want := w (d.channels.getD i {}) } }) := by
  refine ⟨.of_port rfl rfl, rfl, fun _ _ => rfl,
    noWants_set b.drive i (c := { b.drive.channels.getD i {} with want := w (b.drive.channels.getD i {}) }) rfl,
    fun j hj hw => ?_⟩
  have hset := channelAt_set i j { b.drive.channels.getD i {} with want := w (b.drive.channels.getD i {}) } b
  refine (congrArg Channel.want hset).trans ?_
  split
  · rename_i hij
    exact h (hij.1 ▸ hj) _
  · exact hw

theorem TaskAct.foldl {α : Type} {f : Block → α → Block} {xs : List α} (h : ∀ b, ∀ x ∈ xs, TaskAct t spared b (f b x))
    (b : Block) : TaskAct t spared b (xs.foldl f b) := by
  induction xs generalizing b with
  | nil => exact .refl b
  | cons x rest ih =>
    exact (h b x List.mem_cons_self).trans (ih (fun b y hy => h b y (List.mem_cons_of_mem _ hy)) _)

theorem releaseWants_act (m : Mask8) (b : Block) : TaskAct t spared b (releaseWants m b) :=
  .foldl (fun b _ _ => writeWant_act (w := fun _ => {}) (fun _ _ => rfl) b) b

theorem mem_members {w : Nat} {m : BitVec w} {j : Nat} : j ∈ members m ↔ m.getLsbD j = true := by
  simp only [members, List.mem_filter, List.mem_range]
  exact ⟨fun h => h.2, fun h => ⟨BitVec.lt_of_getLsbD h, h⟩⟩

theorem presentWants_act {k : Task} (hm : ∀ j, spared j → k.mask.getLsbD j = false) (v : TaskView) (b : Block) :
    TaskAct t spared b (presentWants v k b) :=
  .foldl (fun b i hi => writeWant_act (w := k.wantOf v) (fun hs => by simp [mem_members, hm i hs] at hi) b) b

/-- The released channels of a mask want 0. -/
theorem releaseWants_want {m : Mask8} {j : Nat} {b : Block} (hm : m.getLsbD j = true) (hj : j < b.drive.channels.length) :
    (channelAt j (releaseWants m b)).want = {} := by
  obtain ⟨pre, post, hsplit⟩ := List.append_of_mem (mem_members.2 hm)
  have hact {is : List Nat} (b : Block) : TaskAct 0 (fun _ => True) b (is.foldl (fun acc k =>
      acc.onDrive fun d => { d with channels := d.channels.set k { d.channels.getD k {} with want := {} } }) b) :=
    .foldl (fun b _ _ => writeWant_act (w := fun _ => {}) (fun _ _ => rfl) b) b
  unfold releaseWants
  rw [hsplit, List.foldl_append, List.foldl_cons]
  refine (hact _).wants j trivial ?_
  have hlength := congrArg (fun d : Drive => d.channels.length) (hact (is := pre) b).drive
  simp only [noWants, List.length_map] at hlength
  refine (congrArg Channel.want (channelAt_set j j _ _)).trans ?_
  rw [if_pos ⟨rfl, by rwa [hlength]⟩]

/-! ### The steps of a task second (R96, R103, R107, R115, R117) -/

theorem testPlates_act (i : Nat) (b : Block) : TaskAct t spared b (testPlates i b) := by
  unfold testPlates
  repeat' split
  · exact resolved_act _ _ b
  · exact .refl b
  · exact .refl b

theorem taskEvent_act (x : TaskState) (b : Block) : TaskAct t spared b (taskEvent t x b) := by
  unfold taskEvent
  split
  · exact offer_act _ b
  · exact .refl b

theorem faultTask_act (k : Task) (why : TaskFault) (b : Block) : TaskAct t spared b (faultTask t k why b) :=
  (setTask_act _ b).trans (releaseWants_act _ _)

/-- The record of a task once its edit has applied (R96). -/
def editedRecord (k : Task) (e : Edit) (b : Block) : Task :=
  if k.state.runs ∧ k.profile ≠ e.profile then reresolve (k.edited e) (resolveProfile e.profile b) b.now else k.edited e

/-- The channels that an edit sets free (R96, R115). -/
def editReleases (k : Task) (e : Edit) (x : Task) (b : Block) : Block :=
  let freed := releaseWants (k.mask &&& ~~~ e.mask) b
  if x.state = .faulted then releaseWants e.mask freed else freed

theorem applyEdit_eq {k : Task} {e : Edit} (hat : taskAt t b = some k) (hedit : k.edit = some e) :
    applyEdit t b = testPlates k.course (editReleases k e (editedRecord k e b) (setTask t (some (editedRecord k e b)) b)) := by
  unfold applyEdit
  rw [hat]
  dsimp only
  rw [hedit]
  rfl

theorem applyEdit_of_none (h : ∀ k, taskAt t b = some k → k.edit = none) : applyEdit t b = b := by
  unfold applyEdit
  split
  · rename_i k hat
    rw [h k hat]
  · rfl

theorem editReleases_act (k : Task) (e : Edit) (x : Task) (b : Block) : TaskAct t spared b (editReleases k e x b) := by
  unfold editReleases
  dsimp only
  split
  · exact (releaseWants_act _ b).trans (releaseWants_act _ _)
  · exact releaseWants_act _ b

theorem applyEdit_act (b : Block) : TaskAct t spared b (applyEdit t b) := by
  cases hat : taskAt t b with
  | none =>
    rw [applyEdit_of_none (by simp [hat])]
    exact .refl b
  | some k =>
    cases hedit : k.edit with
    | none =>
      rw [applyEdit_of_none (by simp [hat, hedit])]
      exact .refl b
    | some e =>
      rw [applyEdit_eq hat hedit]
      exact ((setTask_act _ b).trans (editReleases_act k e _ _)).trans (testPlates_act _ _)

theorem plateTest_act (v : TaskView) (k : Task) (b : Block) : TaskAct t spared b (plateTest v k b).2 := by
  unfold plateTest
  repeat' split
  · exact raise_act _ _ b
  · exact .refl b
  · exact .refl b

theorem plateTest_mask (v : TaskView) (k : Task) (b : Block) :
    (plateTest v k b).1.mask = k.mask ∧ (plateTest v k b).1.course = k.course ∧ (plateTest v k b).1.state = k.state := by
  unfold plateTest
  split <;> exact ⟨rfl, rfl, rfl⟩

theorem Direct.stateAt_runs (d : Direct) (i : Nat) : (d.stateAt i).runs = true := by
  unfold Direct.stateAt
  repeat' split
  all_goals rfl

theorem enterHold_record (v : TaskView) (k : Task) (h : k.state.runs = true) :
    (k.enterHold v).mask = k.mask ∧ (k.enterHold v).course = k.course ∧ (k.enterHold v).state.runs = true := by
  unfold Task.enterHold
  split
  · exact ⟨rfl, rfl, rfl⟩
  · exact ⟨rfl, rfl, h⟩

/-- The stages keep mask and course, and a run state (R108). -/
theorem advance_record (v : TaskView) (n : Nat) (k : Task) (h : k.state.runs = true) :
    (Task.advance v n k).mask = k.mask ∧ (Task.advance v n k).course = k.course ∧
      (Task.advance v n k).state.runs = true := by
  induction n generalizing k with
  | zero => exact ⟨rfl, rfl, h⟩
  | succ n ih =>
    rw [Task.advance]
    split
    · exact ih (k.nextStage v) (Direct.stateAt_runs _ _)
    · exact ⟨rfl, rfl, h⟩

/-- The task that a second's run leaves. -/
def ranTask (k : Task) (d : Direct) (b : Block) : Task :=
  (plateTest (viewOf k d b) (Task.advance (viewOf k d b) (d.stages.length + 1) (k.enterHold (viewOf k d b))) b).1.judged
    (viewOf k d b)

theorem ranTask_record {k : Task} (h : k.state.runs = true) (d : Direct) (b : Block) :
    (ranTask k d b).mask = k.mask ∧ (ranTask k d b).course = k.course ∧ (ranTask k d b).state.runs = true := by
  obtain ⟨hmask, hcourse, hruns⟩ := enterHold_record (viewOf k d b) k h
  obtain ⟨hmask', hcourse', hruns'⟩ := advance_record (viewOf k d b) (d.stages.length + 1) _ hruns
  obtain ⟨hmask'', hcourse'', hstate''⟩ := plateTest_mask (viewOf k d b)
    (Task.advance (viewOf k d b) (d.stages.length + 1) (k.enterHold (viewOf k d b))) b
  exact ⟨hmask''.trans (hmask'.trans hmask), hcourse''.trans (hcourse'.trans hcourse), (congrArg _ hstate'').trans hruns'⟩

/-- A task's run writes its record, and the wants of its mask. -/
theorem runTask_cases {k : Task} (d : Direct) {b : Block} (hk : ∀ j, spared j → k.mask.getLsbD j = false)
    (h : k.state.runs = true) : ∃ m x, TaskAct t spared b m ∧ runTask t k d b = setTask t (some x) m ∧
      x.course = k.course ∧ x.state.runs = true := by
  obtain ⟨hmask, hcourse, hruns⟩ := ranTask_record h d b
  exact ⟨_, _, (plateTest_act _ _ b).trans (presentWants_act (k := ranTask k d b) (fun j hj => hmask ▸ hk j hj) _ _), rfl,
    hcourse, hruns⟩

/-- What the steps after the edit leave of a task: its fault, its run, or the block as it stood (R103). -/
inductive Worked (t : Nat) (spared : Nat → Prop) (k : Task) (b b' : Block) : Prop
  | faults (k' : Task) (why : TaskFault) (mask : k'.mask = k.mask) (course : k'.course = k.course)
      (hb : b' = faultTask t k' why b)
  | ran (m : Block) (x : Task) (act : TaskAct t spared b m) (hb : b' = setTask t (some x) m) (course : x.course = k.course)
      (runs : x.state.runs = true)
  | stands (hb : b' = b)

theorem testAndRun_worked {k : Task} (hk : ∀ j, spared j → k.mask.getLsbD j = false) (h : k.state.runs = true)
    (b : Block) : Worked t spared k b (testAndRun t k b) := by
  unfold testAndRun
  split
  · exact .faults k _ rfl rfl rfl
  · split
    · rename_i d _
      obtain ⟨m, x, hact, hb, hcourse, hruns⟩ := runTask_cases (t := t) (b := b) d hk h
      exact .ran m x hact hb hcourse hruns
    · exact .stands rfl

theorem resolveTask_worked {k : Task} (hk : ∀ j, spared j → k.mask.getLsbD j = false) (b : Block) :
    Worked t spared k b (resolveTask t k b) := by
  unfold resolveTask
  cases resolveProfile k.profile b with
  | none => exact .faults { k with resolved := none } _ rfl rfl rfl
  | some r =>
    dsimp only
    cases faultTest { k with resolved := some r } b with
    | some why => exact .faults { k with resolved := some r } why rfl rfl rfl
    | none =>
      cases testAndRun_worked (t := t) (k := Task.startAt { k with resolved := some r } r b.now) hk rfl b with
      | faults k' why mask course hb => exact .faults k' why mask course hb
      | ran m x act hb course runs => exact .ran m x act hb course runs
      | stands hb => exact .stands hb

theorem taskWork_worked {k : Task} (hat : taskAt t b = some k) (hk : ∀ j, spared j → k.mask.getLsbD j = false) :
    Worked t spared k b (taskWork t b) := by
  unfold taskWork
  rw [hat]
  dsimp only
  cases hs : k.state with
  | waiting => exact resolveTask_worked hk b
  | heating | holding | finishing | ready => exact testAndRun_worked hk (by rw [hs]; rfl) b
  | passed | faulted | cancelled => exact .stands rfl

theorem Worked.act {k : Task} (h : Worked t spared k b c) : TaskAct t spared b c := by
  cases h with
  | faults k' why _ _ hb => exact hb ▸ faultTask_act k' why b
  | ran m x act hb _ _ => exact hb ▸ act.trans (setTask_act _ m)
  | stands hb =>
    subst hb
    exact .refl _

theorem taskAt_of_plan {b b' : Block} (h : b'.plan = b.plan) (u : Nat) : taskAt u b' = taskAt u b := by
  rw [taskAt, h, taskAt]

theorem releaseWants_plan (m : Mask8) (b : Block) : (releaseWants m b).plan = b.plan := by
  unfold releaseWants
  exact foldl_keeps Block.plan _ _ fun b k => by simp

theorem testPlates_plan (i : Nat) (b : Block) : (testPlates i b).plan = b.plan := by
  unfold testPlates
  repeat' split
  all_goals simp

theorem taskEvent_plan (t : Nat) (x : TaskState) (b : Block) : (taskEvent t x b).plan = b.plan := by
  unfold taskEvent
  split <;> simp

theorem editReleases_plan (k : Task) (e : Edit) (x : Task) (b : Block) : (editReleases k e x b).plan = b.plan := by
  unfold editReleases
  dsimp only
  split <;> simp only [releaseWants_plan]

theorem editedRecord_mask (k : Task) (e : Edit) (b : Block) : (editedRecord k e b).mask = e.mask := by
  unfold editedRecord reresolve
  repeat' split
  all_goals rfl

/-- The record of a task whose edit applies: its mask lies in what it held (R93, R96). -/
theorem applyEdit_mask {k x : Task} (hat : taskAt t b = some k) (hlive : k.state.live = true)
    (hx : taskAt t (applyEdit t b) = some x) {j : Nat} (hj : k.holds.getLsbD j = false) : x.mask.getLsbD j = false := by
  have hholds : k.mask.getLsbD j = false ∧ (k.edit.elim 0 fun e => e.mask).getLsbD j = false := by
    simpa [Task.holds, hlive] using hj
  cases hedit : k.edit with
  | none =>
    rw [applyEdit_of_none (by simp [hat, hedit]), hat] at hx
    exact Option.some.inj hx ▸ hholds.1
  | some e =>
    rw [applyEdit_eq hat hedit, taskAt_of_plan (testPlates_plan _ _), taskAt_of_plan (editReleases_plan _ _ _ _),
      taskAt_setTask hat] at hx
    rw [← Option.some.inj hx, editedRecord_mask]
    simpa [hedit] using hholds.2

/-! ### The whole second of a task -/

theorem live_of_hasSecond {x : TaskState} (h : x.hasSecond = true) : x.live = true := by
  revert h
  cases x <;> decide

/-- The second of task `t` spares the channels that it does not hold (R93, R103). -/
theorem taskSecond_act (h : ∀ k j, taskAt t b = some k → spared j → k.holds.getLsbD j = false) :
    TaskAct t spared b (taskSecond t b) := by
  unfold taskSecond
  split
  · rename_i k hat
    split
    · rename_i hsecond
      have hedited : TaskAct t spared b (applyEdit t b) := applyEdit_act b
      have hworked : TaskAct t spared (applyEdit t b) (taskWork t (applyEdit t b)) := by
        cases hx : taskAt t (applyEdit t b) with
        | none =>
          unfold taskWork
          rw [hx]
          exact .refl _
        | some x =>
          exact (taskWork_worked hx fun j hj => applyEdit_mask hat (live_of_hasSecond hsecond) hx (h k j hat hj)).act
      dsimp only
      split
      · exact (hedited.trans hworked).trans (taskEvent_act _ _)
      · exact hedited.trans hworked
    · exact .refl b
  · exact .refl b

end

/-! ## The Coordinator's acts (R103, R120, R128, R129) -/

/-- A part of a second that moves courses: events joined the queue; the drive, and the plan but for the courses, stand. -/
structure CourseAct (b b' : Block) : Prop extends EventsGrow b b' where
  plan : { b'.plan with courses := [] } = { b.plan with courses := [] }
  drive : b'.drive = b.drive

section
variable {b c d : Block}

theorem CourseAct.refl (b : Block) : CourseAct b b := ⟨.refl b, rfl, rfl⟩

theorem CourseAct.trans (h : CourseAct b c) (g : CourseAct c d) : CourseAct b d :=
  ⟨h.toEventsGrow.trans g.toEventsGrow, g.plan.trans h.plan, g.drive.trans h.drive⟩

theorem CourseAct.foldl {α : Type} {f : Block → α → Block} (h : ∀ b x, CourseAct b (f b x)) (xs : List α) (b : Block) :
    CourseAct b (xs.foldl f b) := by
  induction xs generalizing b with
  | nil => exact .refl b
  | cons x rest ih => exact (h b x).trans (ih _)

theorem CourseAct.offer (h : CourseAct b c) (e : EventBody) : CourseAct b (offer e c) :=
  h.trans ⟨offer_grows e c, by simp, by simp⟩

theorem CourseAct.raise (h : CourseAct b c) (k : CauseKind) (n : Nat) : CourseAct b (raise k n c) :=
  h.trans ⟨(Notices.refl c).raise.toEventsGrow, by simp, by simp⟩

theorem CourseAct.resolved (h : CourseAct b c) (k : CauseKind) (n : Nat) : CourseAct b (resolved k n c) :=
  h.trans ⟨(Notices.refl c).resolved.toEventsGrow, by simp, by simp⟩

theorem setCourse_act (i : Nat) (x : Option Course) (b : Block) : CourseAct b (setCourse i x b) :=
  ⟨.of_port rfl rfl, rfl, rfl⟩

theorem storeCourseState_act (i : Nat) (x : CourseState) (b : Block) : CourseAct b (storeCourseState i x b) := by
  unfold storeCourseState
  dsimp only
  repeat' split
  · exact .refl b
  · exact ((setCourse_act i _ b).offer _).resolved _ _
  · exact (setCourse_act i _ b).offer _
  · exact .refl b

theorem storeLateDue_act (i : Nat) (x : Bool) (b : Block) : CourseAct b (storeLateDue i x b) := by
  unfold storeLateDue
  repeat' split
  · exact (setCourse_act i _ b).raise _ _
  · exact setCourse_act i _ b
  · exact .refl b

theorem deriveCourse_act (i : Nat) (b : Block) : CourseAct b (deriveCourse i b) := by
  unfold deriveCourse
  split
  · exact (storeCourseState_act i _ b).trans (storeLateDue_act i _ _)
  · exact .refl b

theorem evalReady_act (i : Nat) (b : Block) : CourseAct b (evalReady i b) := by
  unfold evalReady
  dsimp only
  repeat' split
  · exact (setCourse_act i _ b).raise _ _
  · exact setCourse_act i _ b
  · exact .refl b

theorem markCourse_act (b : Block) : CourseAct b (markCourse b) :=
  ⟨.of_port (by simp) (by simp), by rw [markCourse_plan], by simp⟩

theorem courseChange_act (i : Nat) (b : Block) : CourseAct b (courseChange i b) :=
  ((deriveCourse_act i b).trans (evalReady_act i _)).trans (markCourse_act _)

theorem courseSecond_act (i : Nat) (b : Block) : CourseAct b (courseSecond i b) := by
  unfold courseSecond
  dsimp only
  repeat' split
  · exact ((deriveCourse_act i b).raise _ _).trans (evalReady_act i _)
  · exact (deriveCourse_act i b).trans (evalReady_act i _)
  · exact .refl b

theorem coursesSecond_act (b : Block) : CourseAct b (coursesSecond b) :=
  .foldl (fun b i => courseSecond_act i b) _ b

theorem handOn_act (ts : List (Option Task)) (t : Nat) (b : Block) : CourseAct b (handOn ts t b) := by
  unfold handOn
  repeat' split
  · exact courseChange_act _ b
  · exact .refl b
  · exact .refl b

end

/-! ## The heat channels in the conveyor's second (R138) -/

/-- The wants set for a conveyor leave a HEAT channel (R138). -/
theorem setDishWants_heat {j : Nat} {b : Block} (h : (channelAt j b).role = .heat) :
    channelAt j (setDishWants b) = channelAt j b := by
  have hj : channelAt j (setDishWants b) = (b.drive.channels[j]?.map fun c =>
      if c.fitted ∧ c.role ≠ .heat then { c with want := dishWant b c } else c).getD {} := by
    simp [channelAt, setDishWants, List.getD_eq_getElem?_getD]
  rw [hj]
  unfold channelAt at h ⊢
  rw [List.getD_eq_getElem?_getD] at h ⊢
  cases hc : b.drive.channels[j]? with
  | none => rfl
  | some c =>
    rw [hc] at h
    exact if_neg fun ⟨_, hne⟩ => hne h

theorem deriveConveyor_heat {j : Nat} {b : Block} (h : (channelAt j b).role = .heat) :
    channelAt j (deriveConveyor b) = channelAt j b := by
  have hwants : ∀ f, channelAt j (setDishWants (b.onConveyor f)) = channelAt j b := fun f => setDishWants_heat h
  unfold deriveConveyor
  dsimp only
  split
  · rfl
  · rw [channelAt]
    simp only [supersedeAdvance_drive, offer_drive, settleHold_drive]
    exact hwants _

theorem conveyorSecond_heat {j : Nat} {b : Block} (h : (channelAt j b).role = .heat) :
    channelAt j (conveyorSecond b) = channelAt j b := by
  have hread : ∀ {c : Block}, c.drive = b.drive → channelAt j c = channelAt j b := fun hd => by
    rw [channelAt, hd, channelAt]
  have hrinse : (readRinse (countHold b)).drive = b.drive := by
    rw [readRinse_drive]
    unfold countHold
    split <;> rfl
  have hderived := (deriveConveyor_heat (b := readRinse (countHold b)) (by rwa [hread hrinse])).trans (hread hrinse)
  have hadvance : ∀ c, channelAt j (countAdvance c) = channelAt j c := fun _ => rfl
  unfold conveyorSecond
  split
  · rw [hadvance, setDishWants_heat (by rwa [hderived]), hderived]
  · rfl

end Sys2Proof.Machine
end

section
/-! PROOFS. A second: clock, inputs, power fraction and the faults of tasks (R33, R82, R83, R104, R105, R107, R115). -/

namespace Sys2Proof.Machine

/-! ## The second, step by step -/

/-- The part with the timers due settled, the clock advanced and the inputs read (R33, R82). -/
def secondRead (inputs : List SensorInput) (b : Block) : Block :=
  readInputs 0 (inputs.take Config.channels) (tickClock (settleSecond b))

/-- The part as the first task second finds it (R105). -/
def fractioned (b : Block) : Block :=
  b.onPlan fun p => { p with powerFraction := powerFraction b.share.applied b.cfg.ratedLoad }

/-- Task seconds, one after another (R103). -/
def runTasks (us : List Nat) (b : Block) : Block := us.foldl (fun acc t => taskSecond t acc) b

/-- The course changes handed on, the Coordinator's second and the conveyor's. -/
def secondEnd (tasks : List (Option Task)) (b : Block) : Block :=
  conveyorSecond (coursesSecond (taskIndices.foldl (fun acc t => handOn tasks t acc) b))

theorem engineSecond_eq (b : Block) : engineSecond b =
    taskIndices.foldl (fun acc t => handOn b.plan.tasks t acc) (runTasks taskIndices (fractioned b)) := rfl

theorem runSecond_eq {b : Block} (h : b.runs = true) (inputs : List SensorInput) : runSecond inputs b =
    secondEnd (secondRead inputs b).plan.tasks (runTasks taskIndices (fractioned (secondRead inputs b))) := by
  obtain ⟨hheld, hworks⟩ : b.station.resetHeld = false ∧ b.station.state.works = true := by simpa [Block.runs] using h
  unfold runSecond secondEnd secondRead
  rw [if_neg (by simp [hheld]), if_pos hworks, engineSecond_eq]

/-! ### Reading a record through its frame -/

theorem Plan.eq_of_courses {p q : Plan} (h : { p with courses := [] } = { q with courses := [] }) :
    p.tasks = q.tasks ∧ p.profiles = q.profiles ∧ p.powerFraction = q.powerFraction := by
  simp only [Plan.mk.injEq] at h
  obtain ⟨hprofiles, _, htasks, hfraction⟩ := h
  exact ⟨htasks, hprofiles, hfraction⟩

theorem Plan.eq_of_tasks {p q : Plan} (h : { p with tasks := [] } = { q with tasks := [] }) :
    p.courses = q.courses ∧ p.profiles = q.profiles ∧ p.powerFraction = q.powerFraction := by
  simp only [Plan.mk.injEq] at h
  obtain ⟨hprofiles, hcourses, _, hfraction⟩ := h
  exact ⟨hcourses, hprofiles, hfraction⟩

theorem eq_of_noWants {d d' : Drive} (h : noWants d' = noWants d) :
    d'.inputs = d.inputs ∧ d'.channels.map Channel.unwanted = d.channels.map Channel.unwanted := by
  simp only [noWants, Drive.mk.injEq] at h
  obtain ⟨hchannels, hinputs, _⟩ := h
  exact ⟨hinputs, hchannels⟩

theorem eq_of_unwanted {c d : Channel} (h : c.unwanted = d.unwanted) :
    c.fitted = d.fitted ∧ c.health = d.health ∧ c.role = d.role := by
  simp only [Channel.unwanted, Channel.mk.injEq] at h
  obtain ⟨hfitted, _, hrole, _, hhealth, _⟩ := h
  exact ⟨hfitted, hhealth, hrole⟩

theorem tickClock_drive (b : Block) : (tickClock b).drive = b.drive := rfl

theorem tickClock_plan (b : Block) : (tickClock b).plan = b.plan := rfl

theorem tickClock_port (b : Block) : (tickClock b).port = b.port := rfl

/-- An event offered after a queue that has only grown is offered after the shorter one. -/
theorem offered_of_earlier {e : EventBody} {s b b' : Block} (h : s.port.events <+: b.port.events) (g : offered e b b') :
    offered e s b' :=
  g.imp_left fun ⟨x, hx, hbody⟩ => ⟨x, (List.drop_sublist_drop_left _ h.length_le).subset hx, hbody⟩

/-! ### The reading (R82) -/

theorem readInputs_channels (i : Nat) (xs : List SensorInput) (b : Block) :
    (readInputs i xs b).drive.channels = b.drive.channels := by
  induction xs generalizing i b with
  | nil => rfl
  | cons x rest ih =>
    rw [readInputs, ih]
    unfold readInput
    dsimp only
    split <;> simp

theorem channelAt_unwanted {j : Nat} {b b' : Block}
    (h : b'.drive.channels.map Channel.unwanted = b.drive.channels.map Channel.unwanted) :
    (channelAt j b').unwanted = (channelAt j b).unwanted := by
  have hj := congrArg (fun cs : List Channel => cs[j]?) h
  simp only [List.getElem?_map] at hj
  unfold channelAt
  rw [List.getD_eq_getElem?_getD, List.getD_eq_getElem?_getD]
  cases hb' : b'.drive.channels[j]? <;> cases hb : b.drive.channels[j]? <;> simp_all

theorem settled_drive (b : Block) : noWants (tickClock (settleSecond b)).drive = noWants b.drive := by
  rw [tickClock_drive, (settleSecond_rests b).drive]

theorem settled_events (b : Block) : b.port.events <+: (tickClock (settleSecond b)).port.events := by
  rw [tickClock_port]
  exact (settleSecond_rests b).events

theorem settled_plan (b : Block) : (tickClock (settleSecond b)).plan = b.plan := by
  rw [tickClock_plan, (settleSecond_rests b).plan]

theorem settled_inputAt (i : Nat) (b : Block) : inputAt i (tickClock (settleSecond b)) = inputAt i b := by
  rw [inputAt, (eq_of_noWants (settled_drive b)).1, inputAt]

section
variable {inputs : List SensorInput} {b : Block}

theorem secondRead_inputAt (hl : inputs.length = 8) (hi : b.drive.inputs.length = 8) {i : Nat} (h : i < 8) :
    inputAt i (secondRead inputs b) = inputSeen b inputs i := by
  have hinputs := (eq_of_noWants (settled_drive b)).1
  have hx : inputs[i]? = some (inputs.getD i .openCircuit) := by
    simp [List.getD_eq_getElem?_getD, List.getElem?_eq_getElem (hl ▸ h)]
  have hread := inputAt_readInputs (i := 0) (b := tickClock (settleSecond b)) hx (by rw [hinputs, hl, hi])
  rw [Nat.zero_add, settled_inputAt] at hread
  rw [secondRead, List.take_of_length_le (show inputs.length ≤ Config.channels by simp [hl, Config.channels]), hread, inputSeen]

/-- A change of an input's status places its event (R82). -/
theorem secondRead_offers (hl : inputs.length = 8) {i : Nat} (h : i < 8)
    (hne : (inputSeen b inputs i).status ≠ (inputAt i b).status) :
    offered (.sensorStatus i (inputSeen b inputs i).status) (tickClock (settleSecond b)) (secondRead inputs b) := by
  have hx : inputs[i]? = some (inputs.getD i .openCircuit) := by
    simp [List.getD_eq_getElem?_getD, List.getElem?_eq_getElem (hl ▸ h)]
  have hoffers := readInputs_offers (i := 0) (b := tickClock (settleSecond b)) hx
  rw [Nat.zero_add, settled_inputAt] at hoffers
  rw [secondRead, List.take_of_length_le (show inputs.length ≤ Config.channels by simp [hl, Config.channels])]
  exact hoffers hne

theorem secondRead_grows (inputs : List SensorInput) (b : Block) :
    EventsGrow (tickClock (settleSecond b)) (secondRead inputs b) := (Notices.refl _).readInputs.toEventsGrow

theorem secondRead_plan (inputs : List SensorInput) (b : Block) : (secondRead inputs b).plan = b.plan := by
  have hframe := readInputs_frame 0 (inputs.take Config.channels) (tickClock (settleSecond b))
  simp only [changesOnly_iff] at hframe
  have hread : (secondRead inputs b).plan = (tickClock (settleSecond b)).plan := by simp_all [secondRead]
  rw [hread, settled_plan]

theorem secondRead_channels (inputs : List SensorInput) (b : Block) :
    (secondRead inputs b).drive.channels.map Channel.unwanted = b.drive.channels.map Channel.unwanted := by
  rw [secondRead, readInputs_channels]
  exact (eq_of_noWants (settled_drive b)).2

end

/-! ### The task seconds (R103) -/

/-- The seconds of the tasks `us`: every other task stands, and a channel that none of them holds goes on wanting 0. -/
structure TasksRun (us : List Nat) (b b' : Block) : Prop extends EventsGrow b b' where
  plan : { b'.plan with tasks := [] } = { b.plan with tasks := [] }
  others : ∀ u, u ∉ us → taskAt u b' = taskAt u b
  drive : noWants b'.drive = noWants b.drive
  wants : ∀ j, (∀ u ∈ us, ∀ x, taskAt u b = some x → x.holds.getLsbD j = false) → (channelAt j b).want = {} →
    (channelAt j b').want = {}

theorem runTasks_run {us : List Nat} (h : us.Nodup) (b : Block) : TasksRun us b (runTasks us b) := by
  induction us generalizing b with
  | nil => exact ⟨.refl b, rfl, fun _ _ => rfl, rfl, fun _ _ h => h⟩
  | cons t rest ih =>
    obtain ⟨ht, hrest⟩ := List.nodup_cons.1 h
    have hact : TaskAct t (fun j => ∀ x, taskAt t b = some x → x.holds.getLsbD j = false) b (taskSecond t b) :=
      taskSecond_act fun x j hx hspared => hspared x hx
    have hrun := ih hrest (taskSecond t b)
    refine ⟨hact.toEventsGrow.trans hrun.toEventsGrow, hrun.plan.trans hact.plan, fun u hu => ?_,
      hrun.drive.trans hact.drive, fun j hheld hwant => ?_⟩
    · rw [List.mem_cons, not_or] at hu
      exact (hrun.others u hu.2).trans (hact.others u hu.1)
    · refine hrun.wants j (fun u hu x hx => ?_) (hact.wants j (hheld t List.mem_cons_self) hwant)
      rw [hact.others u (by rintro rfl; exact ht hu)] at hx
      exact hheld u (List.mem_cons_of_mem _ hu) x hx

/-! ### The end of the second -/

theorem secondEnd_courses (tasks : List (Option Task)) (b : Block) :
    CourseAct b (coursesSecond (taskIndices.foldl (fun acc t => handOn tasks t acc) b)) :=
  (CourseAct.foldl (f := fun acc t => handOn tasks t acc) (fun b t => handOn_act tasks t b) _ b).trans (coursesSecond_act _)

theorem secondEnd_grows (tasks : List (Option Task)) (b : Block) : EventsGrow b (secondEnd tasks b) := by
  have hcourses := (secondEnd_courses tasks b).toEventsGrow
  have hconveyor := (conveyorSecond_rests (coursesSecond (taskIndices.foldl (fun acc t => handOn tasks t acc) b))).toEventsGrow
  exact hcourses.trans hconveyor

theorem secondEnd_plan (tasks : List (Option Task)) (b : Block) :
    { (secondEnd tasks b).plan with courses := [] } = { b.plan with courses := [] } := by
  rw [secondEnd, (conveyorSecond_rests _).plan]
  exact (secondEnd_courses tasks b).plan

theorem secondEnd_taskAt (tasks : List (Option Task)) (t : Nat) (b : Block) : taskAt t (secondEnd tasks b) = taskAt t b := by
  rw [taskAt, (Plan.eq_of_courses (secondEnd_plan tasks b)).1, taskAt]

theorem secondEnd_drive (tasks : List (Option Task)) (b : Block) :
    noWants (secondEnd tasks b).drive = noWants b.drive := by
  rw [secondEnd, (conveyorSecond_rests _).drive, (secondEnd_courses tasks b).drive]

theorem secondEnd_heat {tasks : List (Option Task)} {j : Nat} {b : Block} (h : (channelAt j b).role = .heat) :
    channelAt j (secondEnd tasks b) = channelAt j b := by
  have hcourses : channelAt j (coursesSecond (taskIndices.foldl (fun acc t => handOn tasks t acc) b)) = channelAt j b := by
    rw [channelAt, (secondEnd_courses tasks b).drive, channelAt]
  have hheat : (channelAt j (coursesSecond (taskIndices.foldl (fun acc t => handOn tasks t acc) b))).role = .heat := by
    rw [hcourses, h]
  rw [secondEnd, conveyorSecond_heat hheat, hcourses]

/-! ## Clock, inputs and power fraction -/

theorem runSecond_at_rest {b : Block} (h : b.station.resetHeld = false) (hw : b.station.state.works = false)
    (inputs : List SensorInput) : runSecond inputs b = tickClock b := by
  unfold runSecond
  rw [if_neg (by simp [h]), if_neg (by simp [hw])]

theorem runSecond_at_work {b : Block} (h : b.station.resetHeld = false) (hw : b.station.state.works = true)
    (inputs : List SensorInput) : runSecond inputs b = conveyorSecond (coursesSecond (engineSecond (secondRead inputs b))) := by
  unfold runSecond secondRead
  rw [if_neg (by simp [h]), if_pos hw]

theorem runSecond_station {b : Block} (h : b.station.resetHeld = false) (inputs : List SensorInput) :
    (runSecond inputs b).station = { b.station with clock := (b.station.clock + 1) % 4294967296 } := by
  cases hw : b.station.state.works with
  | true =>
    rw [runSecond_at_work h hw]
    simp [secondRead, tickClock, Config.clockModulus]
  | false =>
    rw [runSecond_at_rest h hw]
    rfl

@[simp] theorem readInputs_coord (i : Nat) (xs : List SensorInput) (b : Block) : (readInputs i xs b).coord = b.coord := by
  have hframe := readInputs_frame i xs b
  simp only [changesOnly_iff] at hframe
  simp_all

theorem runSecond_frame {b : Block} (h : b.station.resetHeld = false) (inputs : List SensorInput) :
    changesOnly [.station, .line, .drive, .plan, .conveyor, .pages, .pager, .port] b (runSecond inputs b) := by
  cases hw : b.station.state.works with
  | true =>
    rw [runSecond_at_work h hw]
    simp [changesOnly_iff, secondRead, tickClock]
  | false =>
    rw [runSecond_at_rest h hw]
    simp [changesOnly_iff, tickClock]

theorem runTasks_all (b : Block) : TasksRun taskIndices b (runTasks taskIndices b) :=
  runTasks_run List.nodup_range b

theorem runSecond_inputAt {b : Block} (h : b.runs = true) (inputs : List SensorInput) (i : Nat) :
    inputAt i (runSecond inputs b) = inputAt i (secondRead inputs b) := by
  have hdrive := (secondEnd_drive (secondRead inputs b).plan.tasks _).trans
    (runTasks_all (fractioned (secondRead inputs b))).drive
  rw [← runSecond_eq h] at hdrive
  rw [inputAt, (eq_of_noWants hdrive).1, inputAt]
  rfl

theorem runSecond_grows {b : Block} (h : b.runs = true) (inputs : List SensorInput) :
    EventsGrow (secondRead inputs b) (runSecond inputs b) := by
  have hfraction : EventsGrow (secondRead inputs b) (fractioned (secondRead inputs b)) := .of_port rfl rfl
  rw [runSecond_eq h]
  exact hfraction.trans ((runTasks_all _).toEventsGrow.trans (secondEnd_grows _ _))

theorem runSecond_powerFraction {b : Block} (h : b.runs = true) (inputs : List SensorInput) :
    (runSecond inputs b).plan.powerFraction =
      if b.cfg.ratedLoad = 0 then 125 else max 125 (1000 * b.share.applied / b.cfg.ratedLoad) := by
  have hend := (Plan.eq_of_courses (secondEnd_plan (secondRead inputs b).plan.tasks
    (runTasks taskIndices (fractioned (secondRead inputs b))))).2.2
  have hrun := (Plan.eq_of_tasks (runTasks_all (fractioned (secondRead inputs b))).plan).2.2
  have hshare : (secondRead inputs b).share = b.share := by simp [secondRead, tickClock]
  have hcfg : (secondRead inputs b).cfg = b.cfg := by simp [secondRead, tickClock, Block.cfg]
  rw [runSecond_eq h, hend, hrun, fractioned, Block.onPlan_plan, hshare, hcfg]
  rfl

/-- The first half of O17: clock, inputs and power fraction. -/
theorem second_reads (s : State) (inputs : List SensorInput) (hheld : s.block.station.resetHeld = false)
    (hl : inputs.length = 8) (hi : s.block.drive.inputs.length = 8) :
    completes (.second inputs) s (fun b =>
      b.station = { s.block.station with clock := (s.block.station.clock + 1) % 4294967296 } ∧
      (s.block.station.state.works = true →
        (∀ i, i < 8 → inputAt i b = inputSeen s.block inputs i ∧
          ((inputAt i b).status ≠ (inputAt i s.block).status →
            offered (.sensorStatus i (inputAt i b).status) s.block b)) ∧
        b.plan.powerFraction =
          (if s.block.cfg.ratedLoad = 0 then 125 else max 125 (1000 * s.block.share.applied / s.block.cfg.ratedLoad))) ∧
      (s.block.station.state.works = false → changesOnly [.station] s.block b) ∧
      changesOnly [.station, .line, .drive, .plan, .conveyor, .pages, .pager, .port] s.block b) := by
  refine completes_of (runSecond inputs) rfl ⟨runSecond_station hheld inputs, fun hw => ?_, fun hw => ?_,
    runSecond_frame hheld inputs⟩
  · have hruns : s.block.runs = true := by simp [Block.runs, hheld, hw]
    refine ⟨fun i hlt => ?_, runSecond_powerFraction hruns inputs⟩
    have hseen := (runSecond_inputAt hruns inputs i).trans (secondRead_inputAt hl hi hlt)
    rw [hseen]
    exact ⟨rfl, fun hne => offered_of_earlier (settled_events _)
      (offered_mono (secondRead_offers hl hlt hne) (runSecond_grows hruns inputs))⟩
  · rw [runSecond_at_rest hheld hw]
    simp [changesOnly_iff, tickClock]

/-! ## A task's turn in the second (R103) -/

/-- The part as task `t` finds it at its turn: the tasks before have had their seconds, and of this second's end nothing
touches the record of `t` or sets the want of a HEAT channel that no other task holds. -/
structure Turn (t : Nat) (inputs : List SensorInput) (s b : Block) : Prop where
  before : EventsGrow (secondRead inputs s) b
  courses : b.plan.courses = s.plan.courses
  profiles : b.plan.profiles = s.plan.profiles
  record : taskAt t b = taskAt t s
  read : b.drive.inputs = (secondRead inputs s).drive.inputs
  channels : b.drive.channels.map Channel.unwanted = s.drive.channels.map Channel.unwanted
  after : EventsGrow (taskSecond t b) (runSecond inputs s)
  kept : taskAt t (runSecond inputs s) = taskAt t (taskSecond t b)
  wants : ∀ j, (channelAt j s).role = .heat → (∀ u x, u ≠ t → taskAt u s = some x → x.holds.getLsbD j = false) →
    (channelAt j (taskSecond t b)).want = {} → (channelAt j (runSecond inputs s)).want = {}

theorem second_turn {s : Block} (h : s.runs = true) {t : Nat} (ht : t < 24) (inputs : List SensorInput) :
    ∃ b, Turn t inputs s b := by
  obtain ⟨pre, post, hsplit⟩ := List.append_of_mem (show t ∈ taskIndices from List.mem_range.2 ht)
  have hnodup : (pre ++ t :: post).Nodup := hsplit ▸ List.nodup_range
  obtain ⟨hpre, hcons, hdisjoint⟩ := List.nodup_append.1 hnodup
  obtain ⟨hpost, hpostNodup⟩ := List.nodup_cons.1 hcons
  have htpre : t ∉ pre := fun hmem => hdisjoint t hmem t List.mem_cons_self rfl
  generalize hstart : fractioned (secondRead inputs s) = start
  have hstartGrows : EventsGrow (secondRead inputs s) start := hstart ▸ .of_port rfl rfl
  have hstartPlan : start.plan.courses = s.plan.courses ∧ start.plan.profiles = s.plan.profiles ∧
      start.plan.tasks = s.plan.tasks := by
    rw [← hstart, fractioned, Block.onPlan_plan, secondRead_plan]
    exact ⟨rfl, rfl, rfl⟩
  have hstartDrive : start.drive = (secondRead inputs s).drive := hstart ▸ rfl
  have hstartTask : ∀ u, taskAt u start = taskAt u s := fun u => by rw [taskAt, hstartPlan.2.2, taskAt]
  have hbefore := runTasks_run hpre start
  generalize hb : runTasks pre start = b at hbefore
  have hturn : TaskAct t (fun _ => False) b (taskSecond t b) := taskSecond_act fun _ _ _ h => h.elim
  have hafter := runTasks_run hpostNodup (taskSecond t b)
  have hsecond : runSecond inputs s = secondEnd (secondRead inputs s).plan.tasks (runTasks post (taskSecond t b)) := by
    rw [runSecond_eq h, hstart, hsplit, ← hb]
    simp only [runTasks, List.foldl_append, List.foldl_cons]
  have hchannels : b.drive.channels.map Channel.unwanted = s.drive.channels.map Channel.unwanted := by
    rw [(eq_of_noWants hbefore.drive).2, hstartDrive, secondRead_channels]
  refine ⟨b, hstartGrows.trans hbefore.toEventsGrow, (Plan.eq_of_tasks hbefore.plan).1.trans hstartPlan.1,
    (Plan.eq_of_tasks hbefore.plan).2.1.trans hstartPlan.2.1, (hbefore.others t htpre).trans (hstartTask t),
    (eq_of_noWants hbefore.drive).1.trans (congrArg Drive.inputs hstartDrive), hchannels, ?_, ?_,
    fun j hheat hheld hwant => ?_⟩
  · rw [hsecond]
    exact hafter.toEventsGrow.trans (secondEnd_grows _ _)
  · rw [hsecond, secondEnd_taskAt, hafter.others t hpost]
  · have hrole : (channelAt j (runTasks post (taskSecond t b))).role = .heat := by
      have hunwanted := channelAt_unwanted (j := j)
        ((eq_of_noWants (hafter.drive.trans hturn.drive)).2.trans hchannels)
      exact (eq_of_unwanted hunwanted).2.2.trans hheat
    rw [hsecond, secondEnd_heat hrole]
    refine hafter.wants j (fun u hu x hx => hheld u x (by rintro rfl; exact hpost hu) ?_) hwant
    have hupre : u ∉ pre := fun hmem => hdisjoint u hmem u (List.mem_cons_of_mem _ hu) rfl
    rwa [hturn.others u (by rintro rfl; exact hpost hu), hbefore.others u hupre, hstartTask] at hx

/-! ### What the turn makes of the task -/

section
variable {t : Nat} {k : Task} {b : Block}

/-- What is read at an entry of the task table after it was written is what was written. -/
theorem eq_of_taskAt_setTask {x : Option Task} {y : Task} (h : taskAt t (setTask t x b) = some y) : x = some y := by
  simp only [taskAt, setTask, Block.onPlan_plan, List.getD_eq_getElem?_getD, List.getElem?_set, if_true] at h
  split at h
  · exact h
  · cases h

theorem taskAt_faultTask {k' : Task} {why : TaskFault} (hat : taskAt t b = some k) :
    taskAt t (faultTask t k' why b) = some (k'.toFault why) := by
  rw [faultTask, taskAt_of_plan (releaseWants_plan _ _), taskAt_setTask hat]

/-- The second of a task without a pending edit: its work, with an event where the state changed (R103, R104). -/
theorem taskSecond_of_none (hat : taskAt t b = some k) (hedit : k.edit = none) (hsecond : k.state.hasSecond = true) :
    taskSecond t b =
      if leftState t k.state (taskWork t b) then taskEvent t k.state (taskWork t b) else taskWork t b := by
  have hedited : applyEdit t b = b := applyEdit_of_none fun x hx => by
    rw [← Option.some.inj (hat.symm.trans hx), hedit]
  have hleft : leftState t k.state b = false := by simp [leftState, hat]
  unfold taskSecond
  rw [hat]
  dsimp only
  rw [if_pos hsecond, hedited, hleft, Bool.false_or]

theorem taskAt_taskSecond (hat : taskAt t b = some k) (hedit : k.edit = none) (hsecond : k.state.hasSecond = true) :
    taskAt t (taskSecond t b) = taskAt t (taskWork t b) := by
  rw [taskSecond_of_none hat hedit hsecond]
  split
  · exact taskAt_of_plan (taskEvent_plan _ _ _) t
  · rfl

theorem taskSecond_idle (hat : taskAt t b = some k) (hsecond : k.state.hasSecond = false) : taskSecond t b = b := by
  unfold taskSecond
  rw [hat]
  exact if_neg (by simp [hsecond])

/-- The course of a task stands through its work. -/
theorem taskWork_course {x : Task} (hat : taskAt t b = some k) (hx : taskAt t (taskWork t b) = some x) :
    x.course = k.course := by
  cases taskWork_worked (spared := fun _ => False) hat (fun _ h => h.elim) with
  | faults k' why _ course hb =>
    rw [hb, taskAt_faultTask hat] at hx
    rw [← Option.some.inj hx]
    exact course
  | ran m y _ hb course _ =>
    rw [hb] at hx
    rw [← Option.some.inj (eq_of_taskAt_setTask hx)]
    exact course
  | stands hb =>
    rw [hb, hat] at hx
    rw [← Option.some.inj hx]

/-- A change of a task's state in its second places TASK_STATE with both (R104). -/
theorem taskSecond_offers {x : Task} (hat : taskAt t b = some k) (hedit : k.edit = none)
    (hx : taskAt t (taskSecond t b) = some x) (hne : x.state ≠ k.state) :
    offered (.taskState t ((courseAt k.course b).elim 0 fun c => c.tag) k.state x.state x.fault x.stageIndex) b
      (taskSecond t b) := by
  cases hsecond : k.state.hasSecond with
  | false =>
    rw [taskSecond_idle hat hsecond, hat] at hx
    exact absurd (congrArg Task.state (Option.some.inj hx)).symm hne
  | true =>
    have hwork := hx
    rw [taskAt_taskSecond hat hedit hsecond] at hwork
    have hact := (taskWork_worked (spared := fun _ => False) hat fun _ h => h.elim).act
    have hcourse : courseAt x.course (taskWork t b) = courseAt k.course b := by
      rw [taskWork_course hat hwork, courseAt, (Plan.eq_of_tasks hact.plan).1, courseAt]
    have hleft : leftState t k.state (taskWork t b) = true := by simp [leftState, hwork, hne]
    rw [taskSecond_of_none hat hedit hsecond, if_pos hleft, taskEvent, hwork]
    dsimp only
    rw [hcourse]
    exact offered_of_grows hact.toEventsGrow (offered_offer _ _)

/-- The channels of a task that its second faults want 0 (R113, R115). -/
theorem taskSecond_releases {x : Task} {j : Nat} (hat : taskAt t b = some k) (hedit : k.edit = none)
    (hs : k.state = .waiting ∨ k.state.runs = true) (hx : taskAt t (taskSecond t b) = some x) (hfaulted : x.state = .faulted)
    (hm : k.mask.getLsbD j = true) (hj : j < b.drive.channels.length) :
    (channelAt j (taskSecond t b)).want = {} := by
  have hsecond : k.state.hasSecond = true := by
    obtain hw | hr := hs
    · rw [hw]
      rfl
    · simp [TaskState.hasSecond, hr]
  rw [taskAt_taskSecond hat hedit hsecond] at hx
  have hwork : (channelAt j (taskWork t b)).want = {} := by
    cases taskWork_worked (spared := fun _ => False) hat (fun _ h => h.elim) with
    | faults k' why mask _ hb =>
      rw [hb, faultTask]
      exact releaseWants_want (by rw [mask, hm]) hj
    | ran m y _ hb _ runs =>
      rw [hb] at hx
      rw [Option.some.inj (eq_of_taskAt_setTask hx), hfaulted] at runs
      cases runs
    | stands hb =>
      rw [hb, hat] at hx
      rw [Option.some.inj hx, hfaulted] at hs
      simp [TaskState.runs] at hs
  have hevent : (taskEvent t k.state (taskWork t b)).drive = (taskWork t b).drive := by
    unfold taskEvent
    split <;> simp
  rw [taskSecond_of_none hat hedit hsecond]
  split
  · rwa [channelAt, hevent]
  · exact hwork

/-! ### The faults (R107, R115) -/

theorem isEmpty_healthyOf {m : Mask8} :
    (healthyOf m b).isEmpty = true ↔ ∀ j, m.getLsbD j = true → (channelAt j b).fitted = true → (channelAt j b).healthy = false := by
  rw [List.isEmpty_iff, healthyOf, List.filter_eq_nil_iff]
  simp only [List.mem_map, mem_members, Bool.and_eq_true, not_and, Bool.not_eq_true, channelAt]
  exact ⟨fun h j hj => h _ ⟨j, hj, rfl⟩, fun h c ⟨j, hj, hc⟩ => hc ▸ h j hj⟩

/-- The first fault test that fails, by the input and the channels of the mask (R115). -/
theorem faultTest_eq {why : TaskFault}
    (h : ((inputAt k.sensor b).status ≠ .ok ∧ why = .sensor) ∨
      ((inputAt k.sensor b).status = .ok ∧ (healthyOf k.mask b).isEmpty = true ∧ why = .noChannel)) :
    faultTest k b = some why := by
  unfold faultTest
  obtain ⟨hstatus, rfl⟩ | ⟨hstatus, hempty, rfl⟩ := h
  · rw [if_pos hstatus]
  · rw [if_neg (by simp [hstatus]), if_pos hempty]

theorem taskWork_runs (hat : taskAt t b = some k) (hr : k.state.runs = true) : taskWork t b = testAndRun t k b := by
  unfold taskWork
  rw [hat]
  dsimp only
  cases hs : k.state <;> simp [hs, TaskState.runs] at hr ⊢

theorem taskWork_waiting (hat : taskAt t b = some k) (hw : k.state = .waiting) : taskWork t b = resolveTask t k b := by
  unfold taskWork
  rw [hat]
  dsimp only
  rw [hw]

end

namespace Turn
variable {t : Nat} {inputs : List SensorInput} {s b : Block} {k : Task}

theorem resolveProfile_eq (h : Turn t inputs s b) (i : Nat) : resolveProfile i b = resolveProfile i s := by
  unfold resolveProfile profileAt
  rw [h.profiles]

/-- The fault test at the turn reads this second's input and the channels as they stood (log 10). -/
theorem faultTest (h : Turn t inputs s b) {k : Task} {why : TaskFault} (hl : inputs.length = 8)
    (hi : s.drive.inputs.length = 8) (hsensor : k.sensor < 8)
    (hwhy : ((inputSeen s inputs k.sensor).status ≠ .ok ∧ why = .sensor) ∨
      ((inputSeen s inputs k.sensor).status = .ok ∧ ¬ hasChannel s k ∧ why = .noChannel)) :
    Machine.faultTest k b = some why := by
  have hinput : inputAt k.sensor b = inputSeen s inputs k.sensor := by
    rw [← secondRead_inputAt hl hi hsensor, inputAt, h.read, inputAt]
  refine faultTest_eq (hwhy.imp (fun hs => ?_) fun hs => ?_)
  · rwa [hinput]
  · obtain ⟨hstatus, hchannel, rfl⟩ := hs
    refine ⟨by rwa [hinput], isEmpty_healthyOf.2 fun j hj hfitted => ?_, rfl⟩
    obtain ⟨hfittedSame, hhealthSame, _⟩ := eq_of_unwanted (channelAt_unwanted (j := j) h.channels)
    by_contra hhealthy
    refine hchannel ⟨j, hj, hfittedSame ▸ hfitted, ?_⟩
    rw [← hhealthSame]
    simpa [Channel.healthy, ← or_iff_not_imp_left] using hhealthy

/-- The record of a task with a second, once the second is over. -/
theorem taskAt_end (h : Turn t inputs s b) (hat : taskAt t s = some k) (hedit : k.edit = none)
    (hsecond : k.state.hasSecond = true) : taskAt t (runSecond inputs s) = taskAt t (taskWork t b) := by
  rw [h.kept, taskAt_taskSecond (h.record.trans hat) hedit hsecond]

theorem badProfile (h : Turn t inputs s b) (hat : taskAt t s = some k) (hedit : k.edit = none) (hw : k.state = .waiting)
    (hr : resolveProfile k.profile s = none) :
    taskAt t (runSecond inputs s) = some (faultedFor .badProfile { k with resolved := none }) := by
  have hb := h.record.trans hat
  rw [h.taskAt_end hat hedit (by rw [hw]; rfl), taskWork_waiting hb hw, resolveTask, h.resolveProfile_eq, hr]
  exact taskAt_faultTask hb

theorem faultsRunning (h : Turn t inputs s b) (hat : taskAt t s = some k) (hedit : k.edit = none)
    (hr : k.state.runs = true) {why : TaskFault} (htest : Machine.faultTest k b = some why) :
    taskAt t (runSecond inputs s) = some (faultedFor why k) := by
  have hb := h.record.trans hat
  rw [h.taskAt_end hat hedit (by simp [TaskState.hasSecond, hr]), taskWork_runs hb hr, testAndRun, htest]
  exact taskAt_faultTask hb

theorem faultsWaiting (h : Turn t inputs s b) (hat : taskAt t s = some k) (hedit : k.edit = none)
    (hw : k.state = .waiting) {r : Nat} (hr : resolveProfile k.profile s = some r) {why : TaskFault}
    (htest : Machine.faultTest { k with resolved := some r } b = some why) :
    taskAt t (runSecond inputs s) = some (faultedFor why { k with resolved := some r }) := by
  have hb := h.record.trans hat
  rw [h.taskAt_end hat hedit (by rw [hw]; rfl), taskWork_waiting hb hw, resolveTask, h.resolveProfile_eq, hr]
  dsimp only
  rw [htest]
  exact taskAt_faultTask hb

end Turn

/-- Settles O17: the second by its steps, each task by its turn. -/
theorem secondReadsInputsAndFaults : Obligations.SecondReadsInputsAndFaults := by
  refine ⟨second_reads, fun s inputs t k hruns hl hi ht hat hedit hsensor => ?_⟩
  obtain ⟨b, hturn⟩ := second_turn hruns ht inputs
  have hb := hturn.record.trans hat
  refine completes_of (runSecond inputs) rfl ⟨fun x hx hne => ?_, fun hs ⟨x, hx, hfaulted⟩ j hm hj hheat hheld => ?_,
    hturn.badProfile hat hedit, fun why hwhy => ⟨fun hr => ?_, fun r hw hr => ?_⟩⟩
  · rw [hturn.kept] at hx
    have hoffered := taskSecond_offers hb hedit hx hne
    rw [courseAt, hturn.courses, ← courseAt] at hoffered
    have hevents : s.block.port.events <+: b.port.events :=
      (settled_events s.block).trans ((secondRead_grows inputs s.block).events.trans hturn.before.events)
    exact offered_of_earlier hevents (offered_mono hoffered hturn.after)
  · rw [hturn.kept] at hx
    have hlength : b.drive.channels.length = s.block.drive.channels.length := by
      simpa using congrArg List.length hturn.channels
    exact hturn.wants j hheat hheld (taskSecond_releases hb hedit hs hx hfaulted hm (hlength ▸ hj))
  · exact hturn.faultsRunning hat hedit hr (hturn.faultTest hl hi hsensor hwhy)
  · exact hturn.faultsWaiting hat hedit hw hr (hturn.faultTest (k := { k with resolved := some r }) hl hi hsensor hwhy)

end Sys2Proof.Machine
end

section
/-! PROOFS. Form and line position: what the operations that the blocks share, pages and courses keep (R56, R57, R66, R82,
R85, R133, R149, R172). -/

namespace Sys2Proof.Machine

/-! ## The form of a part -/

/-- Tables and queues have the manual's sizes, the generation memory its canonical form (log 6). -/
structure InForm (b : Block) : Prop where
  queues : queuesBounded b = true
  tables : tablesSized b = true
  memory : memoryCanonical b = true

/-- What the form speaks of: the lengths of the queues, of the tables, and the generation memory. -/
def Block.form (b : Block) : List Nat × List Nat × List (Nat × MemRecord) :=
  ([b.port.events.length, b.line.shiftQueue.length, b.line.pageQueue.length, b.pages.retry.length,
      b.conveyor.queue.length],
    [b.plan.profiles.length, b.plan.courses.length, b.plan.tasks.length, b.pages.table.length, b.drive.channels.length,
      b.drive.inputs.length],
    b.pages.memory)

theorem inForm_of_form {b b' : Block} (h : b'.form = b.form) (hb : InForm b) : InForm b' := by
  simp only [Block.form, Prod.mk.injEq, List.cons.injEq, and_true] at h
  obtain ⟨⟨events, shifts, frames, retry, racks⟩, ⟨profiles, courses, tasks, pages, channels, inputs⟩, memory⟩ := h
  obtain ⟨hqueues, htables, hmemory⟩ := hb
  refine ⟨?_, ?_, ?_⟩
  · rwa [queuesBounded, events, shifts, frames, retry, racks]
  · rwa [tablesSized, profiles, courses, tasks, pages, channels, inputs]
  · rwa [memoryCanonical, memory]

/-- A part in form stays in form, and the line's position stands. -/
structure Keeps (b b' : Block) : Prop where
  form : InForm b → InForm b'
  position : b'.line.position = b.line.position

theorem Keeps.refl (b : Block) : Keeps b b := ⟨id, rfl⟩

theorem Keeps.trans {b c d : Block} (h : Keeps b c) (g : Keeps c d) : Keeps b d :=
  ⟨g.form ∘ h.form, g.position.trans h.position⟩

theorem Keeps.foldl {α : Type} {f : Block → α → Block} (h : ∀ b x, Keeps b (f b x)) (xs : List α) (b : Block) :
    Keeps b (xs.foldl f b) := by
  induction xs generalizing b with
  | nil => exact .refl b
  | cons x rest ih => exact (h b x).trans (ih _)

section
variable {s b : Block}

theorem Keeps.ite (h : Keeps s b) {b' : Block} (h' : Keeps s b') {p : Prop} [Decidable p] :
    Keeps s (if p then b else b') := by
  split
  · exact h
  · exact h'

/-- What leaves form and position. -/
theorem Keeps.same (h : Keeps s b) {b' : Block} (hf : b'.form = b.form)
    (hp : b'.line.position = b.line.position) : Keeps s b' :=
  h.trans ⟨inForm_of_form hf, hp⟩

/-! ### Records that the form does not read -/

theorem Keeps.onStation (h : Keeps s b) {f : Station → Station} : Keeps s (b.onStation f) := h.same rfl rfl

theorem Keeps.onShare (h : Keeps s b) {f : LoadShare → LoadShare} : Keeps s (b.onShare f) := h.same rfl rfl

theorem Keeps.onPeers (h : Keeps s b) {f : List Peer → List Peer} : Keeps s (b.onPeers f) := h.same rfl rfl

theorem Keeps.onCoord (h : Keeps s b) {f : Coordinator → Coordinator} : Keeps s (b.onCoord f) := h.same rfl rfl

theorem Keeps.onPager (h : Keeps s b) {f : Pager → Pager} : Keeps s (b.onPager f) := h.same rfl rfl

theorem Keeps.onStore (h : Keeps s b) {f : Store → Store} : Keeps s (b.onStore f) := h.same rfl rfl

/-! ### Records whose lengths stand -/

theorem Keeps.onPlan (h : Keeps s b) {f : Plan → Plan}
    (hp : (f b.plan).profiles.length = b.plan.profiles.length)
    (hc : (f b.plan).courses.length = b.plan.courses.length)
    (ht : (f b.plan).tasks.length = b.plan.tasks.length) : Keeps s (b.onPlan f) :=
  h.same (by simp [Block.form, hp, hc, ht]) rfl

theorem Keeps.onDrive (h : Keeps s b) {f : Drive → Drive}
    (hc : (f b.drive).channels.length = b.drive.channels.length)
    (hi : (f b.drive).inputs.length = b.drive.inputs.length) : Keeps s (b.onDrive f) :=
  h.same (by simp [Block.form, hc, hi]) rfl

theorem Keeps.onConveyor (h : Keeps s b) {f : Conveyor → Conveyor}
    (hq : (f b.conveyor).queue.length = b.conveyor.queue.length) : Keeps s (b.onConveyor f) :=
  h.same (by simp [Block.form, hq]) rfl

/-- The line's flags and slots. -/
theorem Keeps.onLine (h : Keeps s b) {f : Line → Line}
    (hs : (f b.line).shiftQueue.length = b.line.shiftQueue.length)
    (hq : (f b.line).pageQueue.length = b.line.pageQueue.length)
    (hp : (f b.line).position = b.line.position) : Keeps s (b.onLine f) :=
  h.same (by simp [Block.form, hs, hq]) hp

/-! ### Queues that grow within their places, and those that shrink -/

theorem inForm_iff (b : Block) : InForm b ↔
    (b.port.events.length ≤ 32 ∧ b.line.shiftQueue.length ≤ 2 ∧ b.line.pageQueue.length ≤ 8 ∧ b.pages.retry.length ≤ 4 ∧
      b.conveyor.queue.length ≤ 16) ∧
    (b.plan.profiles.length = 32 ∧ b.plan.courses.length = 8 ∧ b.plan.tasks.length = 24 ∧ b.pages.table.length = 16 ∧
      b.drive.channels.length = 8 ∧ b.drive.inputs.length = 8) ∧ memoryWf b.pages.memory = true := by
  have hqueues : queuesBounded b = true ↔ b.port.events.length ≤ 32 ∧ b.line.shiftQueue.length ≤ 2 ∧
      b.line.pageQueue.length ≤ 8 ∧ b.pages.retry.length ≤ 4 ∧ b.conveyor.queue.length ≤ 16 := by
    simp only [queuesBounded, Bool.and_eq_true, decide_eq_true_eq, and_assoc]
    exact Iff.rfl
  have htables : tablesSized b = true ↔ b.plan.profiles.length = 32 ∧ b.plan.courses.length = 8 ∧
      b.plan.tasks.length = 24 ∧ b.pages.table.length = 16 ∧ b.drive.channels.length = 8 ∧ b.drive.inputs.length = 8 := by
    simp only [tablesSized, Bool.and_eq_true, decide_eq_true_eq, and_assoc]
    exact Iff.rfl
  rw [← hqueues, ← htables]
  exact ⟨fun ⟨q, t, m⟩ => ⟨q, t, m⟩, fun ⟨q, t, m⟩ => ⟨q, t, m⟩⟩

/-- A port whose event queue ends within its places. -/
theorem Keeps.onPort (h : Keeps s b) {f : Port → Port}
    (he : b.port.events.length ≤ 32 → (f b.port).events.length ≤ 32) : Keeps s (b.onPort f) :=
  h.trans ⟨fun hb => by
    rw [inForm_iff] at hb ⊢
    obtain ⟨⟨events, rest⟩, tables⟩ := hb
    exact ⟨⟨he events, rest⟩, tables⟩, rfl⟩

theorem Keeps.onQueues (h : Keeps s b) {f : Line → Line}
    (hs : b.line.shiftQueue.length ≤ 2 → (f b.line).shiftQueue.length ≤ 2)
    (hq : b.line.pageQueue.length ≤ 8 → (f b.line).pageQueue.length ≤ 8)
    (hp : (f b.line).position = b.line.position) : Keeps s (b.onLine f) :=
  h.trans ⟨fun hb => by
    rw [inForm_iff] at hb ⊢
    obtain ⟨⟨events, shifts, frames, rest⟩, tables⟩ := hb
    exact ⟨⟨events, hs shifts, hq frames, rest⟩, tables⟩, hp⟩

/-- Pages whose table keeps its length, whose waiting raises stay within their places and whose memory stays canonical. -/
theorem Keeps.onPages (h : Keeps s b) {f : Pages → Pages}
    (ht : (f b.pages).table.length = b.pages.table.length)
    (hr : b.pages.retry.length ≤ 4 → (f b.pages).retry.length ≤ 4)
    (hm : memoryWf b.pages.memory = true → memoryWf (f b.pages).memory = true) : Keeps s (b.onPages f) :=
  h.trans ⟨fun hb => by
    rw [inForm_iff] at hb ⊢
    obtain ⟨⟨events, shifts, frames, retry, racks⟩, ⟨profiles, courses, tasks, pages, drive⟩, memory⟩ := hb
    exact ⟨⟨events, shifts, frames, hr retry, racks⟩, ⟨profiles, courses, tasks, ht.trans pages, drive⟩, hm memory⟩, rfl⟩

theorem InForm.racks (h : InForm b) : b.conveyor.queue.length ≤ 16 := ((inForm_iff b).1 h).1.2.2.2.2

/-- A tunnel queue written within its places. -/
theorem Keeps.onRacks (h : Keeps s b) {f : Conveyor → Conveyor}
    (hq : InForm s → (f b.conveyor).queue.length ≤ 16) : Keeps s (b.onConveyor f) :=
  ⟨fun hs => by
    have hb := h.form hs
    rw [inForm_iff] at hb ⊢
    obtain ⟨⟨events, shifts, frames, retry, _⟩, tables⟩ := hb
    exact ⟨⟨events, shifts, frames, retry, hq hs⟩, tables⟩, h.position⟩

/-! ### The shared operations -/

theorem Keeps.countBy (h : Keeps s b) {n : CounterName} {k : Nat} : Keeps s (countBy n k b) := h.onPort id

theorem Keeps.count (h : Keeps s b) {n : CounterName} : Keeps s (count n b) := h.countBy

theorem Keeps.offer (h : Keeps s b) {e : EventBody} : Keeps s (offer e b) := by
  refine h.onPort fun he => ?_
  split
  · rename_i hroom
    simpa [Config.eventPlaces] using hroom
  · exact he

theorem Keeps.markDemand (h : Keeps s b) : Keeps s (markDemand b) := .ite (h.onLine rfl rfl rfl) h

theorem Keeps.markCourse (h : Keeps s b) : Keeps s (markCourse b) := .ite (h.onLine rfl rfl rfl) h

/-- A SHIFT entry placed leaves the queue within its places (R56). -/
theorem placeShift_length (l : Line) (e : ShiftEntry) (h : l.shiftQueue.length ≤ 2) : (placeShift l e).1.length ≤ 2 := by
  unfold placeShift
  extract_lets fixed free
  have hsplit : fixed.length + free.length = l.shiftQueue.length := by
    unfold fixed free
    split <;> simp
    omega
  split
  · simpa [hsplit] using h
  · split
    · rename_i hroom
      simpa [Config.shiftPlaces, Nat.lt_succ_iff] using hroom
    · rename_i hfull
      have hfixed : fixed.length ≤ 1 := by
        unfold fixed
        split <;> simp
      simp only [Config.shiftPlaces] at hfull
      simp only [List.length_append, List.length_drop, List.length_singleton]
      omega

theorem Keeps.queueShift (h : Keeps s b) {e : ShiftEntry} : Keeps s (queueShift e b) := by
  unfold Machine.queueShift
  dsimp only
  have hplaced : Keeps s (b.onLine fun l => { l with shiftQueue := (placeShift b.line e).1 }) :=
    h.onQueues (placeShift_length b.line e) id rfl
  exact .ite (.ite hplaced.count hplaced) h

theorem Keeps.queuePage (h : Keeps s b) {f : PageFrame} : Keeps s (queuePage f b).2 := by
  obtain ⟨_, hroom, hq⟩ | ⟨_, _, hq⟩ | ⟨_, hq⟩ := queuePage_cases f b
  · rw [hq]
    exact h.onQueues (f := fun l => { l with pageQueue := l.pageQueue ++ [f] }) id (fun _ => by
      simpa [Config.pagePlaces, Nat.lt_succ_iff] using hroom) rfl
  · rw [hq]
    exact h.count.count
  · rw [hq]
    exact h

theorem Keeps.setMemory (h : Keeps s b) {c : Cause} {r : MemRecord} : Keeps s (setMemory c r b) :=
  h.onPages rfl id (memoryWrite_wf _ _ r)

theorem Keeps.setPage (h : Keeps s b) {i : Nat} {e : Option PageEntry} : Keeps s (setPage i e b) :=
  h.onPages List.length_set id id

theorem Keeps.unlist (h : Keeps s b) {c : Cause} : Keeps s (unlist c b) := h.onPager

theorem Keeps.placeSend (h : Keeps s b) {c : Cause} : Keeps s (placeSend c b) := by
  unfold Machine.placeSend
  split
  · split
    · exact .ite h.onPager h
    · exact h
  · exact h

theorem Keeps.decideElection (h : Keeps s b) : Keeps s (decideElection b) := by
  obtain ⟨_, hd⟩ | ⟨_, _, hd⟩ | ⟨_, _, hd⟩ := decideElection_cases b
  · rw [hd]
    exact h.onPager
  · rw [hd]
    exact h
  · rw [hd]
    exact h.onPager.trans (.foldl (fun b _ => (Keeps.refl b).placeSend) _ _)

theorem Keeps.changeState (h : Keeps s b) {n : StationState} {r : EntryReason} : Keeps s (changeState n r b) :=
  (h.onStation (f := fun s => { s with state := n, reason := r })).offer.decideElection

theorem Keeps.cutGrant (h : Keeps s b) : Keeps s (cutGrant b) := h.onShare

/-! ### Pages -/

theorem Keeps.pageEvent (h : Keeps s b) {e : PageEntry} : Keeps s (pageEvent e b) := h.offer

theorem Keeps.removedEvent (h : Keeps s b) {e : PageEntry} : Keeps s (removedEvent e b) := h.offer

theorem Keeps.learn (h : Keeps s b) {c : Cause} {g : Nat} {x : Bool} : Keeps s (learn c g x b) := h.setMemory

theorem Keeps.makeEntry (h : Keeps s b) {i : Nat} {w : Waiting} : Keeps s (makeEntry i w b) :=
  h.setMemory.setPage.pageEvent.count.queuePage.placeSend

theorem Keeps.enterRetry (h : Keeps s b) : Keeps s (enterRetry b) := by
  unfold Machine.enterRetry
  split
  · rename_i w rest i hretry _
    exact (h.onPages rfl (fun hlen => by rw [hretry] at hlen; exact Nat.le_of_succ_le hlen) id).makeEntry
  · exact h

theorem Keeps.joinRetry (h : Keeps s b) {c : Cause} {p' l : Nat} : Keeps s (joinRetry c p' l b).1 := by
  unfold Machine.joinRetry
  split
  · exact (h.onPages rfl (List.length_map _).trans_le id).count
  · split
    · rename_i hroom
      have hlength : b.pages.retry.length + 1 ≤ 4 := hroom
      exact h.onPages (f := fun p => { p with retry := p.retry ++ [{ cause := c, priority := p', level := l, merges := 1 }] })
        rfl (fun _ => by simpa using hlength) id
    · exact h.count.offer

theorem Keeps.raiseWith (h : Keeps s b) {c : Cause} {p l : Nat} : Keeps s (raiseWith c p l b).1 := by
  unfold Machine.raiseWith
  split
  · exact h.setPage.count
  · split
    · exact h.makeEntry
    · exact h.joinRetry

theorem Keeps.raise (h : Keeps s b) {k : CauseKind} {n : Nat} : Keeps s (raise k n b) := h.raiseWith

theorem Keeps.removeEntry (h : Keeps s b) {i : Nat} {e : PageEntry} {g : Nat} : Keeps s (removeEntry i e g b) :=
  h.setMemory.setPage.unlist.removedEvent.enterRetry

theorem Keeps.offerClear (h : Keeps s b) {i : Nat} {e : PageEntry} : Keeps s (offerClear i e b) :=
  .ite h.queuePage.removeEntry h.queuePage.setPage.unlist

theorem Keeps.resolve (h : Keeps s b) {c : Cause} : Keeps s (resolve c b) := by
  unfold Machine.resolve
  split
  · exact .ite h.offerClear h
  · exact h

theorem Keeps.resolved (h : Keeps s b) {k : CauseKind} {n : Nat} : Keeps s (resolved k n b) := h.resolve

theorem Keeps.copyAt (h : Keeps s b) {i : Nat} {f : RaiseBody} : Keeps s (copyAt i f b) :=
  (h.onPages rfl (List.length_filter_le _ _).trans id).setMemory.setPage.pageEvent.placeSend

theorem Keeps.mergeRaise (h : Keeps s b) {i : Nat} {e : PageEntry} {f : RaiseBody} : Keeps s (mergeRaise i e f b) := by
  unfold Machine.mergeRaise
  extract_lets own e' written risen noted listed raised
  have hrisen : Keeps s risen := .ite h.setPage.setMemory h.setPage
  have hlisted : Keeps s listed := (Keeps.ite hrisen.pageEvent hrisen).placeSend
  have hraised : Keeps s raised := .ite hlisted.queuePage hlisted
  exact .ite hraised.queuePage hraised

theorem Keeps.raiseAbsent (h : Keeps s b) {f : RaiseBody} {r : MemRecord} : Keeps s (raiseAbsent f r b) := by
  unfold Machine.raiseAbsent
  split
  · exact h
  · split
    · exact h.copyAt
    · split
      · exact h.setPage.unlist.removedEvent.count.copyAt
      · exact h.count

theorem Keeps.heardRaise (h : Keeps s b) {f : RaiseBody} : Keeps s (heardRaise f b) := by
  unfold Machine.heardRaise
  dsimp only
  split
  · exact h.learn.raiseAbsent
  · exact .ite h.learn (.ite h.learn.copyAt (.ite h.learn.mergeRaise h.learn))

theorem Keeps.ackEntry (h : Keeps s b) {i : Nat} {e : PageEntry} : Keeps s (ackEntry i e b) :=
  h.setPage.unlist.pageEvent

theorem Keeps.clearIfOneShot (h : Keeps s b) {c : Cause} : Keeps s (clearIfOneShot c b) := by
  unfold Machine.clearIfOneShot
  split
  · exact .ite h.offerClear h
  · exact h

theorem Keeps.heardAck (h : Keeps s b) {c : Cause} {g : Nat} : Keeps s (heardAck c g b) := by
  unfold Machine.heardAck
  dsimp only
  split
  · exact .ite h.learn.ackEntry.clearIfOneShot h.learn
  · exact h.learn

theorem Keeps.heardClear (h : Keeps s b) {c : Cause} {g : Nat} : Keeps s (heardClear c g b) := by
  unfold Machine.heardClear
  dsimp only
  split
  · exact .ite h.learn.removeEntry h.learn
  · exact h.learn

theorem Keeps.radioAck (h : Keeps s b) {c : Option Cause} {g : Nat} : Keeps s (radioAck c g b) := by
  unfold Machine.radioAck
  split
  · exact h.count
  · split
    · exact .ite h.count (.ite h.ackEntry.queuePage.clearIfOneShot h)
    · exact h.count

theorem Keeps.expireAck (h : Keeps s b) {i : Nat} : Keeps s (expireAck i b) := by
  unfold Machine.expireAck
  split
  · exact h
  · exact (Keeps.ite h.setPage.setMemory h.setPage).queuePage.pageEvent.count.placeSend

theorem Keeps.retryClear (h : Keeps s b) {i : Nat} : Keeps s (retryClear i b) := by
  unfold Machine.retryClear
  split
  · exact h
  · exact h.offerClear

theorem Keeps.adoptPage (h : Keeps s b) {l : Nat} {c : Cause} : Keeps s (adoptPage l c b) := by
  unfold Machine.adoptPage
  split
  · exact .ite (.ite h.setPage.pageEvent.offerClear
      (.ite h.setPage.pageEvent.queuePage.placeSend h.setPage.pageEvent.queuePage)) h
  · exact h

theorem Keeps.orphanPages (h : Keeps s b) {l : Nat} {x : Option Nat} : Keeps s (orphanPages l x b) :=
  .ite (h.trans (.foldl (fun b _ => (Keeps.refl b).adoptPage) _ _)) h

theorem Keeps.withdraw (h : Keeps s b) {r : Received} : Keeps s (withdraw r b) :=
  h.onQueues (List.length_filter_le _ _).trans (List.length_filter_le _ _).trans rfl

/-! ### Courses -/

theorem Keeps.setCourse (h : Keeps s b) {i : Nat} {c : Option Course} : Keeps s (setCourse i c b) :=
  h.onPlan rfl List.length_set rfl

theorem Keeps.mapCourses (h : Keeps s b) {f : Course → Course} : Keeps s (mapCourses f b) :=
  h.onPlan rfl (List.length_map _) rfl

theorem Keeps.storeCourseState (h : Keeps s b) {i : Nat} {x : CourseState} : Keeps s (storeCourseState i x b) := by
  unfold Machine.storeCourseState
  split
  · exact .ite h (.ite h.setCourse.offer.resolved h.setCourse.offer)
  · exact h

theorem Keeps.storeLateDue (h : Keeps s b) {i : Nat} {x : Bool} : Keeps s (storeLateDue i x b) := by
  unfold Machine.storeLateDue
  split
  · exact .ite h.setCourse.raise h.setCourse
  · exact h

theorem Keeps.deriveCourse (h : Keeps s b) {i : Nat} : Keeps s (deriveCourse i b) := by
  unfold Machine.deriveCourse
  split
  · exact h.storeCourseState.storeLateDue
  · exact h

theorem Keeps.evalReady (h : Keeps s b) {i : Nat} : Keeps s (evalReady i b) := by
  unfold Machine.evalReady
  split
  · exact .ite h.setCourse.raise h.setCourse
  · exact h

theorem Keeps.evalAllReady (h : Keeps s b) : Keeps s (evalAllReady b) :=
  h.trans (.foldl (fun b _ => (Keeps.refl b).evalReady) _ _)

theorem Keeps.courseChange (h : Keeps s b) {i : Nat} : Keeps s (courseChange i b) := h.deriveCourse.evalReady.markCourse

theorem Keeps.courseSecond (h : Keeps s b) {i : Nat} : Keeps s (courseSecond i b) := by
  unfold Machine.courseSecond
  split
  · exact (Keeps.ite h.deriveCourse.raise h.deriveCourse).evalReady
  · exact h

theorem Keeps.coursesSecond (h : Keeps s b) : Keeps s (coursesSecond b) :=
  h.trans (.foldl (fun b _ => (Keeps.refl b).courseSecond) _ _)

theorem Keeps.adoptVersion (h : Keeps s b) {i v o : Nat} {x : Bool} : Keeps s (adoptVersion i v o x b) := by
  unfold Machine.adoptVersion
  split
  · exact .ite h.setCourse.deriveCourse.markCourse.offer h
  · exact h

theorem Keeps.takeCourseItem (h : Keeps s b) {n : Nat} {x : CourseItem} : Keeps s (takeCourseItem n b x) := by
  unfold Machine.takeCourseItem
  split
  · exact h.setCourse.adoptVersion
  · exact h

theorem Keeps.heardCourse (h : Keeps s b) {n : Nat} {xs : List CourseItem} : Keeps s (heardCourse n xs b) :=
  (h.onCoord.trans (.foldl (fun b _ => (Keeps.refl b).takeCourseItem) _ _)).mapCourses.evalAllReady

theorem Keeps.heardShift (h : Keeps s b) {x : ShiftBody} : Keeps s (heardShift x b) := by
  unfold Machine.heardShift
  split
  · exact h.adoptVersion.evalReady
  · exact h

theorem Keeps.shiftCourse (h : Keeps s b) {i o : Nat} {c : Course} {x : Bool} : Keeps s (shiftCourse i c o x b) :=
  h.setCourse.queueShift.courseChange

end

end Sys2Proof.Machine
end

section
/-! PROOFS. Form and line position: what conveyor, Load Share Unit, drive, plan, Task Engine and Station Control keep (R56,
R57, R66, R82, R85, R133, R149, R172). -/

namespace Sys2Proof.Machine

section
variable {s b : Block}

/-! ### The conveyor -/

theorem Keeps.readRinse (h : Keeps s b) : Keeps s (readRinse b) := .ite (h.onConveyor rfl) (h.onConveyor rfl)

theorem Keeps.computeSpeed (h : Keeps s b) : Keeps s (computeSpeed b) := by
  unfold Machine.computeSpeed
  exact h.onConveyor rfl

theorem Keeps.setDishWants (h : Keeps s b) : Keeps s (setDishWants b) := h.onDrive (List.length_map _) rfl

theorem Keeps.closeHold (h : Keeps s b) : Keeps s (closeHold b) := by
  unfold Machine.closeHold
  dsimp only
  split
  · exact (h.onConveyor rfl).resolved
  · exact h.onConveyor rfl

theorem Keeps.raiseHold (h : Keeps s b) {n : Nat} : Keeps s (raiseHold n b) := (h.onConveyor rfl).raise

theorem Keeps.settleHold (h : Keeps s b) {x y : ConveyorState} : Keeps s (settleHold x y b) := by
  unfold Machine.settleHold
  extract_lets closed
  have hclosed : Keeps s closed := by
    unfold closed
    split
    · split
      · split
        · exact h.resolved.raiseHold
        · exact h
      · exact h.closeHold
    · exact h
  split
  · exact hclosed.raiseHold
  · exact hclosed.raiseHold
  · exact .ite (hclosed.onConveyor rfl) hclosed

theorem Keeps.endAdvance (h : Keeps s b) {o : AdvanceOutcome} : Keeps s (endAdvance o b) := .ite (h.onConveyor rfl).offer h

theorem Keeps.supersedeAdvance (h : Keeps s b) {x : ConveyorState} : Keeps s (supersedeAdvance x b) := .ite h.endAdvance h

theorem Keeps.deriveConveyor (h : Keeps s b) : Keeps s (deriveConveyor b) :=
  .ite h (h.onConveyor rfl).setDishWants.settleHold.offer.supersedeAdvance

theorem Keeps.settleEmpty (h : Keeps s b) : Keeps s (settleEmpty b) := .ite h.closeHold h

theorem Keeps.countHold (h : Keeps s b) : Keeps s (countHold b) := .ite (h.onConveyor rfl) h

theorem Keeps.timeoutHold (h : Keeps s b) : Keeps s (timeoutHold b) := by
  unfold Machine.timeoutHold
  split
  · split
    · exact h.raiseHold
    · exact h
  · exact h

theorem Keeps.countAdvance (h : Keeps s b) : Keeps s (countAdvance b) := h.onConveyor rfl

theorem Keeps.timeoutAdvance (h : Keeps s b) : Keeps s (timeoutAdvance b) := .ite h.endAdvance h

theorem Keeps.rinseHealthChanged (h : Keeps s b) {r : Role} : Keeps s (rinseHealthChanged r b) :=
  .ite h.computeSpeed.deriveConveyor h

theorem Keeps.conveyorSecond (h : Keeps s b) : Keeps s (conveyorSecond b) :=
  .ite h.countHold.readRinse.deriveConveyor.setDishWants.countAdvance h

theorem Keeps.endJam (h : Keeps s b) : Keeps s (endJam b) := .ite (h.onConveyor rfl).resolved h

theorem Keeps.pulse (h : Keeps s b) : Keeps s (pulse b) := (h.onConveyor (List.length_map _)).endAdvance.deriveConveyor

theorem Keeps.tenth (h : Keeps s b) : Keeps s (tenth b) := .ite (h.onConveyor (List.length_map _)).deriveConveyor h

/-- A rack appended while the tunnel queue has a place (R133, R141). -/
theorem Keeps.appendRack (h : Keeps s b) {l : LoadKind} {n : Nat} (hroom : InForm s → b.conveyor.queue.length < 16) :
    Keeps s (appendRack l n b) :=
  (h.onRacks fun hs => List.length_append.trans_le (hroom hs)).offer

theorem Keeps.rackEnters (h : Keeps s b) : Keeps s (rackEnters b) := by
  unfold Machine.rackEnters
  extract_lets load taken
  have htaken : Keeps s taken := h.onConveyor rfl
  split
  · rename_i hroom
    exact (htaken.appendRack fun _ => hroom.2).deriveConveyor
  · exact (htaken.onConveyor rfl).offer.deriveConveyor

theorem Keeps.rackLeaves (h : Keeps s b) : Keeps s (rackLeaves b) := by
  unfold Machine.rackLeaves
  split
  · exact h.count
  · rename_i r rest hqueue
    split
    · extract_lets b1
      have hb1 : Keeps s b1 := h.onRacks fun hs => by
        have hlen := (h.form hs).racks
        rw [hqueue] at hlen
        split <;> exact Nat.le_of_succ_le hlen
      exact hb1.offer.settleEmpty.endJam.deriveConveyor
    · exact h.count

theorem Keeps.dropUntracked (h : Keeps s b) : Keeps s (dropUntracked b) := .ite (h.onConveyor rfl).resolved (h.onConveyor rfl)

theorem endJam_queue (b : Block) : (endJam b).conveyor.queue = b.conveyor.queue := by
  unfold endJam
  split
  · simp
  · rfl

/-- The head rack removed makes room for the untracked one that is then taken in (R143). -/
theorem Keeps.removeHead (h : Keeps s b) {r : Rack} {rest : List Rack} (hqueue : b.conveyor.queue = r :: rest) :
    Keeps s (removeHead r rest b) := by
  unfold Machine.removeHead
  extract_lets removed entered
  have hroom : InForm s → rest.length < 16 := fun hs => by
    have hlen := (h.form hs).racks
    rwa [hqueue] at hlen
  have hremoved : Keeps s removed := (h.onRacks fun hs => (hroom hs).le).endJam
  have hentered : Keeps s entered :=
    .ite (hremoved.appendRack fun hs => (congrArg List.length (endJam_queue _)).trans_lt (hroom hs)).dropUntracked hremoved
  exact hentered.settleEmpty.deriveConveyor

/-! ### The Load Share Unit -/

theorem Keeps.formInputs (h : Keeps s b) : Keeps s (formInputs b) := by
  unfold Machine.formInputs
  exact h.onShare

theorem Keeps.divideFeeder (h : Keeps s b) : Keeps s (divideFeeder b) := by
  unfold Machine.divideFeeder
  exact h.onShare

theorem Keeps.applyGrant (h : Keeps s b) : Keeps s (applyGrant b) := by
  unfold Machine.applyGrant
  extract_lets held grant granted curtailed
  have hcurtailed : Keeps s curtailed := .ite h.onShare.count h.onShare
  exact .ite hcurtailed.count hcurtailed

theorem Keeps.bookOvercommit (h : Keeps s b) : Keeps s (bookOvercommit b) :=
  .ite h (.ite h.onShare.count.raise (.ite (.ite h.onShare.resolved h.onShare) h))

theorem Keeps.shareRound (h : Keeps s b) : Keeps s (shareRound b) := h.formInputs.divideFeeder.applyGrant.bookOvercommit

/-! ### The drive -/

theorem Keeps.readInput (h : Keeps s b) {i : Nat} {x : SensorInput} : Keeps s (readInput i x b) :=
  have hread := h.onDrive rfl List.length_set
  .ite hread hread.offer

theorem Keeps.readInputs (h : Keeps s b) {i : Nat} {xs : List SensorInput} : Keeps s (readInputs i xs b) := by
  induction xs generalizing i b with
  | nil => exact h
  | cons x rest ih => exact ih h.readInput

theorem Keeps.setChannel (h : Keeps s b) {k : Nat} {c : Channel} : Keeps s (setChannel k c b) := h.onDrive List.length_set rfl

theorem Keeps.settleStarved (h : Keeps s b) {k : Nat} : Keeps s (settleStarved k b) :=
  .ite (.ite h.setChannel.offer h.setChannel) h

theorem numberChannels_length (f : Nat → Channel → Channel) (k : Nat) (cs : List Channel) :
    (numberChannels f k cs).length = cs.length := by
  induction cs generalizing k with
  | nil => rfl
  | cons c rest ih => simp [numberChannels, ih]

theorem Keeps.completeWindow (h : Keeps s b) : Keeps s (completeWindow b) :=
  (h.onDrive rfl rfl).trans (.foldl (fun b _ => (Keeps.refl b).settleStarved) _ _)

theorem Keeps.openWindow (h : Keeps s b) : Keeps s (openWindow b) := by
  unfold Machine.openWindow
  extract_lets grant opened
  have hopened : Keeps s opened := h.onDrive (numberChannels_length _ _ _) rfl
  exact .ite hopened.computeSpeed.deriveConveyor hopened

theorem Keeps.windowStart (h : Keeps s b) : Keeps s (windowStart b) := .ite h.completeWindow.openWindow h

theorem Keeps.sampleLine (h : Keeps s b) {v : Nat} : Keeps s (sampleLine v b) := by
  unfold Machine.sampleLine
  extract_lets volts low was sampled
  have hsampled : Keeps s sampled := h.onDrive (by dsimp only; split <;> simp) rfl
  exact .ite hsampled hsampled.offer

theorem Keeps.elementFault (h : Keeps s b) {k m : Nat} {x : Health} : Keeps s (elementFault k x m b) :=
  h.raise.offer.rinseHealthChanged

theorem Keeps.completeCheck (h : Keeps s b) {k m : Nat} : Keeps s (completeCheck k m b) :=
  .ite h.setChannel.elementFault (.ite h.setChannel.elementFault (.ite h.setChannel.offer h.setChannel))

theorem Keeps.checkChannel (h : Keeps s b) {t k : Nat} {ms : List Nat} : Keeps s (checkChannel t ms k b) :=
  .ite h.completeCheck h

theorem Keeps.tick (h : Keeps s b) {v : Nat} {ms : List Nat} : Keeps s (tick v ms b) :=
  .ite ((h.sampleLine.onDrive (numberChannels_length _ _ _) rfl).trans
    (.foldl (fun b _ => (Keeps.refl b).checkChannel) _ _)) h

/-! ### The plan -/

theorem Keeps.setTask (h : Keeps s b) {t : Nat} {k : Option Task} : Keeps s (setTask t k b) :=
  h.onPlan rfl rfl List.length_set

theorem Keeps.setProfile (h : Keeps s b) {i : Nat} {p : Profile} : Keeps s (setProfile i p b) :=
  h.onPlan List.length_set rfl rfl

theorem Keeps.releaseWants (h : Keeps s b) {m : Mask8} : Keeps s (releaseWants m b) :=
  h.trans (.foldl (fun b _ => (Keeps.refl b).onDrive List.length_set rfl) _ _)

theorem Keeps.taskEvent (h : Keeps s b) {t : Nat} {x : TaskState} : Keeps s (taskEvent t x b) := by
  unfold Machine.taskEvent
  split
  · exact h.offer
  · exact h

theorem Keeps.testPlates (h : Keeps s b) {i : Nat} : Keeps s (testPlates i b) := by
  unfold Machine.testPlates
  split
  · exact .ite h.resolved h
  · exact h

theorem Keeps.passTask (h : Keeps s b) {i t : Nat} : Keeps s (passTask i t b) := by
  unfold Machine.passTask
  split
  · exact .ite h.setTask.releaseWants.taskEvent h
  · exact h

theorem Keeps.applyEdit (h : Keeps s b) {t : Nat} : Keeps s (applyEdit t b) := by
  unfold Machine.applyEdit
  split
  · split
    · exact (Keeps.ite h.setTask.releaseWants.releaseWants h.setTask.releaseWants).testPlates
    · exact h
  · exact h

/-! ### The Task Engine -/

theorem Keeps.presentWants (h : Keeps s b) {v : TaskView} {k : Task} : Keeps s (presentWants v k b) :=
  h.trans (.foldl (fun b _ => (Keeps.refl b).onDrive List.length_set rfl) _ _)

theorem Keeps.faultTask (h : Keeps s b) {t : Nat} {k : Task} {x : TaskFault} : Keeps s (faultTask t k x b) :=
  h.setTask.releaseWants

theorem Keeps.plateTest (h : Keeps s b) {v : TaskView} {k : Task} : Keeps s (plateTest v k b).2 := by
  unfold Machine.plateTest
  split
  · exact .ite h.raise h
  · exact h

theorem Keeps.runTask (h : Keeps s b) {t : Nat} {k : Task} {d : Direct} : Keeps s (runTask t k d b) :=
  h.plateTest.presentWants.setTask

theorem Keeps.testAndRun (h : Keeps s b) {t : Nat} {k : Task} : Keeps s (testAndRun t k b) := by
  unfold Machine.testAndRun
  split
  · exact h.faultTask
  · split
    · exact h.runTask
    · exact h

theorem Keeps.resolveTask (h : Keeps s b) {t : Nat} {k : Task} : Keeps s (resolveTask t k b) := by
  unfold Machine.resolveTask
  split
  · exact h.faultTask
  · dsimp only
    split
    · exact h.faultTask
    · exact h.testAndRun

theorem Keeps.taskWork (h : Keeps s b) {t : Nat} : Keeps s (taskWork t b) := by
  unfold Machine.taskWork
  split
  · split
    · exact h.resolveTask
    · exact h.testAndRun
    · exact h.testAndRun
    · exact h.testAndRun
    · exact h.testAndRun
    · exact h
    · exact h
    · exact h
  · exact h

theorem Keeps.noteTask (h : Keeps s b) {t : Nat} {x : TaskState} : Keeps s (noteTask t x b) := .ite h.taskEvent h

theorem Keeps.taskSecond (h : Keeps s b) {t : Nat} : Keeps s (taskSecond t b) := by
  unfold Machine.taskSecond
  split
  · exact .ite (.ite h.applyEdit.taskWork.taskEvent h.applyEdit.taskWork) h
  · exact h

theorem Keeps.handOn (h : Keeps s b) {ks : List (Option Task)} {t : Nat} : Keeps s (handOn ks t b) := by
  unfold Machine.handOn
  split
  · exact .ite h.courseChange h
  · exact h

theorem Keeps.engineSecond (h : Keeps s b) : Keeps s (engineSecond b) :=
  ((h.onPlan rfl rfl rfl).trans (.foldl (fun b _ => (Keeps.refl b).taskSecond) _ _)).trans
    (.foldl (fun b _ => (Keeps.refl b).handOn) _ _)

theorem Keeps.editApplies (h : Keeps s b) {t : Nat} : Keeps s (editApplies t b) := by
  unfold Machine.editApplies
  split
  · exact .ite h.onStation.applyEdit.noteTask.courseChange.onStation h
  · exact h

/-! ### Frames -/

theorem Keeps.judgeSignature (h : Keeps s b) {i : Nat} {g : Word16} : Keeps s (judgeSignature i g b) :=
  .ite h.resolved h.raise

theorem Keeps.heardDemand (h : Keeps s b) {i x : Nat} {d : Demand} : Keeps s (heardDemand i x d b) := by
  have hjudged : Keeps s (demandJudged i x d b) := h.countBy.onPeers.resolved.judgeSignature
  have hadopted : Keeps s (if demandRestarts i x b then Machine.orphanPages i (some i) (demandJudged i x d b)
      else demandJudged i x d b) := .ite hjudged.orphanPages hjudged
  exact (Keeps.ite hadopted.decideElection hadopted).evalAllReady

theorem Keeps.handle (h : Keeps s b) {i x : Nat} {r : Received} : Keeps s (handle i x r b) := by
  cases r with
  | demand d => exact h.heardDemand
  | course items => exact h.heardCourse
  | shift f => exact h.heardShift
  | raise f => exact h.heardRaise
  | ack c g => exact h.heardAck
  | clear c g => exact h.heardClear

theorem Keeps.acceptFrame (h : Keeps s b) {i x : Nat} {f : Option FrameForm} {bs : List Byte} :
    Keeps s (acceptFrame i x f bs b) := by
  unfold Machine.acceptFrame
  split
  · split
    · split
      · exact h.count.handle.withdraw
      · exact h.count
    · exact h.count
  · exact h.count

theorem Keeps.enterLocal (h : Keeps s b) : Keeps s (enterLocal b) :=
  (h.onQueues (fun _ => by simp) (fun _ => by simp) rfl).changeState.cutGrant

theorem Keeps.duplicate (h : Keeps s b) : Keeps s (duplicate b) := .ite h h.enterLocal

/-! ### Station Control -/

theorem Keeps.losePeer (h : Keeps s b) {i : Nat} : Keeps s (losePeer b i) := h.raise.orphanPages.resolved.mapCourses

theorem Keeps.agePeers (h : Keeps s b) : Keeps s (agePeers b) :=
  h.onPeers.trans (.foldl (fun b _ => (Keeps.refl b).losePeer) _ _)

theorem Keeps.enterActive (h : Keeps s b) {r : EntryReason} : Keeps s (enterActive r b) := h.onStation.changeState

theorem Keeps.enterIsolated (h : Keeps s b) {r : EntryReason} : Keeps s (enterIsolated r b) :=
  h.onStation.changeState.cutGrant

theorem Keeps.controlRound (h : Keeps s b) : Keeps s (controlRound b) := by
  unfold Machine.controlRound
  split
  · exact .ite (.ite h.onStation.enterActive h.onStation.enterIsolated) h.onStation
  · exact .ite h.onStation.enterIsolated h.onStation
  · exact .ite h.onStation.enterActive h.onStation
  · exact h
  · exact h
  · exact h

theorem Keeps.pruneParticipants (h : Keeps s b) : Keeps s (pruneParticipants b) := h.mapCourses.onCoord.evalAllReady

theorem Keeps.toggleParity (h : Keeps s b) : Keeps s (toggleParity b) := .ite h.onCoord h.onCoord.markCourse

theorem Keeps.handOnDemand (h : Keeps s b) : Keeps s (handOnDemand b) := .ite h.markDemand h

theorem Keeps.runRound (h : Keeps s b) : Keeps s (runRound b) :=
  .ite h.agePeers.controlRound.decideElection.pruneParticipants.shareRound.toggleParity.handOnDemand h

theorem Keeps.settleSecond (h : Keeps s b) : Keeps s (settleSecond b) := by
  unfold Machine.settleSecond
  extract_lets expired retried
  have hexpired : Keeps s expired := h.trans (.foldl (fun b _ => (Keeps.refl b).expireAck) _ _)
  have hretried : Keeps s retried := hexpired.trans (.foldl (fun b _ => (Keeps.refl b).retryClear) _ _)
  exact .ite hretried.timeoutHold.timeoutAdvance hretried

theorem Keeps.runSecond (h : Keeps s b) {xs : List SensorInput} : Keeps s (runSecond xs b) :=
  .ite h (.ite h.settleSecond.onStation.readInputs.engineSecond.coursesSecond.conveyorSecond h.onStation)

theorem Keeps.setRadio (h : Keeps s b) {r : Radio} : Keeps s (setRadio r b) := .ite h h.onPager.offer.decideElection

theorem Keeps.radioStatus (h : Keeps s b) {r : Radio} : Keeps s (radioStatus r b) := .ite h.setRadio h

theorem Keeps.sendHead (h : Keeps s b) : Keeps s (sendHead b) := by
  unfold Machine.sendHead
  split
  · split
    · exact h.onPager
    · exact h
  · exact h

theorem Keeps.taken (h : Keeps s b) {c : Option Cause} {g : Nat} : Keeps s (taken c g b) := .ite h.onPager h

theorem Keeps.sendExpired (h : Keeps s b) : Keeps s (sendExpired b) := by
  unfold Machine.sendExpired
  split
  · exact .ite h.onPager.placeSend.setRadio h
  · exact h

theorem Keeps.radioAcks (h : Keeps s b) {c : Option Cause} {g : Nat} : Keeps s (radioAcks c g b) := .ite h.radioAck h

theorem Keeps.holdReset (h : Keeps s b) : Keeps s (holdReset b) :=
  ((h.onStation.onDrive (List.length_map _) rfl).onLine rfl rfl rfl).onStore

theorem Keeps.whenRuns (h : Keeps s b) {f : Block → Block} (hf : Keeps s (f b)) : Keeps s (whenRuns f b) := .ite hf h

theorem Keeps.whenDish (h : Keeps s b) {f : Block → Block} (hf : Keeps s (f b)) : Keeps s (whenDish f b) := .ite hf h

end

end Sys2Proof.Machine
end

section
/-! PROOFS. What each command keeps: the form of tables and queues (R56, R57, R66, R82, R85, R133, R149, R172), and that no
transmission begins but at a slot start (R52, R64). -/

namespace Sys2Proof.Machine

/-! ## The owners of the host's commands -/

/-- The owner of a command that it accepts keeps form and line position. -/
def ownerForms (own : Block → Answer) : Prop := ∀ b b' data, own b = .ok (b', data) → Keeps b b'

theorem Keeps.deliver {s b : Block} (h : Keeps s b) : Keeps s (deliver b) := h.onPort id

theorem Keeps.answer {s b : Block} (h : Keeps s b) {r : Response} : Keeps s (answer r b) := h.onPort id

theorem Keeps.numbered8 {s b : Block} (h : Keeps s b) : Keeps s (numbered8 b) := h.onPort id

theorem transfer_keeps {own : Block → Answer} (h : ownerForms own) (code : Nat) (bad : Bool) (gate : StateGate)
    (dish : Bool) (b : Block) : Keeps b (transfer code bad gate dish own b) := by
  have hdeliver : Keeps b (deliver b) := (Keeps.refl b).deliver
  unfold transfer
  split
  · cases hg : gates bad gate dish own (deliver b) with
    | error r => simpa [conclude, hg] using hdeliver.numbered8.answer
    | ok x =>
      obtain ⟨after, data⟩ := x
      have hown : own (deliver b) = .ok (after, data) := by
        unfold gates at hg
        split_ifs at hg
        exact hg
      simpa [conclude, hg] using (hdeliver.trans (h _ _ _ hown)).numbered8.answer
  · exact .refl b

theorem ownReadStatus_forms : ownerForms ownReadStatus := by
  rintro b b' data ⟨⟩
  exact .refl b

theorem ownReadEvent_forms : ownerForms ownReadEvent := by
  intro b b' data h
  unfold ownReadEvent at h
  split at h
  · cases h
    exact .refl b
  · rename_i e rest hevents
    cases h
    exact (Keeps.refl b).onPort fun hlen => by
      rw [hevents] at hlen
      exact Nat.le_of_succ_le hlen

theorem ownReadTable_forms (selector : Nat) : ownerForms (ownReadTable selector) := by
  intro b b' data h
  unfold ownReadTable at h
  split at h <;> cases h
  exact .refl b

theorem ownReadCounters_forms : ownerForms ownReadCounters := by
  rintro b b' data ⟨⟩
  exact .refl b

theorem ownClearCounters_forms : ownerForms ownClearCounters := by
  rintro b b' data ⟨⟩
  exact (Keeps.refl b).onPort id

theorem ownPostProfile_forms (i : Byte) (p : ProfileFields) : ownerForms (ownPostProfile i p) := by
  intro b b' data h
  unfold ownPostProfile at h
  split at h
  · cases h
  · cases checked_ok h
    exact (Keeps.refl b).setProfile

theorem ownDeleteProfile_forms (i : Byte) : ownerForms (ownDeleteProfile i) := by
  intro b b' data h
  cases checked_ok h
  exact (Keeps.refl b).setProfile

theorem ownPostCourse_forms (tag version : Byte) (offset : Word16) (lead : Option Word16) :
    ownerForms (ownPostCourse tag version offset lead) := by
  intro b b' data h
  unfold ownPostCourse at h
  dsimp only at h
  repeat' split at h
  all_goals cases h
  exact (Keeps.refl b).setCourse.courseChange

theorem ownDeleteCourse_forms (tag : Byte) : ownerForms (ownDeleteCourse tag) := by
  intro b b' data h
  unfold ownDeleteCourse at h
  repeat' split at h
  all_goals cases h
  exact ((Keeps.refl b).onPlan rfl List.length_set (List.length_map _)).resolved.resolved.markCourse

theorem ownSetLock_forms (tag : Byte) (lock : Bool) : ownerForms (ownSetLock tag lock) := by
  intro b b' data h
  unfold ownSetLock at h
  split at h <;> cases h
  exact (Keeps.refl b).setCourse

theorem ownShiftCourse_forms (tag : Byte) (offset : Word16) (hold : Byte) :
    ownerForms (ownShiftCourse tag offset hold) := by
  intro b b' data h
  unfold ownShiftCourse at h
  split at h <;> cases h
  exact (Keeps.refl b).shiftCourse

theorem ownMarkPassed_forms (tag : Byte) : ownerForms (ownMarkPassed tag) := by
  intro b b' data h
  unfold ownMarkPassed at h
  split at h
  · cases h
  · split at h
    · cases h
      exact .refl b
    · simp only [Except.ok.injEq, Prod.mk.injEq] at h
      rw [← h.1]
      exact ((Keeps.refl b).setCourse.trans (.foldl (fun b _ => (Keeps.refl b).passTask) _ _)).testPlates.courseChange

theorem ownPostTask_forms (tag profile : Byte) (mask : Mask8) (sensor : Byte) (plates : Word16) :
    ownerForms (ownPostTask tag profile mask sensor plates) := by
  intro b b' data h
  replace h := checked_ok h
  split at h <;> cases h
  exact (Keeps.refl b).setTask.courseChange

theorem ownEditTask_forms (i profile : Byte) (mask : Mask8) (sensor : Byte) (plates : Word16) :
    ownerForms (ownEditTask i profile mask sensor plates) := by
  intro b b' data h
  replace h := checked_ok h
  split at h <;> cases h
  exact (Keeps.refl b).setTask

theorem ownCancelTask_forms (i : Byte) : ownerForms (ownCancelTask i) := by
  intro b b' data h
  replace h := checked_ok h
  split at h <;> cases h
  exact (Keeps.refl b).setTask.releaseWants.taskEvent.courseChange.testPlates

theorem ownSetPlates_forms (i : Byte) (loaded : Word16) : ownerForms (ownSetPlates i loaded) := by
  intro b b' data h
  replace h := checked_ok h
  split at h <;> cases h
  exact (Keeps.refl b).setTask.testPlates

theorem ownRaiseStaffCall_forms (subject priority level : Byte) :
    ownerForms (ownRaiseStaffCall subject priority level) := by
  intro b b' data h
  unfold ownRaiseStaffCall at h
  split at h <;> cases h
  exact (Keeps.refl b).raiseWith

theorem ownClearStaffCall_forms (subject : Byte) : ownerForms (ownClearStaffCall subject) := by
  intro b b' data h
  unfold ownClearStaffCall at h
  repeat' split at h
  all_goals cases h
  exact (Keeps.refl b).resolve

theorem ownClearFault_forms (channel : Byte) : ownerForms (ownClearFault channel) := by
  intro b b' data h
  unfold ownClearFault at h
  dsimp only at h
  split at h
  · cases h
    exact .ite (.refl b) (Keeps.refl b).setChannel.offer.resolved.rinseHealthChanged
  · cases h

theorem ownRackLoaded_forms (kind plates : Byte) : ownerForms (ownRackLoaded kind plates) := by
  intro b b' data h
  unfold ownRackLoaded at h
  repeat' split at h
  all_goals cases h
  exact (Keeps.refl b).onConveyor rfl

theorem ownRackRemoved_forms (rack : RackField) : ownerForms (ownRackRemoved rack) := by
  intro b b' data h
  unfold ownRackRemoved removeUntracked removeNumbered at h
  repeat' split at h
  all_goals cases h
  · exact (Keeps.refl b).dropUntracked.deriveConveyor
  · rename_i hqueue _
    exact (Keeps.refl b).removeHead hqueue

theorem ownManualAdvance_forms : ownerForms ownManualAdvance := by
  intro b b' data h
  unfold ownManualAdvance at h
  split at h <;> cases h
  exact (Keeps.refl b).onConveyor rfl

theorem ownRunRequest_forms (run : Bool) : ownerForms (ownRunRequest run) := by
  rintro b b' data ⟨⟩
  exact ((Keeps.refl b).onConveyor rfl).deriveConveyor

theorem ownResetTallies_forms : ownerForms ownResetTallies := by
  rintro b b' data ⟨⟩
  exact (Keeps.refl b).onConveyor rfl

/-- Plan clear empties the tables at their sizes (R85, R100). -/
theorem Keeps.planClear {s b : Block} (h : Keeps s b) : Keeps s (planClear b) := by
  have hplan : Keeps s (b.onPlan fun p =>
      { p with profiles := List.replicate 32 .free, courses := List.replicate 8 none, tasks := List.replicate 24 none }) :=
    ⟨fun hs => by
      have hb := h.form hs
      rw [inForm_iff] at hb ⊢
      obtain ⟨queues, ⟨_, _, _, rest⟩, memory⟩ := hb
      exact ⟨queues, ⟨rfl, rfl, rfl, rest⟩, memory⟩, h.position⟩
  exact ((hplan.onDrive (List.length_map _) rfl).trans (.foldl (fun b _ => (Keeps.refl b).resolve) _ _)).markCourse

theorem ownPlanClear_forms : ownerForms ownPlanClear := by
  rintro b b' data ⟨⟩
  exact (Keeps.refl b).planClear

/-! ## The commands -/

/-- What a command does to form and line position: it keeps the form, and no transmission begins but at a slot start of a
station that transmits. -/
structure Forms (c : Instr) (b b' : Block) : Prop where
  form : InForm b → InForm b'
  begins : b'.line.position = .transmitting →
    b.line.position = .transmitting ∨ (b.station.state.transmits = true ∧ c = .slotStart true)

theorem Forms.of_keeps {c : Instr} {b b' : Block} (h : Keeps b b') : Forms c b b' :=
  ⟨h.form, fun ht => .inl (h.position ▸ ht)⟩

/-- A command that leaves the line at rest, in a gap or receiving. -/
theorem Forms.of_quiet {c : Instr} {b b' : Block} (hf : InForm b → InForm b') (hp : b'.line.position ≠ .transmitting) :
    Forms c b b' := ⟨hf, fun ht => absurd ht hp⟩

/-- A write of the line that keeps its queues within their places. -/
theorem onLine_inForm {f : Line → Line} {b : Block} (hs : (f b.line).shiftQueue.length ≤ b.line.shiftQueue.length)
    (hq : (f b.line).pageQueue.length ≤ b.line.pageQueue.length) (h : InForm b) : InForm (b.onLine f) := by
  rw [inForm_iff] at h ⊢
  obtain ⟨⟨events, shifts, frames, rest⟩, tables⟩ := h
  exact ⟨⟨events, hs.trans shifts, hq.trans frames, rest⟩, tables⟩

theorem setPosition_inForm {p : Position} {b : Block} (h : InForm b) : InForm (setPosition p b) :=
  onLine_inForm le_rfl le_rfl h

theorem count_inForm {n : CounterName} {b : Block} (h : InForm b) : InForm (count n b) := (Keeps.refl b).count.form h

/-- An entry to INIT is in form, its line off (R34). -/
theorem enterInit_inForm (r : EntryReason) (straps : Nat) (b : Block) : InForm (enterInit r straps b) := ⟨rfl, rfl, rfl⟩

theorem releaseReset_inForm (straps : Nat) (b : Block) : InForm (releaseReset straps b) := ⟨rfl, rfl, rfl⟩

/-- The settings give every channel (R185). -/
theorem settingsOfBlock_channels {bs : List Byte} {x : Settings} (h : settingsOfBlock bs = some x) :
    x.channels.length = 8 := by
  unfold settingsOfBlock at h
  split at h
  · obtain ⟨hfields, _⟩ := Option.filter_eq_some_iff.1 h
    unfold settingsFields at hfields
    repeat' split at hfields
    all_goals cases hfields
    simp
  · cases h

theorem checkSettings_forms (c : Instr) (b : Block) : Forms c b (checkSettings b) := by
  unfold checkSettings
  split
  · split
    · rename_i x hx
      refine ⟨fun hb => ?_, .inl⟩
      rw [inForm_iff] at hb ⊢
      obtain ⟨queues, ⟨profiles, courses, tasks, pages, _, inputs⟩, memory⟩ := hb
      exact ⟨queues, ⟨profiles, courses, tasks, pages, by simpa [takeSettings] using settingsOfBlock_channels hx, inputs⟩,
        memory⟩
    · exact .of_keeps (Keeps.refl b).onStation.onStation
  · exact .of_keeps (.refl b)

theorem loopbackDone_forms (c : Instr) (passed : Bool) (xs : List SensorInput) (b : Block) :
    Forms c b (loopbackDone passed xs b) := by
  unfold loopbackDone
  split
  · split
    · unfold enterListen
      extract_lets entered seeking
      have hopened : Keeps seeking (openWindow (readInputs 0 (xs.take Config.channels)
          (changeState .listen .checksPassed seeking))) := (Keeps.refl seeking).changeState.readInputs.openWindow
      refine .of_quiet (fun hb => hopened.form (onLine_inForm le_rfl le_rfl ((Keeps.refl b).onStation.form hb))) ?_
      rw [hopened.position]
      exact Position.noConfusion
    · exact .of_keeps (Keeps.refl b).onStation
  · exact .of_keeps (.refl b)

theorem beginCycle_forms (c : Instr) (b : Block) : Forms c b (beginCycle b) := by
  unfold beginCycle
  split
  · exact .of_quiet (onLine_inForm le_rfl le_rfl) Position.noConfusion
  · exact .of_keeps (.refl b)

/-- The start of a slot begins a transmission in a station that transmits, the line at rest (R52, R64). -/
theorem slotStart_forms (rest : Bool) (b : Block) : Forms (.slotStart rest) b (slotStart rest b) := by
  unfold slotStart
  split
  · rename_i hcycle
    extract_lets n begun
    have hbegun : InForm b → InForm begun := onLine_inForm le_rfl le_rfl
    split
    · rename_i hrest
      split
      · rename_i k hk
        have htransmits : b.station.state.transmits = true := by
          obtain ⟨_, hstarts⟩ := Option.filter_eq_some_iff.1 hk
          exact (Bool.and_eq_true_iff.1 hstarts).1
        exact ⟨fun hb => onLine_inForm le_rfl le_rfl (hbegun hb), fun _ => .inr ⟨htransmits, by rw [hrest]⟩⟩
      · exact ⟨hbegun, .inl⟩
    · exact .of_quiet (fun hb => setPosition_inForm (hbegun hb)) Position.noConfusion
  · exact .of_keeps (.refl b)

theorem activitySeen_forms (c : Instr) (b : Block) : Forms c b (activitySeen b) := by
  unfold activitySeen
  split
  · exact .of_quiet setPosition_inForm Position.noConfusion
  · exact .of_keeps (.refl b)

theorem sent_lengths (l : Line) (f : Flight) : (l.sent f).shiftQueue.length ≤ l.shiftQueue.length ∧
    (l.sent f).pageQueue.length ≤ l.pageQueue.length := by
  unfold Line.sent
  split <;> simp

theorem bump_queues (l : Line) (k : FrameKind) :
    (l.bump k).shiftQueue = l.shiftQueue ∧ (l.bump k).pageQueue = l.pageQueue := by
  cases k <;> exact ⟨rfl, rfl⟩

theorem complete_forms (c : Instr) (b : Block) : Forms c b (complete b) := by
  unfold complete
  split
  · rename_i f _
    obtain ⟨hshifts, hframes⟩ := sent_lengths b.line f
    obtain ⟨hshift, hpage⟩ := bump_queues (b.line.sent f) f.kind
    exact .of_quiet (fun hb => count_inForm (onLine_inForm (by rwa [hshift]) (by rwa [hpage]) hb)) Position.noConfusion
  · exact .of_keeps (.refl b)

theorem collided_lengths (l : Line) (f : Flight) : (l.collided f).1.shiftQueue.length ≤ l.shiftQueue.length ∧
    (l.collided f).1.pageQueue.length ≤ l.pageQueue.length := by
  unfold Line.collided
  repeat' split
  all_goals simp_all

theorem collide_forms (c : Instr) (b : Block) : Forms c b (collide b) := by
  unfold collide
  split
  · rename_i f _
    obtain ⟨hshifts, hframes⟩ := collided_lengths b.line f
    extract_lets after collidedLine collided
    have hcollided : InForm b → InForm collided := fun hb =>
      count_inForm (onLine_inForm (f := fun _ => _) hshifts hframes hb)
    split
    · exact .of_quiet (fun hb => count_inForm (hcollided hb)) Position.noConfusion
    · exact .of_quiet hcollided Position.noConfusion
  · exact .of_keeps (.refl b)

theorem corrupt_forms (c : Instr) (b : Block) : Forms c b (corrupt b) := by
  unfold corrupt
  split
  · exact .of_quiet (fun hb => count_inForm (onLine_inForm le_rfl le_rfl hb)) Position.noConfusion
  · exact .of_keeps (.refl b)

theorem receive_forms (c : Instr) (source sequence : Byte) (form : Option FrameForm) (body : List Byte) (b : Block) :
    Forms c b (receive source sequence form body b) := by
  unfold receive
  split
  · split
    · exact corrupt_forms c b
    · split
      · exact .of_quiet (fun hb => setPosition_inForm ((Keeps.refl b).duplicate.form hb)) Position.noConfusion
      · have haccepted : Keeps b (acceptFrame source.toNat sequence.toNat form body
            (b.onLine fun l => { l with lastSender := some source.toNat })) := ((Keeps.refl b).onLine rfl rfl rfl).acceptFrame
        exact .of_quiet (fun hb => setPosition_inForm (haccepted.form hb)) Position.noConfusion
  · exact .of_keeps (.refl b)

theorem writeSettings_keeps (block : List Byte) (b : Block) : Keeps b (writeSettings block b) := by
  unfold writeSettings
  split
  · dsimp only
    split
    · exact (Keeps.refl b).deliver.numbered8.answer
    · exact (Keeps.refl b).deliver.onStore.numbered8
  · exact .refl b

theorem writeDone_keeps (b : Block) : Keeps b (writeDone b) := by
  unfold writeDone
  split
  · exact (Keeps.refl b).onStore.answer
  · exact .refl b

theorem restartPart_forms (c : Instr) (straps : Nat) (b : Block) : Forms c b (restartPart straps b) := by
  unfold restartPart
  split
  · exact .of_quiet (fun _ => ((Keeps.refl _).onPort id).form (enterInit_inForm _ _ _)) Position.noConfusion
  · exact .of_keeps (.refl b)

theorem Forms.of_onBlock {c : Instr} {f : Block → Block} {s t : State} (hf : Forms c s.block (f s.block))
    (h : onBlock f s = .next t) : Forms c s.block t.block := by
  cases h
  exact hf

theorem Forms.transfer {c : Instr} {own : Block → Answer} (h : ownerForms own) {code : Nat} {bad : Bool}
    {gate : StateGate} {dish : Bool} {b : Block} : Forms c b (transfer code bad gate dish own b) :=
  .of_keeps (transfer_keeps h _ _ _ _ _)

/-- Every command keeps the form, and only a slot start begins a transmission. -/
theorem exec_forms (c : Instr) (s t : State) (h : exec c s = .next t) : Forms c s.block t.block := by
  have keeps {f : Block → Block} (hf : Keeps s.block (f s.block)) (h : onBlock f s = .next t) :
      Forms c s.block t.block := .of_onBlock (.of_keeps hf) h
  have idle := Keeps.refl s.block
  cases c with
  | powerOn straps => exact .of_onBlock (.of_quiet (fun _ => enterInit_inForm _ _ _) Position.noConfusion) h
  | resetPinHeld => exact keeps idle.holdReset h
  | resetPinReleased straps =>
    exact .of_onBlock (.of_quiet (fun _ => releaseReset_inForm _ _) Position.noConfusion) h
  | settingsCheck => exact .of_onBlock (checkSettings_forms _ _) h
  | loopbackTestDone passed inputs => exact .of_onBlock (loopbackDone_forms _ _ _ _) h
  | round => exact keeps idle.runRound h
  | driveTick volts amps => exact keeps idle.tick h
  | burstWindowStart => exact keeps idle.windowStart h
  | second inputs => exact keeps idle.runSecond h
  | holdTimeout => exact keeps (idle.whenDish idle.timeoutHold) h
  | taskEditApply task => exact keeps (idle.whenRuns idle.editApplies) h
  | ackTimerExpiry entry => exact keeps (idle.whenRuns idle.expireAck) h
  | clearRetry entry => exact keeps (idle.whenRuns idle.retryClear) h
  | manualAdvanceTimeout => exact keeps (idle.whenDish idle.timeoutAdvance) h
  | dwellTenth => exact keeps (idle.whenDish idle.tenth) h
  | encoderPulse => exact keeps (idle.whenDish idle.pulse) h
  | entrySensor => exact keeps (idle.whenDish idle.rackEnters) h
  | exitSensor => exact keeps (idle.whenDish idle.rackLeaves) h
  | radioStatusRecord ready => exact keeps idle.radioStatus h
  | radioStatusTimeout => exact keeps idle.radioStatus h
  | sendRecord => exact keeps idle.sendHead h
  | takenRecord kind subject generation => exact keeps idle.taken h
  | sendTimeout => exact keeps idle.sendExpired h
  | radioAckRecord kind subject generation => exact keeps idle.radioAcks h
  | badRadioRecord => exact keeps idle h
  | gapEnd => exact .of_onBlock (beginCycle_forms _ _) h
  | slotStart lineAtRest => exact .of_onBlock (slotStart_forms _ _) h
  | lineActivitySeen => exact .of_onBlock (activitySeen_forms _ _) h
  | transmissionComplete => exact .of_onBlock (complete_forms _ _) h
  | collision => exact .of_onBlock (collide_forms _ _) h
  | corruptFrame cause => exact .of_onBlock (corrupt_forms _ _) h
  | unknownFrame source kind sequence body => exact .of_onBlock (receive_forms _ _ _ _ _ _) h
  | demandFrame source sequence body => exact .of_onBlock (receive_forms _ _ _ _ _ _) h
  | courseFrame source sequence body => exact .of_onBlock (receive_forms _ _ _ _ _ _) h
  | shiftFrame source sequence body => exact .of_onBlock (receive_forms _ _ _ _ _ _) h
  | pageRaiseFrame source sequence body => exact .of_onBlock (receive_forms _ _ _ _ _ _) h
  | pageAckFrame source sequence body => exact .of_onBlock (receive_forms _ _ _ _ _ _) h
  | pageClearFrame source sequence body => exact .of_onBlock (receive_forms _ _ _ _ _ _) h
  | noneTransfer => exact keeps (f := emptyTransfer) (.ite idle.deliver idle) h
  | transferCutShort => exact keeps idle h
  | unknownCommand code => exact .of_onBlock (.transfer (by rintro b b' data ⟨⟩; exact .refl b)) h
  | readStatus => exact .of_onBlock (.transfer ownReadStatus_forms) h
  | readEvent => exact .of_onBlock (.transfer ownReadEvent_forms) h
  | readTable selector => exact .of_onBlock (.transfer (ownReadTable_forms _)) h
  | readCounters => exact .of_onBlock (.transfer ownReadCounters_forms) h
  | readAndClearCounters => exact .of_onBlock (.transfer ownClearCounters_forms) h
  | postProfile index content => exact .of_onBlock (.transfer (ownPostProfile_forms _ _)) h
  | deleteProfile index => exact .of_onBlock (.transfer (ownDeleteProfile_forms _)) h
  | postCourse tag version offset lead => exact .of_onBlock (.transfer (ownPostCourse_forms _ _ _ _)) h
  | deleteCourse tag => exact .of_onBlock (.transfer (ownDeleteCourse_forms _)) h
  | lockCourse tag => exact .of_onBlock (.transfer (ownSetLock_forms _ _)) h
  | unlockCourse tag => exact .of_onBlock (.transfer (ownSetLock_forms _ _)) h
  | shiftCourse tag offset hold => exact .of_onBlock (.transfer (ownShiftCourse_forms _ _ _)) h
  | markPassed tag => exact .of_onBlock (.transfer (ownMarkPassed_forms _)) h
  | postTask tag profile mask sensor plates => exact .of_onBlock (.transfer (ownPostTask_forms _ _ _ _ _)) h
  | editTask index profile mask sensor plates => exact .of_onBlock (.transfer (ownEditTask_forms _ _ _ _ _)) h
  | cancelTask index => exact .of_onBlock (.transfer (ownCancelTask_forms _)) h
  | setPlates index loaded => exact .of_onBlock (.transfer (ownSetPlates_forms _ _)) h
  | raiseStaffCall subject priority level => exact .of_onBlock (.transfer (ownRaiseStaffCall_forms _ _ _)) h
  | clearStaffCall subject => exact .of_onBlock (.transfer (ownClearStaffCall_forms _)) h
  | clearFault channel => exact .of_onBlock (.transfer (ownClearFault_forms _)) h
  | rackLoaded kind plates => exact .of_onBlock (.transfer (ownRackLoaded_forms _ _)) h
  | rackRemoved rack => exact .of_onBlock (.transfer (ownRackRemoved_forms _)) h
  | manualAdvance => exact .of_onBlock (.transfer ownManualAdvance_forms) h
  | conveyorStart => exact .of_onBlock (.transfer (ownRunRequest_forms _)) h
  | conveyorStop => exact .of_onBlock (.transfer (ownRunRequest_forms _)) h
  | resetTallies => exact .of_onBlock (.transfer ownResetTallies_forms) h
  | writeSettings block => exact keeps (writeSettings_keeps _ _) h
  | settingsWriteDone => exact keeps (writeDone_keeps _) h
  | planClear => exact .of_onBlock (.transfer ownPlanClear_forms) h
  | restart straps => exact .of_onBlock (restartPart_forms _ _ _) h
  | lineSeenActiveWhileSeeking => exact keeps idle h

/-- A step carries out the first command waiting, or leaves the part as it is. -/
theorem step_forms {s s' : State} (h : step s = .next s') :
    s' = s ∨ ∃ c rest, s.pending = c :: rest ∧ Forms c s.block s'.block := by
  unfold step at h
  split at h
  · cases h
    exact .inl rfl
  · rename_i c rest hp
    exact .inr ⟨c, rest, hp, exec_forms c { s with pending := rest } s' h⟩

/-- Settles O49: every command a step can carry out keeps the form. -/
theorem tablesAndQueuesKeepTheirForm : Obligations.TablesAndQueuesKeepTheirForm := by
  intro s s' hqueues htables hmemory h
  have hs : InForm s.block := ⟨hqueues, htables, hmemory⟩
  have hs' : InForm s'.block := by
    obtain rfl | ⟨c, rest, _, hc⟩ := step_forms h
    · exact hs
    · exact hc.form hs
  exact ⟨hs'.queues, hs'.tables, hs'.memory⟩

/-- Settles O60: of the commands a slot start alone begins a transmission. -/
theorem onlySlotStartTransmits : Obligations.OnlySlotStartTransmits := by
  intro s s' h htransmitting
  obtain rfl | ⟨c, rest, hp, hc⟩ := step_forms h
  · exact .inl htransmitting
  · exact (hc.begins htransmitting).imp id fun ⟨htransmits, hslot⟩ => ⟨htransmits, rest, hslot ▸ hp⟩

end Sys2Proof.Machine
end

section
/-! PROOFS. The end of a transmission (R53, R54, R58) and the frames that are counted only (R60, R61, R180). -/

namespace Sys2Proof.Machine

/-! ## Completion and collision (R53, R54) -/

theorem flying_eq {b : Block} {f : Flight} (hr : b.runs = true) (hp : b.line.position = .transmitting)
    (hf : b.line.inFlight = some f) : flying b = some f := by
  rw [flying, if_pos ⟨hr, hp⟩, hf]

/-- The line after a completed frame, record by record (R53, R58). -/
theorem complete_eq {b : Block} {f : Flight} (h : flying b = some f) : complete b =
    count .framesSent (b.onLine fun l =>
      { (l.sent f).bump f.kind with lastSender := some b.id, inFlight := none, position := .gap }) := by
  rw [complete, h]

/-- What a collision leaves: the line after it in GAP with no sender, the collision counted, and the frame dropped where it
was (R54). -/
theorem collide_parts {b : Block} {f : Flight} (h : flying b = some f) :
    (collide b).line = { (b.line.collided f).1 with lastSender := none, inFlight := none, position := .gap } ∧
      (collide b).port.counters.collisions = min 65535 (b.port.counters.collisions + 1) ∧
      (collide b).port.counters.framesDropped = (if (b.line.collided f).2 then
        min 65535 (b.port.counters.framesDropped + 1) else b.port.counters.framesDropped) ∧
      (collide b).port.events = b.port.events ∧ changesOnly [.line, .port] b (collide b) := by
  unfold collide
  rw [h]
  dsimp only
  split <;> exact ⟨rfl, rfl, rfl, rfl, by simp [changesOnly_iff]⟩

/-- A collision moves queues and slots of the line alone (R54). -/
theorem collided_rest (l : Line) (f : Flight) :
    (l.collided f).1.seqPage = l.seqPage ∧ (l.collided f).1.seqShift = l.seqShift ∧
      (l.collided f).1.seqCourse = l.seqCourse ∧ (l.collided f).1.seqDemand = l.seqDemand ∧
      (l.collided f).1.courseSlot = (if f.kind = .course then f.markedAgain else l.courseSlot) ∧
      (l.collided f).1.demandSlot = (if f.kind = .demand then f.markedAgain else l.demandSlot) := by
  unfold Line.collided
  repeat' split
  all_goals simp_all

/-- The PAGE queue and the drop that a collision makes of it (R54). -/
theorem collided_page {l : Line} {f : Flight} {x : PageFrame} {rest : List PageFrame} (hk : f.kind = .page)
    (hq : l.pageQueue = x :: rest) :
    ((l.collided f).1.pageQueue, (l.collided f).2) =
      (if x.attempts + 1 < 4 then { x with attempts := x.attempts + 1 } :: rest else rest,
        decide (4 ≤ x.attempts + 1)) := by
  obtain hmore | hlast := Nat.lt_or_ge x.attempts 3
  · simp [Line.collided, hk, hq, Config.maxAttempts, Nat.not_le_of_lt hmore]
  · simp [Line.collided, hk, hq, Config.maxAttempts, hlast]

/-- The SHIFT queue and the drop that a collision makes of it (R54). -/
theorem collided_shift {l : Line} {f : Flight} {x : ShiftEntry} {rest : List ShiftEntry} (hk : f.kind = .shift)
    (hq : l.shiftQueue = x :: rest) :
    ((l.collided f).1.shiftQueue, (l.collided f).2) =
      (if x.attempts + 1 < 4 then { x with attempts := x.attempts + 1 } :: rest else rest,
        decide (4 ≤ x.attempts + 1)) := by
  obtain hmore | hlast := Nat.lt_or_ge x.attempts 3
  · simp [Line.collided, hk, hq, Config.maxAttempts, Nat.not_le_of_lt hmore]
  · simp [Line.collided, hk, hq, Config.maxAttempts, hlast]

/-- A queue of another kind stands through a collision (R54). -/
theorem collided_others {l : Line} {f : Flight} :
    (f.kind ≠ .page → (l.collided f).1.pageQueue = l.pageQueue) ∧
      (f.kind ≠ .shift → (l.collided f).1.shiftQueue = l.shiftQueue) ∧
      (f.kind = .course ∨ f.kind = .demand → (l.collided f).2 = false) := by
  unfold Line.collided
  repeat' split
  all_goals simp_all

/-- Settles O26: the end of a transmission by the kind of its frame. -/
theorem transmissionsCompleteOrCollide : Obligations.TransmissionsCompleteOrCollide := by
  refine ⟨fun s f hr hp hf => completes_of complete rfl ?_, fun s f hr hp hf => completes_of collide rfl ?_⟩
  · rw [complete_eq (flying_eq hr hp hf)]
    refine ⟨rfl, rfl, rfl, ?_⟩
    cases hk : f.kind <;>
      simp [Line.sent, Line.bump, hk, next8, count, countBy, Counters.add, satTo, Config.counterTop, changesOnly_iff]
  · obtain ⟨hline, hcollisions, hdropped, hevents, hframe⟩ := collide_parts (flying_eq hr hp hf)
    obtain ⟨hpage, hshift, hcourse, hdemand, hcourseSlot, hdemandSlot⟩ := collided_rest s.block.line f
    obtain ⟨hpages, hshifts, hslots⟩ := collided_others (l := s.block.line) (f := f)
    rw [hline, hdropped]
    refine ⟨rfl, rfl, rfl, hpage, hshift, hcourse, hdemand, hcollisions, fun x rest hk hq => ?_, fun x rest hk hq => ?_,
      hpages, hshifts, fun hk => if_neg (by simp [hslots hk]), hcourseSlot, hdemandSlot, hevents, hframe⟩
    · obtain ⟨hqueue, hdrop⟩ := Prod.mk.inj (collided_page hk hq)
      obtain hmore | hlast := Nat.lt_or_ge x.attempts 3
      · simp [hqueue, hdrop, Nat.not_le_of_lt hmore, Nat.add_lt_add_right hmore 1]
      · simp [hqueue, hdrop, hlast]
    · obtain ⟨hqueue, hdrop⟩ := Prod.mk.inj (collided_shift hk hq)
      obtain hmore | hlast := Nat.lt_or_ge x.attempts 3
      · simp [hqueue, hdrop, Nat.not_le_of_lt hmore, Nat.add_lt_add_right hmore 1]
      · simp [hqueue, hdrop, hlast]

/-! ## Frames that are counted only (R60, R61, R180) -/

theorem corrupt_eq {b : Block} (h : listening b = true) :
    corrupt b = count .checkErrors (b.onLine fun l => { l with lastSender := none, position := .gap }) := by
  rw [corrupt, if_pos h]

/-- A frame from another station, whose check word held, comes to the block that its kind names (R61, R62). -/
theorem receive_foreign {source sequence : Byte} {form : Option FrameForm} {body : List Byte} {b : Block}
    (hl : listening b = true) (h31 : source.toNat ≤ 31) (hlen : body.length ≤ 56) (hid : source.toNat ≠ b.station.strapId) :
    receive source sequence form body b = setPosition .gap
      (acceptFrame source.toNat sequence.toNat form body (b.onLine fun l => { l with lastSender := some source.toNat })) := by
  rw [receive, if_pos hl, if_neg (by omega), if_neg (show ¬source.toNat = b.id from hid)]

/-- A frame that no block takes: of unknown kind, of a length its kind does not admit, or with a field rejected. -/
theorem acceptFrame_rejected {form : Option FrameForm} {body : List Byte}
    (h : ∀ f, form = some f → f.admits body.length = true → parseBody f body = none) (i x : Nat) (b : Block) :
    acceptFrame i x form body b = count .checkErrors b := by
  unfold acceptFrame
  split
  · rename_i f
    split
    · rename_i hadmits
      rw [h f rfl hadmits]
    · rfl
  · rfl

/-- A form's bodies are no longer than a frame holds (R177). -/
theorem admits_length {f : FrameForm} {n : Nat} (h : f.admits n = true) : n ≤ 56 := by
  cases f <;> simp [FrameForm.admits] at h <;> omega

/-- What a rejected frame leaves: its sender noted, a check error counted, the interface in GAP. -/
theorem rejected_counted (sender : Option Nat) (b : Block) :
    let b' := setPosition .gap (count .checkErrors (b.onLine fun l => { l with lastSender := sender }))
    b'.line = { b.line with lastSender := sender, position := .gap } ∧ b'.port = (count .checkErrors b).port ∧
      changesOnly [.line, .port] b b' := by
  refine ⟨rfl, rfl, ?_⟩
  simp [changesOnly_iff, setPosition]

theorem exec_frameOf (form : FrameForm) (source sequence : Byte) (body : List Byte) (s : State) :
    exec (frameOf form source sequence body) s = onBlock (receive source sequence (some form) body) s := by
  cases form <;> rfl

/-- Settles O27: each ground of rejection ends in the same count. -/
theorem badFramesAreCountedOnly : Obligations.BadFramesAreCountedOnly := by
  intro s hl
  refine ⟨fun cause => completes_of corrupt rfl ?_, fun source kind sequence body hok hid => ?_,
    fun form source sequence body h31 hid hadmits hparse => ?_⟩
  · rw [corrupt_eq hl]
    exact rejected_counted none s.block
  · obtain ⟨⟨h31, hlen⟩, hform⟩ : (source.toNat ≤ 31 ∧ body.length ≤ 56) ∧
        ((FrameForm.ofByte kind).elim true fun f => !f.admits body.length) = true := by
      simpa [unknownOk] using hok
    refine completes_of (receive source sequence (FrameForm.ofByte kind) body) rfl ?_
    rw [receive_foreign hl h31 hlen hid, acceptFrame_rejected (fun f hf hadmits => by simp [hf, hadmits] at hform)]
    exact rejected_counted (some source.toNat) s.block
  · refine completes_of _ (exec_frameOf form source sequence body s) ?_
    rw [receive_foreign hl h31 (admits_length hadmits) hid, acceptFrame_rejected (by rintro _ ⟨⟩ _; exact hparse)]
    exact rejected_counted (some source.toNat) s.block

end Sys2Proof.Machine
end

section
/-! PROOFS. Heard PAGE frames: what every act of a page leaves unchanged, and the withdrawal that follows a frame (R59, R149
to R156). -/

namespace Sys2Proof.Machine

/-! ## Acts of the Page Tracker -/

/-- An act of the Page Tracker: pages, pager, PAGE queue and port alone change, events and PAGE frames join their tails. -/
structure PageWork (b b' : Block) : Prop extends Notices b b' where
  frame : changesOnly [.line, .pages, .pager, .port] b b'

theorem PageWork.refl (b : Block) : PageWork b b := ⟨.refl b, changesOnly_refl _ b⟩

theorem PageWork.trans {b c d : Block} (h : PageWork b c) (g : PageWork c d) : PageWork b d :=
  ⟨h.toNotices.trans g.toNotices, changesOnly_trans h.frame g.frame⟩

theorem PageWork.foldl {α : Type} {f : Block → α → Block} (h : ∀ b x, PageWork b (f b x)) (xs : List α) (b : Block) :
    PageWork b (xs.foldl f b) := by
  induction xs generalizing b with
  | nil => exact .refl b
  | cons x rest ih => exact (h b x).trans (ih _)

theorem PageWork.station {b b' : Block} (h : PageWork b b') : b'.station = b.station := h.frame .station (by decide)

theorem PageWork.takes {b b' : Block} (h : PageWork b b') : b'.lineTakes = b.lineTakes := by
  rw [Block.lineTakes, h.station, Block.lineTakes]

section
variable {s b : Block}

theorem PageWork.ite (h : PageWork s b) {b' : Block} (h' : PageWork s b') {p : Prop} [Decidable p] :
    PageWork s (if p then b else b') := by
  split
  · exact h
  · exact h'

theorem PageWork.onPages (h : PageWork s b) {f : Pages → Pages} : PageWork s (b.onPages f) :=
  ⟨h.toNotices.onPages, changesOnly_trans h.frame (by simp [changesOnly_iff])⟩

theorem PageWork.setMemory (h : PageWork s b) {c : Cause} {r : MemRecord} : PageWork s (setMemory c r b) := h.onPages

theorem PageWork.setPage (h : PageWork s b) {i : Nat} {e : Option PageEntry} : PageWork s (setPage i e b) := h.onPages

theorem PageWork.unlist (h : PageWork s b) {c : Cause} : PageWork s (unlist c b) :=
  ⟨h.toNotices.unlist, changesOnly_trans h.frame (by simp [changesOnly_iff])⟩

theorem PageWork.placeSend (h : PageWork s b) {c : Cause} : PageWork s (placeSend c b) :=
  ⟨h.toNotices.placeSend, changesOnly_trans h.frame (by simp [changesOnly_iff])⟩

theorem PageWork.pageEvent (h : PageWork s b) {e : PageEntry} : PageWork s (pageEvent e b) :=
  ⟨h.toNotices.pageEvent, changesOnly_trans h.frame (by simp [changesOnly_iff, Machine.pageEvent])⟩

theorem PageWork.removedEvent (h : PageWork s b) {e : PageEntry} : PageWork s (removedEvent e b) :=
  ⟨h.toNotices.removedEvent, changesOnly_trans h.frame (by simp [changesOnly_iff, Machine.removedEvent])⟩

theorem PageWork.countDropped (h : PageWork s b) : PageWork s (count .pagesDropped b) :=
  ⟨h.toNotices.count fun _ _ => rfl, changesOnly_trans h.frame (by simp [changesOnly_iff])⟩

theorem PageWork.queuePage (h : PageWork s b) {f : PageFrame} : PageWork s (queuePage f b).2 :=
  ⟨h.toNotices.queuePage, changesOnly_trans h.frame (by simp [changesOnly_iff])⟩

theorem PageWork.removeEntry (h : PageWork s b) {i : Nat} {e : PageEntry} {g : Nat} : PageWork s (removeEntry i e g b) :=
  ⟨h.toNotices.removeEntry, changesOnly_trans h.frame (by simp [changesOnly_iff])⟩

theorem PageWork.offerClear (h : PageWork s b) {i : Nat} {e : PageEntry} : PageWork s (offerClear i e b) :=
  .ite h.queuePage.removeEntry h.queuePage.setPage.unlist

theorem PageWork.resolve (h : PageWork s b) {c : Cause} : PageWork s (resolve c b) := by
  unfold Machine.resolve
  split
  · exact .ite h.offerClear h
  · exact h

theorem PageWork.learn (h : PageWork s b) {c : Cause} {g : Nat} {x : Bool} : PageWork s (learn c g x b) := h.setMemory

theorem PageWork.copyAt (h : PageWork s b) {i : Nat} {f : RaiseBody} : PageWork s (copyAt i f b) :=
  h.onPages.setMemory.setPage.pageEvent.placeSend

theorem PageWork.mergeRaise (h : PageWork s b) {i : Nat} {e : PageEntry} {f : RaiseBody} :
    PageWork s (mergeRaise i e f b) := by
  unfold Machine.mergeRaise
  extract_lets own e' written risen noted listed raised
  have hrisen : PageWork s risen := .ite h.setPage.setMemory h.setPage
  have hlisted : PageWork s listed := (PageWork.ite hrisen.pageEvent hrisen).placeSend
  have hraised : PageWork s raised := .ite hlisted.queuePage hlisted
  exact .ite hraised.queuePage hraised

theorem PageWork.raiseAbsent (h : PageWork s b) {f : RaiseBody} {r : MemRecord} : PageWork s (raiseAbsent f r b) := by
  unfold Machine.raiseAbsent
  split
  · exact h
  · split
    · exact h.copyAt
    · split
      · exact h.setPage.unlist.removedEvent.countDropped.copyAt
      · exact h.countDropped

theorem PageWork.heardRaise (h : PageWork s b) {f : RaiseBody} : PageWork s (heardRaise f b) := by
  unfold Machine.heardRaise
  dsimp only
  split
  · exact h.learn.raiseAbsent
  · exact .ite h.learn (.ite h.learn.copyAt (.ite h.learn.mergeRaise h.learn))

theorem PageWork.ackEntry (h : PageWork s b) {i : Nat} {e : PageEntry} : PageWork s (ackEntry i e b) :=
  h.setPage.unlist.pageEvent

theorem PageWork.clearIfOneShot (h : PageWork s b) {c : Cause} : PageWork s (clearIfOneShot c b) := by
  unfold Machine.clearIfOneShot
  split
  · exact .ite h.offerClear h
  · exact h

theorem PageWork.heardAck (h : PageWork s b) {c : Cause} {g : Nat} : PageWork s (heardAck c g b) := by
  unfold Machine.heardAck
  dsimp only
  split
  · exact .ite h.learn.ackEntry.clearIfOneShot h.learn
  · exact h.learn

theorem PageWork.heardClear (h : PageWork s b) {c : Cause} {g : Nat} : PageWork s (heardClear c g b) := by
  unfold Machine.heardClear
  dsimp only
  split
  · exact .ite h.learn.removeEntry h.learn
  · exact h.learn

end

/-! ## A frame taken and the withdrawal after it (R59, R61, R62) -/

/-- A frame of another station whose body passes its checks is counted, handed to its block and followed by the withdrawal;
`demandTaken` is the part as any such frame finds it. -/
theorem receive_taken {source sequence : Byte} {form : FrameForm} {body : List Byte} {r : Received} {b : Block}
    (hl : listening b = true) (h31 : source.toNat ≤ 31) (hid : source.toNat ≠ b.station.strapId)
    (hadmits : form.admits body.length = true) (hparse : parseBody form body = some r) :
    receive source sequence (some form) body b =
      setPosition .gap (withdraw r (handle source.toNat sequence.toNat r (demandTaken source.toNat b))) := by
  rw [receive_foreign hl h31 (admits_length hadmits) hid, acceptFrame]
  simp only [hadmits, hparse]
  rfl

theorem demandTaken_pageWork (i : Nat) (b : Block) : EventsGrow b (demandTaken i b) ∧
    changesOnly [.line, .pages, .pager, .port] b (demandTaken i b) :=
  ⟨demandTaken_eventsGrow i b, by simp [changesOnly_iff, demandTaken]⟩

/-- R59's table for PAGE frames, whatever the frame received. -/
theorem pageSuperseded_eq (r : Received) (b : Block) (f : PageFrame) :
    pageSuperseded r b f = overruled r.pageWord b f := by
  have hheld : (match heldPage f.cause b with
      | none => true
      | some e => decide (e.owner < f.owner) || newer e.generation f.generation) =
      (heldPage f.cause b).all fun e => decide (e.owner < f.owner) || newer e.generation f.generation := by
    cases heldPage f.cause b <;> rfl
  unfold pageSuperseded overruled
  cases f.sub with
  | raise => exact hheld
  | ack => cases r <;> simp [Received.pageWord, reaches]
  | clear => cases r <;> simp [Received.pageWord, reaches, Bool.and_or_distrib_left]

/-- The withdrawal after acts that put PAGE frames at the tail and left the SHIFT queue (R59). -/
theorem withdraw_overrules {r : Received} {s b : Block} (hframes : s.line.pageQueue <+: b.line.pageQueue)
    (hshift : b.line.shiftQueue = s.line.shiftQueue) :
    withdrawsOverruled r.pageWord s (setPosition .gap (withdraw r b)) := by
  obtain ⟨added, hadded⟩ := hframes
  have hpages := overruled_of_pages (heard := r.pageWord)
    (show (setPosition .gap (withdraw r b)).pages = b.pages from rfl)
  have hplan := shiftOverruled_of_plan (show (setPosition .gap (withdraw r b)).plan = b.plan from rfl)
  refine ⟨⟨added.filter fun f => !overruled r.pageWord b f, ?_⟩, fun f hf => ?_, ?_⟩
  · simp only [hpages]
    simp only [setPosition, withdraw, Block.onLine_line, pageSuperseded_eq, ← hadded, List.filter_append]
  · rw [hpages]
    simp only [setPosition, withdraw, Block.onLine_line, pageSuperseded_eq, List.mem_filter] at hf
    simpa using hf.2
  · simp only [hplan]
    simp only [setPosition, withdraw, Block.onLine_line, shiftSuperseded_eq, hshift]

/-- A frame that waits and is not overruled goes on waiting (R59). -/
theorem mem_withdraw {r : Received} {f : PageFrame} {b : Block} (hf : f ∈ b.line.pageQueue)
    (hr : overruled r.pageWord b f = false) : f ∈ (setPosition .gap (withdraw r b)).line.pageQueue :=
  List.mem_filter.2 ⟨hf, by rw [pageSuperseded_eq, hr]; rfl⟩

/-! ## Readings of the page table -/

theorem pageAt_of_table {b b' : Block} (h : b'.pages.table = b.pages.table) (i : Nat) : pageAt i b' = pageAt i b := by
  rw [pageAt, h, pageAt]

theorem locatePage_of_table {b b' : Block} (h : b'.pages.table = b.pages.table) (c : Cause) :
    locatePage c b' = locatePage c b := by
  simp only [locatePage, pageIndex, pageAt, h]

/-- The first entry of a cause stays the first when another entry of the cause takes its slot. -/
theorem locatePage_of_set {c : Cause} {i : Nat} {e x : PageEntry} {b b' : Block} (h : locatePage c b = some (i, e))
    (ht : b'.pages.table = b.pages.table.set i (some x)) (hc : x.cause = c) : locatePage c b' = some (i, x) := by
  obtain ⟨hat, _, hfirst⟩ := locatePage_eq_some.1 h
  refine locatePage_eq_some.2 ⟨pageAt_of_set_self ht (pageAt_lt hat), hc, fun j hj y hy => ?_⟩
  rw [pageAt_of_set_ne ht (by omega)] at hy
  exact hfirst j hj y hy

theorem heldPage_of_locate {c : Cause} {i : Nat} {e : PageEntry} {b : Block} (h : locatePage c b = some (i, e)) :
    heldPage c b = some e := by
  obtain ⟨hat, hc, hfirst⟩ := locatePage_eq_some.1 h
  rw [heldPage, pageIndex_eq_some.2 ⟨⟨e, hat, hc⟩, hfirst⟩, Option.bind_some, hat]

/-! ## The PAGE queue and the send list -/

/-- A frame finds a place in the PAGE queue that has one (R57). -/
theorem mem_queuePage {f : PageFrame} {b : Block} (ht : b.lineTakes = true) (hroom : b.line.pageQueue.length < 8) :
    f ∈ (queuePage f b).2.line.pageQueue := by
  obtain ⟨_, _, h⟩ | ⟨_, hfull, _⟩ | ⟨hno, _⟩ := queuePage_cases f b
  · rw [h]
    simp
  · simp only [Config.pagePlaces] at hfull
    omega
  · rw [ht] at hno
    cases hno

theorem mem_insertSend (b : Block) (x : Nat × PageEntry) (cs : List Cause) : x.2.cause ∈ insertSend b x cs := by
  induction cs with
  | nil => simp [insertSend]
  | cons c rest ih =>
    unfold insertSend
    split
    · split
      · simp
      · simp [ih]
    · simp [ih]

/-- The elected base lists a RAISED page that is not clear due (R161). -/
theorem mem_placeSend {c : Cause} {i : Nat} {e : PageEntry} {b : Block} (helected : b.pager.elected = true)
    (h : locatePage c b = some (i, e)) (hr : e.state = .raised) (hd : e.clearDue = false) :
    c ∈ (placeSend c b).pager.sendList := by
  have hc : e.cause = c := (locatePage_eq_some.1 h).2.1
  unfold placeSend
  rw [if_pos helected, h]
  dsimp only
  split
  · rw [← hc]
    exact mem_insertSend b (i, e) _
  · rename_i hlisted
    simpa [hr, hd] using hlisted

/-! ## The generation memory -/

theorem memory_setMemory {c : Cause} {r : MemRecord} {b : Block} (h : memoryCanonical b = true) :
    (setMemory c r b).memory c = r := memoryRead_write_same _ _ _ h

theorem memoryCanonical_setMemory {c : Cause} {r : MemRecord} {b : Block} (h : memoryCanonical b = true) :
    memoryCanonical (setMemory c r b) = true := setMemory_wf c r b h

theorem memory_of_pages {b b' : Block} (h : b'.pages = b.pages) (c : Cause) : b'.memory c = b.memory c := by
  rw [Block.memory, h, Block.memory]

end Sys2Proof.Machine
end

section
/-! PROOFS. A heard RAISE that meets its entry, is late or older, or finds no place (R155, R164). -/

namespace Sys2Proof.Machine

/-! ## The merge (R155) -/

/-- The owner after a merge: the adopted flags first, then the lower id (R155). -/
def mergedOwner (e : PageEntry) (f : RaiseBody) : Nat :=
  if f.adopted = true ∧ e.adopted = false then f.owner
  else if e.adopted = true ∧ f.adopted = false then e.owner else min e.owner f.owner

theorem settleOwner_eq (e : PageEntry) (f : RaiseBody) : settleOwner e f = (mergedOwner e f, e.adopted || f.adopted) := by
  unfold settleOwner mergedOwner
  cases e.adopted <;> cases f.adopted <;> rfl

/-- The entry after a merge (R155). -/
def merged (e : PageEntry) (f : RaiseBody) (b : Block) : PageEntry :=
  { e with
    level := max e.level f.level,
    priority := if e.cause.kind = .staffCall then max e.priority f.priority else e.priority,
    owner := mergedOwner e f, adopted := e.adopted || f.adopted, oneShot := e.oneShot || e.adopted || f.adopted,
    deadline := if mergedOwner e f ≠ b.station.strapId then none
      else if e.owner ≠ b.station.strapId ∧ e.state = .raised then some (b.station.clock + b.cfg.ackTimeout)
      else e.deadline }

/-- The part with the merged entry in the table and a risen level remembered (R149, R155). -/
def mergeWritten (i : Nat) (e : PageEntry) (f : RaiseBody) (b : Block) : Block :=
  let written := setPage i (some (merged e f b)) b
  if e.level < (merged e f b).level then
    setMemory e.cause (risenRecord (b.memory e.cause) (merged e f b).level) written
  else written

/-- The part with the change reported and the page listed (R151, R161). -/
def mergeListed (i : Nat) (e : PageEntry) (f : RaiseBody) (b : Block) : Block :=
  placeSend e.cause
    (if e.level ≠ (merged e f b).level ∨ e.owner ≠ (merged e f b).owner then
      pageEvent (merged e f b) (mergeWritten i e f b)
    else mergeWritten i e f b)

/-- The part with this station's own RAISE queued where it keeps the page against a higher id (R155). -/
def mergeRaised (i : Nat) (e : PageEntry) (f : RaiseBody) (b : Block) : Block :=
  if e.owner = b.id ∧ (merged e f b).owner = b.id ∧ b.id < f.owner ∧ b.isLocal = false then
    (queuePage (raiseFrame (merged e f b)) (mergeListed i e f b)).2
  else mergeListed i e f b

theorem mergeRaise_eq (i : Nat) (e : PageEntry) (f : RaiseBody) (b : Block) :
    mergeRaise i e f b = if e.state = .acked ∧ b.isLocal = false then
      (queuePage (ackFrame e.cause e.generation) (mergeRaised i e f b)).2 else mergeRaised i e f b := by
  have hentry : merged e f b =
      { e with
        level := max e.level f.level,
        priority := if e.cause.kind = .staffCall then max e.priority f.priority else e.priority,
        owner := (settleOwner e f).1, adopted := (settleOwner e f).2, oneShot := e.oneShot || (settleOwner e f).2,
        deadline := if (settleOwner e f).1 ≠ b.id then none
          else if e.owner ≠ b.id ∧ e.state = .raised then some (b.now + b.cfg.ackTimeout) else e.deadline } := by
    rw [settleOwner_eq, merged, Bool.or_assoc]
    rfl
  unfold mergeRaised mergeListed mergeWritten
  rw [hentry]
  rfl

theorem mergeWritten_work (i : Nat) (e : PageEntry) (f : RaiseBody) (b : Block) : PageWork b (mergeWritten i e f b) :=
  .ite (PageWork.refl b).setPage.setMemory (PageWork.refl b).setPage

theorem mergeListed_work (i : Nat) (e : PageEntry) (f : RaiseBody) (b : Block) :
    PageWork (mergeWritten i e f b) (mergeListed i e f b) :=
  (PageWork.ite (PageWork.refl _).pageEvent (.refl _)).placeSend

theorem mergeRaised_work (i : Nat) (e : PageEntry) (f : RaiseBody) (b : Block) :
    PageWork (mergeListed i e f b) (mergeRaised i e f b) :=
  .ite (PageWork.refl _).queuePage (.refl _)

theorem mergeRaise_work (i : Nat) (e : PageEntry) (f : RaiseBody) (b : Block) :
    PageWork (mergeRaised i e f b) (mergeRaise i e f b) := by
  rw [mergeRaise_eq]
  exact .ite (PageWork.refl _).queuePage (.refl _)

theorem mergeListed_pages (i : Nat) (e : PageEntry) (f : RaiseBody) (b : Block) :
    (mergeListed i e f b).pages = (mergeWritten i e f b).pages := by
  unfold mergeListed
  split <;> simp [pageEvent]

/-- The frames that a merge queues leave pages and pager (R155). -/
theorem mergeRaise_stays (i : Nat) (e : PageEntry) (f : RaiseBody) (b : Block) :
    (mergeRaise i e f b).pages = (mergeWritten i e f b).pages ∧
      (mergeRaise i e f b).pager = (mergeListed i e f b).pager := by
  rw [mergeRaise_eq, mergeRaised]
  split <;> split <;> simp [mergeListed_pages]

theorem mergeWritten_table (i : Nat) (e : PageEntry) (f : RaiseBody) (b : Block) :
    (mergeWritten i e f b).pages.table = b.pages.table.set i (some (merged e f b)) ∧
      (mergeWritten i e f b).pages.retry = b.pages.retry ∧ (mergeWritten i e f b).pager = b.pager ∧
      (mergeWritten i e f b).line = b.line := by
  unfold mergeWritten
  dsimp only
  split <;> exact ⟨rfl, rfl, rfl, rfl⟩

/-- A risen level is the top level remembered (R149). -/
theorem mergeWritten_memory {i : Nat} {e : PageEntry} {f : RaiseBody} {b : Block} (hm : memoryCanonical b = true)
    (h : e.level < f.level) : ((mergeWritten i e f b).memory e.cause).topLevel = f.level := by
  have hlevel : (merged e f b).level = f.level := max_eq_right h.le
  unfold mergeWritten
  rw [hlevel]
  dsimp only
  rw [if_pos h]
  exact congrArg MemRecord.topLevel (memory_setMemory (b := setPage i (some (merged e f b)) b) hm)

/-- A change of level or owner is reported (R151). -/
theorem mergeListed_changed {i : Nat} {e : PageEntry} {f : RaiseBody} {b : Block}
    (h : e.level < f.level ∨ mergedOwner e f ≠ e.owner) :
    pageChanged (merged e f b) b (mergeListed i e f b) := by
  have hchanged : e.level ≠ (merged e f b).level ∨ e.owner ≠ (merged e f b).owner :=
    h.imp (fun hlevel => (hlevel.trans_le (le_max_right _ _)).ne) Ne.symm
  have hevent : pageChanged (merged e f b) b (pageEvent (merged e f b) (mergeWritten i e f b)) :=
    offered_of_grows (mergeWritten_work i e f b).toEventsGrow (offered_offer _ _)
  unfold mergeListed
  rw [if_pos hchanged]
  exact offered_mono hevent (PageWork.refl _).placeSend.toEventsGrow

theorem mergeListed_queue (i : Nat) (e : PageEntry) (f : RaiseBody) (b : Block) :
    (mergeListed i e f b).line.pageQueue = b.line.pageQueue := by
  unfold mergeListed
  split <;> simp [pageEvent, (mergeWritten_table i e f b).2.2.2]

theorem lineTakes_of_not_local {b : Block} (hl : listening b = true) (hs : b.station.state ≠ .localOnly) :
    b.lineTakes = true := by
  have hworks : b.station.state.works = true := by
    simp only [listening, Block.runs, Bool.and_eq_true] at hl
    exact hl.1.2
  exact takes_of_works hworks hs

/-- What a merge leaves of the entry's page (R149, R151, R155, R161). -/
structure Merges (i : Nat) (e : PageEntry) (f : RaiseBody) (b b' : Block) : Prop where
  table : b'.pages.table = b.pages.table.set i (some (merged e f b))
  top : e.level < f.level → (b'.memory e.cause).topLevel = f.level
  changed : e.level < f.level ∨ mergedOwner e f ≠ e.owner → pageChanged (merged e f b) b b'
  raise : b.lineTakes = true → b.line.pageQueue.length < 7 → e.owner = b.station.strapId →
    mergedOwner e f = b.station.strapId → b.station.strapId < f.owner → raiseFrame (merged e f b) ∈ b'.line.pageQueue
  ack : b.lineTakes = true → b.line.pageQueue.length < 7 → e.state = .acked →
    ackFrame e.cause e.generation ∈ b'.line.pageQueue
  listed : b.pager.elected = true → e.state = .raised → e.clearDue = false → e.cause ∈ b'.pager.sendList

theorem notLocal_of_takes {b : Block} (h : b.lineTakes = true) : b.isLocal = false := by
  unfold Block.lineTakes at h
  cases hs : b.station.state <;> simp_all [Block.isLocal]

theorem mergeRaise_merges {i : Nat} {e : PageEntry} {f : RaiseBody} {b : Block} (hm : memoryCanonical b = true)
    (h : locatePage e.cause b = some (i, e)) : Merges i e f b (mergeRaise i e f b) := by
  obtain ⟨hpages, hpager⟩ := mergeRaise_stays i e f b
  obtain ⟨htable, _, hwritten, _⟩ := mergeWritten_table i e f b
  have hlisted := ((mergeWritten_work i e f b).trans (mergeListed_work i e f b))
  have hraised := hlisted.trans (mergeRaised_work i e f b)
  refine ⟨by rw [hpages, htable], fun hlevel => ?_, fun hchange => ?_, fun ht hroom ho ho' hid => ?_,
    fun ht hroom hacked => ?_, fun helected hr hd => ?_⟩
  · rw [memory_of_pages hpages]
    exact mergeWritten_memory hm hlevel
  · exact offered_mono (mergeListed_changed hchange) ((mergeRaised_work i e f b).trans (mergeRaise_work i e f b)).toEventsGrow
  · refine (mergeRaise_work i e f b).frames.subset ?_
    rw [mergeRaised, if_pos ⟨ho, ho', hid, notLocal_of_takes ht⟩]
    exact mem_queuePage (hlisted.takes.trans ht) (by rw [mergeListed_queue]; omega)
  · have hlength : (mergeRaised i e f b).line.pageQueue.length ≤ b.line.pageQueue.length + 1 := by
      unfold mergeRaised
      split
      · exact (queuePage_length _ _).trans_eq (by rw [mergeListed_queue])
      · rw [mergeListed_queue]
        exact Nat.le_succ _
    rw [mergeRaise_eq, if_pos ⟨hacked, notLocal_of_takes ht⟩]
    exact mem_queuePage (hraised.takes.trans ht) (by omega)
  · rw [hpager]
    unfold mergeListed
    have hplaced : locatePage e.cause (mergeWritten i e f b) = some (i, merged e f b) := locatePage_of_set h htable rfl
    split
    · exact mem_placeSend (e := merged e f b) ((congrArg Pager.elected (by simp [pageEvent, hwritten])).trans helected)
        ((locatePage_of_table (b := mergeWritten i e f b) (by simp [pageEvent]) _).trans hplaced) hr hd
    · exact mem_placeSend (e := merged e f b) ((congrArg Pager.elected hwritten).trans helected) hplaced hr hd

/-! ## A RAISE that changes no entry (R155, R164) -/

/-- The numbered entries are what the table holds (R155). -/
theorem mem_numbered {x : Nat × PageEntry} {i : Nat} {es : List (Option PageEntry)} (h : x ∈ numbered i es) :
    some x.2 ∈ es := by
  induction es generalizing i with
  | nil => cases h
  | cons e rest ih =>
    cases e with
    | none => exact List.mem_cons_of_mem _ (ih h)
    | some y =>
      obtain rfl | hx := List.mem_cons.1 h
      · exact List.mem_cons_self
      · exact List.mem_cons_of_mem _ (ih hx)

/-- The candidate for eviction is one of the entries looked at. -/
theorem pick_mem {xs : List (Nat × PageEntry)} {x : Nat × PageEntry} (acc : Option (Nat × PageEntry))
    (h : xs.foldl (fun acc x => match acc with
      | none => some x
      | some y => if evictsBefore x y then some x else some y) acc = some x) : acc = some x ∨ x ∈ xs := by
  induction xs generalizing acc with
  | nil => exact .inl h
  | cons y rest ih =>
    obtain hacc | hrest := ih _ h
    · cases acc with
      | none => exact .inr (by simp_all)
      | some z =>
        dsimp only at hacc
        split at hacc
        · exact .inr (by simp_all)
        · exact .inl hacc
    · exact .inr (List.mem_cons_of_mem _ hrest)

/-- Entries owned, or of the frame's priority at least, are not evicted (R155). -/
theorem victim_eq_none {p : Nat} {b : Block}
    (h : ∀ i e, pageAt i b = some e → e.owner = b.station.strapId ∨ p ≤ e.priority) : victim p b = none := by
  unfold victim
  rw [Option.filter_eq_none_iff]
  intro x hx
  obtain hnone | hmem := pick_mem none hx
  · cases hnone
  · obtain ⟨hnumbered, howner⟩ := List.mem_filter.1 hmem
    obtain ⟨i, hi⟩ := some_mem_table.1 (mem_numbered hnumbered)
    have hnot : x.2.owner ≠ b.station.strapId := of_decide_eq_true howner
    simpa using (h i x.2 hi).resolve_left hnot

/-! ## The cases of a heard RAISE -/

theorem isLocal_iff {b : Block} : b.isLocal = true ↔ b.station.state = .localOnly := decide_eq_true_iff

theorem newer_self (g : Nat) : newer g g = false := by
  simp only [newer, Bool.and_eq_false_iff, decide_eq_false_iff_not]
  omega

/-- A RAISE of the entry's own generation is merged after the memory has heard it. -/
theorem heardRaise_merge {f : RaiseBody} {i : Nat} {e : PageEntry} {b : Block}
    (h : locatePage f.cause b = some (i, e)) (hg : e.generation = f.generation)
    (hbar : ¬(b.station.state = .localOnly ∧ e.owner = b.station.strapId)) :
    heardRaise f b = mergeRaise i e f (learn f.cause f.generation false b) := by
  have hfound : locatePage f.cause (learn f.cause f.generation false b) = some (i, e) := h
  have hnot : ¬((learn f.cause f.generation false b).isLocal = true ∧ e.owner = (learn f.cause f.generation false b).id) :=
    fun ⟨hl, ho⟩ => hbar ⟨isLocal_iff.1 hl, ho⟩
  simp only [heardRaise, hfound, if_neg hnot, hg, newer_self, if_true, Bool.false_eq_true, if_false]

/-- A RAISE that is late, or older than its entry, or barred by LOCAL, teaches the memory alone (R155, R164). -/
theorem heardRaise_ignored {f : RaiseBody} {b : Block}
    (h : (locatePage f.cause b = none ∧ raiseLate f b) ∨ (∃ i e, locatePage f.cause b = some (i, e) ∧
      ((newer f.generation e.generation = false ∧ f.generation ≠ e.generation) ∨
        (b.station.state = .localOnly ∧ e.owner = b.station.strapId)))) :
    heardRaise f b = learn f.cause f.generation false b := by
  obtain ⟨hnone, hlate⟩ | ⟨i, e, hsome, hkept⟩ := h
  · have habsent : locatePage f.cause (learn f.cause f.generation false b) = none := hnone
    simp only [heardRaise, habsent]
    exact if_pos hlate
  · have hfound : locatePage f.cause (learn f.cause f.generation false b) = some (i, e) := hsome
    simp only [heardRaise, hfound]
    split
    · rfl
    · rename_i hnot
      obtain ⟨holder, hne⟩ := hkept.resolve_right fun hbar => hnot ⟨isLocal_iff.2 hbar.1, hbar.2⟩
      rw [if_neg (by simp [holder]), if_neg hne]

/-- A RAISE without a place is counted as dropped (R155). -/
theorem heardRaise_full {f : RaiseBody} {b : Block} (hnone : locatePage f.cause b = none) (hlate : ¬ raiseLate f b)
    (hfree : freePage b = none) (h : ∀ i e, pageAt i b = some e → e.owner = b.station.strapId ∨ f.priority ≤ e.priority) :
    heardRaise f b = count .pagesDropped (learn f.cause f.generation false b) := by
  have habsent : locatePage f.cause (learn f.cause f.generation false b) = none := hnone
  have hno : freePage (learn f.cause f.generation false b) = none := hfree
  have hkeep : victim f.priority (learn f.cause f.generation false b) = none := victim_eq_none h
  simp only [heardRaise, habsent]
  refine (if_neg hlate).trans ?_
  simp only [hno, hkeep]

theorem learnedRecord_newer {r : MemRecord} {g : Nat} (h : r.state = .never ∨ newer g r.generation = true) :
    learnedRecord r g false = { state := .opened, generation := g, topLevel := 0 } := by
  rw [learnedRecord, if_pos h]
  rfl

/-- This station's RAISE of the page that the table holds is not overruled (R59). -/
theorem raiseFrame_stands {heard : Option (PageSub × Cause × Nat)} {e : PageEntry} {b : Block}
    (h : heldPage e.cause b = some e) : overruled heard b (raiseFrame e) = false := by
  have hheld : heldPage (raiseFrame e).cause b = some e := h
  simp only [overruled, raiseFrame] at hheld ⊢
  simp [hheld, newer_self]

/-- No RAISE overrules an ACK (R59). -/
theorem ackFrame_stands {c c' : Cause} {g g' : Nat} {b : Block} :
    overruled (some (.raise, c', g')) b (ackFrame c g) = false := by
  simp [overruled, ackFrame]

/-- The entry, the queue and the pager after a RAISE of the entry's generation, once the withdrawal is done. -/
theorem merges_withdrawn {f : RaiseBody} {i : Nat} {e : PageEntry} {b h : Block} (hl : listening b = true)
    (hfound : locatePage f.cause b = some (i, e)) (hm : Merges i e f b h) :
    let d := setPosition .gap (withdraw (.raise f) h)
    b.station.state ≠ .localOnly → b.line.pageQueue.length < 7 →
      (e.owner = b.station.strapId → mergedOwner e f = b.station.strapId → b.station.strapId < f.owner →
        raiseFrame (merged e f b) ∈ d.line.pageQueue) ∧
      (e.state = .acked → ackFrame e.cause e.generation ∈ d.line.pageQueue) := by
  intro d hs hroom
  have htakes := lineTakes_of_not_local hl hs
  have hheld : heldPage (merged e f b).cause h = some (merged e f b) :=
    heldPage_of_locate (locatePage_of_set ((locatePage_eq_some.1 hfound).2.1 ▸ hfound) hm.table rfl)
  exact ⟨fun ho ho' hid => mem_withdraw (hm.raise htakes hroom ho ho' hid) (raiseFrame_stands hheld),
    fun hacked => mem_withdraw (hm.ack htakes hroom hacked) ackFrame_stands⟩

/-- Settles O33: the merge, the silence and the drop are the three ways a heard RAISE ends that makes no entry; the
withdrawal follows each. -/
theorem heardRaiseMeetsItsEntry : Obligations.HeardRaiseMeetsItsEntry := by
  intro s source sequence body f hl h31 hid hlen hparse hmem
  have hbody : parseBody .raise body = some (.raise f) := by simp [parseBody, hparse]
  refine completes_of _ (exec_frameOf .raise source sequence body s) ?_
  rw [receive_taken hl h31 hid (by simp [FrameForm.admits, hlen]) hbody]
  obtain ⟨htaken, htakenFrame⟩ := demandTaken_pageWork source.toNat s.block
  have hwork : PageWork (demandTaken source.toNat s.block) (heardRaise f (demandTaken source.toNat s.block)) :=
    (PageWork.refl _).heardRaise
  refine ⟨fun i e hfound hg hbar => ?_, fun hignored => ?_, fun hnone hlate hfree hkeep => ?_, ?_, ?_⟩
  · have hcause : e.cause = f.cause := (locatePage_eq_some.1 hfound).2.1
    have hlearnt : PageWork (demandTaken source.toNat s.block)
        (learn f.cause f.generation false (demandTaken source.toNat s.block)) := (PageWork.refl _).learn
    have hmerges : Merges i e f (learn f.cause f.generation false (demandTaken source.toNat s.block)) _ :=
      mergeRaise_merges (memoryCanonical_setMemory (c := f.cause) hmem) (hcause ▸ hfound)
    have heq : heardRaise f (demandTaken source.toNat s.block) = _ := heardRaise_merge hfound hg hbar
    simp only [handle, heq]
    refine ⟨pageAt_of_set_self hmerges.table (pageAt_lt (locatePage_eq_some.1 hfound).1),
      fun j hj => pageAt_of_set_ne hmerges.table hj.symm, fun hlevel => ?_, fun hchange => ?_,
      merges_withdrawn (b := learn f.cause f.generation false (demandTaken source.toNat s.block)) hl hfound hmerges,
      fun helected hr hd => ?_⟩
    · have htop := hmerges.top hlevel
      rw [hcause] at htop
      exact htop
    · exact offered_of_grows (htaken.trans hlearnt.toEventsGrow) (hmerges.changed hchange)
    · have hlisted := hmerges.listed helected hr hd
      rw [hcause] at hlisted
      exact hlisted
  · have heq : heardRaise f (demandTaken source.toNat s.block) = _ := heardRaise_ignored hignored
    simp only [handle, heq]
    exact ⟨rfl, rfl, rfl, rfl⟩
  · have heq : heardRaise f (demandTaken source.toNat s.block) = _ := heardRaise_full hnone hlate hfree hkeep
    simp only [handle, heq]
    refine ⟨rfl, rfl, rfl, rfl, fun hnewer => ?_⟩
    exact (memory_setMemory (b := demandTaken source.toNat s.block) hmem).trans (learnedRecord_newer hnewer)
  · have hline := hwork.toNotices.line_eq
    exact withdraw_overrules (r := .raise f) (s := s.block) hwork.frames (congrArg Line.shiftQueue hline :)
  · exact changesOnly_trans (changesOnly_trans htakenFrame hwork.frame)
      (by simp [changesOnly_iff, setPosition, withdraw, handle])

end Sys2Proof.Machine
end

section
/-! PROOFS. Heard ACK and CLEAR, and what the removal of an entry leaves while no raise waits (R149, R151, R154, R156). -/

namespace Sys2Proof.Machine

/-! ## An entry removed while no raise waits (R153, R154) -/

theorem enterRetry_of_empty {b : Block} (h : b.pages.retry = []) : enterRetry b = b := by
  unfold enterRetry
  rw [h]

theorem removeEntry_eq {i : Nat} {e : PageEntry} {g : Nat} {b : Block} (h : b.pages.retry = []) :
    removeEntry i e g b = takenOut i e g b :=
  enterRetry_of_empty (b := takenOut i e g b) h

theorem takenOut_memory {i : Nat} {e : PageEntry} {g : Nat} {b : Block} (hm : memoryCanonical b = true) :
    ((takenOut i e g b).memory e.cause).state = .cleared ∧
      ((takenOut i e g b).memory e.cause).generation = if newer g e.generation then g else e.generation := by
  have hpages : (takenOut i e g b).pages = (setPage i none (setMemory e.cause
      { state := .cleared, generation := if newer g e.generation then g else e.generation,
        topLevel := topAfter (b.memory e.cause) (if newer g e.generation then g else e.generation) } b)).pages := by
    simp [takenOut, removedEvent]
  rw [memory_of_pages hpages]
  have hwritten := memory_setMemory (b := b) (c := e.cause) (r :=
    { state := .cleared, generation := if newer g e.generation then g else e.generation,
      topLevel := topAfter (b.memory e.cause) (if newer g e.generation then g else e.generation) }) hm
  exact ⟨congrArg MemRecord.state hwritten, congrArg MemRecord.generation hwritten⟩

theorem takenOut_pager (i : Nat) (e : PageEntry) (g : Nat) (b : Block) :
    (takenOut i e g b).pager = { b.pager with sendList := b.pager.sendList.filter fun x => x ≠ e.cause } := by
  simp [takenOut, removedEvent, unlist, setPage, setMemory]

theorem takenOut_line (i : Nat) (e : PageEntry) (g : Nat) (b : Block) : (takenOut i e g b).line = b.line := by
  simp [takenOut, removedEvent, setPage, setMemory]

theorem takenOut_retry (i : Nat) (e : PageEntry) (g : Nat) (b : Block) :
    (takenOut i e g b).pages.retry = b.pages.retry := by
  simp [takenOut, removedEvent, setPage, setMemory]

theorem not_mem_unlisted (c : Cause) (cs : List Cause) : c ∉ cs.filter fun x => x ≠ c := by simp

/-- What the removal of an entry leaves while no raise waits. -/
structure Removes (i : Nat) (e : PageEntry) (g : Nat) (b b' : Block) : Prop where
  table : b'.pages.table = b.pages.table.set i none
  unlisted : e.cause ∉ b'.pager.sendList
  memory : (b'.memory e.cause).state = .cleared ∧
    (b'.memory e.cause).generation = if newer g e.generation then g else e.generation
  removed : pageRemoved e b b'

theorem removeEntry_removes {i : Nat} {e : PageEntry} {g : Nat} {b : Block} (hm : memoryCanonical b = true)
    (hr : b.pages.retry = []) : Removes i e g b (removeEntry i e g b) := by
  rw [removeEntry_eq hr]
  refine ⟨(takenOut_pages i e g b).1, ?_, ?_, takenOut_offered i e g b⟩
  · rw [takenOut_pager]
    exact not_mem_unlisted _ _
  · exact takenOut_memory hm

/-! ## A CLEAR offered (R154) -/

/-- The PAGE queue with a frame at its tail. -/
def Block.withFrame (f : PageFrame) (b : Block) : Block := b.onLine fun l => { l with pageQueue := l.pageQueue ++ [f] }

theorem withFrame_work (f : PageFrame) (b : Block) : PageWork b (b.withFrame f) :=
  ⟨⟨⟨rfl, List.prefix_refl _, id⟩, List.prefix_append _ _, rfl, rfl⟩, by simp [changesOnly_iff, Block.withFrame]⟩

theorem offerClear_room {i : Nat} {e : PageEntry} {b : Block} (ht : b.lineTakes = true)
    (hroom : b.line.pageQueue.length < 8) :
    offerClear i e b = removeEntry i e e.generation (b.withFrame (clearFrame e.cause e.generation)) := by
  simp [offerClear, queuePage, ht, Config.pagePlaces, hroom, Block.withFrame]

theorem offerClear_full {i : Nat} {e : PageEntry} {b : Block} (ht : b.lineTakes = true)
    (hfull : 8 ≤ b.line.pageQueue.length) :
    offerClear i e b = unlist e.cause (setPage i (some (e.madeDue b.now)) (count .pagesLost (count .framesDropped b))) := by
  have hno : ¬ b.line.pageQueue.length < 8 := by omega
  simp [offerClear, queuePage, ht, Config.pagePlaces, hno, PageEntry.madeDue]

/-- In LOCAL the entry is removed with no frame. -/
theorem offerClear_silent {i : Nat} {e : PageEntry} {b : Block} (ht : b.lineTakes = false) :
    offerClear i e b = removeEntry i e e.generation b := by
  simp [offerClear, queuePage, ht]

/-! ## A heard ACK -/

/-- The entry once acknowledged (R156). -/
def PageEntry.acknowledged (e : PageEntry) : PageEntry := { e with state := .acked, deadline := none }

theorem ackEntry_table (i : Nat) (e : PageEntry) (b : Block) :
    (ackEntry i e b).pages.table = b.pages.table.set i (some e.acknowledged) := by
  simp [ackEntry, pageEvent, setPage, PageEntry.acknowledged]

theorem ackEntry_rest (i : Nat) (e : PageEntry) (b : Block) :
    (ackEntry i e b).pages.retry = b.pages.retry ∧ (ackEntry i e b).line = b.line ∧
      (ackEntry i e b).pages.memory = b.pages.memory ∧
      (ackEntry i e b).pager.sendList = b.pager.sendList.filter fun x => x ≠ e.cause := by
  simp [ackEntry, pageEvent, setPage, unlist]

theorem ackEntry_changed (i : Nat) (e : PageEntry) (b : Block) : pageChanged e.acknowledged b (ackEntry i e b) :=
  offered_offer_of_port (by simp [setPage]) (by simp [setPage])

theorem clearIfOneShot_ackEntry {i : Nat} {e : PageEntry} {b : Block} (h : locatePage e.cause b = some (i, e)) :
    clearIfOneShot e.cause (ackEntry i e b) =
      if e.owner = b.station.strapId ∧ e.oneShot = true then offerClear i e.acknowledged (ackEntry i e b)
      else ackEntry i e b := by
  have hfound : locatePage e.cause (ackEntry i e b) = some (i, e.acknowledged) :=
    locatePage_of_set h (ackEntry_table i e b) rfl
  have hstrap : (ackEntry i e b).id = b.station.strapId :=
    congrArg Station.strapId ((PageWork.refl b).ackEntry (i := i) (e := e)).station
  simp only [clearIfOneShot, hfound, hstrap, PageEntry.acknowledged]

/-- The ACK that R156 acts on. -/
theorem heardAck_eq {i : Nat} {e : PageEntry} {b : Block} (h : locatePage e.cause b = some (i, e))
    (hs : e.state = .raised) (hbar : ¬(b.station.state = .localOnly ∧ e.owner = b.station.strapId)) :
    heardAck e.cause e.generation b = if e.owner = b.station.strapId ∧ e.oneShot = true then
      offerClear i e.acknowledged (ackEntry i e (learn e.cause e.generation false b))
      else ackEntry i e (learn e.cause e.generation false b) := by
  have hfound : locatePage e.cause (learn e.cause e.generation false b) = some (i, e) := h
  have hacts : heardAck e.cause e.generation b =
      clearIfOneShot e.cause (ackEntry i e (learn e.cause e.generation false b)) := by
    simp only [heardAck, hfound]
    exact if_pos ⟨trivial, hs, fun ⟨hl, ho⟩ => hbar ⟨isLocal_iff.1 hl, ho⟩⟩
  rw [hacts]
  exact clearIfOneShot_ackEntry hfound

theorem heardAck_ignored {c : Cause} {g i : Nat} {e : PageEntry} {b : Block} (h : locatePage c b = some (i, e))
    (hk : g ≠ e.generation ∨ e.state = .acked ∨ (b.station.state = .localOnly ∧ e.owner = b.station.strapId)) :
    heardAck c g b = learn c g false b := by
  have hfound : locatePage c (learn c g false b) = some (i, e) := h
  simp only [heardAck, hfound]
  refine if_neg fun ⟨hg, hs, hbar⟩ => ?_
  obtain hne | hacked | ⟨hl, ho⟩ := hk
  · exact hne hg.symm
  · rw [hs] at hacked
    cases hacked
  · exact hbar ⟨isLocal_iff.2 hl, ho⟩

/-- What the acknowledgement of an owned one-shot page leaves: its CLEAR is queued and it is gone, or the full PAGE queue
leaves it clear due (R154, R156). -/
theorem clearAcknowledged {i : Nat} {e : PageEntry} {b : Block} (hm : memoryCanonical b = true)
    (h : locatePage e.cause b = some (i, e)) (ht : b.lineTakes = true) :
    let b' := offerClear i e.acknowledged (ackEntry i e b)
    (b.line.pageQueue.length < 8 → b.pages.retry = [] →
      Removes i e e.generation b b' ∧ clearFrame e.cause e.generation ∈ b'.line.pageQueue ∧
        pageChanged e.acknowledged b b') ∧
    (8 ≤ b.line.pageQueue.length →
      pageAt i b' = some (e.acknowledged.madeDue b.now) ∧ e.cause ∉ b'.pager.sendList) := by
  intro b'
  obtain ⟨hretry, hline, hmemory, hlist⟩ := ackEntry_rest i e b
  have hack : PageWork b (ackEntry i e b) := (PageWork.refl b).ackEntry
  have htakes := hack.takes.trans ht
  refine ⟨fun hroom hr => ?_, fun hfull => ?_⟩
  · have heq : b' = removeEntry i e.acknowledged e.generation
        ((ackEntry i e b).withFrame (clearFrame e.cause e.generation)) :=
      offerClear_room htakes (by rw [hline]; exact hroom)
    have hm' : memoryCanonical ((ackEntry i e b).withFrame (clearFrame e.cause e.generation)) = true := by
      exact (congrArg memoryWf hmemory).trans hm
    have hgone := removeEntry_removes (i := i) (e := e.acknowledged) (g := e.generation) hm' (hretry.trans hr)
    have hframed : PageWork (ackEntry i e b) ((ackEntry i e b).withFrame (clearFrame e.cause e.generation)) :=
      withFrame_work _ _
    rw [heq]
    refine ⟨⟨?_, hgone.unlisted, hgone.memory, ?_⟩, ?_, ?_⟩
    · rw [hgone.table, show ((ackEntry i e b).withFrame _).pages = (ackEntry i e b).pages from rfl, ackEntry_table,
        List.set_set]
    · exact offered_of_grows (hack.trans hframed).toEventsGrow hgone.removed
    · refine ((PageWork.refl _).removeEntry).frames.subset ?_
      simp [Block.withFrame]
    · exact offered_mono (ackEntry_changed i e b) (hframed.removeEntry).toEventsGrow
  · have heq : b' = _ := offerClear_full htakes (hline.symm ▸ hfull)
    rw [heq]
    refine ⟨?_, not_mem_unlisted _ _⟩
    have hset : (unlist e.acknowledged.cause (setPage i (some (e.acknowledged.madeDue (ackEntry i e b).now))
        (count .pagesLost (count .framesDropped (ackEntry i e b))))).pages.table =
          b.pages.table.set i (some (e.acknowledged.madeDue b.now)) := by
      have hclock : (ackEntry i e b).now = b.now := congrArg Station.clock hack.station
      simp [setPage, ackEntry_table, hclock]
    exact pageAt_of_set_self hset (pageAt_lt (locatePage_eq_some.1 h).1)

/-- No ACK overrules a CLEAR (R59). -/
theorem clearFrame_stands {c c' : Cause} {g g' : Nat} {b : Block} :
    overruled (some (.ack, c', g')) b (clearFrame c g) = false := by
  simp [overruled, clearFrame]

/-! ## A heard CLEAR -/

theorem newer_asymm {v m : Nat} (h : newer v m = true) : newer m v = false := by
  simp only [newer, Bool.and_eq_true, decide_eq_true_eq, Bool.and_eq_false_iff, decide_eq_false_iff_not] at h ⊢
  omega

theorem heardClear_acts {c : Cause} {g i : Nat} {e : PageEntry} {b : Block} (h : locatePage c b = some (i, e))
    (hg : g = e.generation ∨ newer g e.generation = true)
    (hbar : ¬(b.station.state = .localOnly ∧ e.owner = b.station.strapId)) :
    heardClear c g b = removeEntry i e g (learn c g true b) := by
  have hfound : locatePage c (learn c g true b) = some (i, e) := h
  simp only [heardClear, hfound]
  exact if_pos ⟨hg.imp_left Eq.symm, fun ⟨hl, ho⟩ => hbar ⟨isLocal_iff.1 hl, ho⟩⟩

theorem heardClear_ignored {c : Cause} {g i : Nat} {e : PageEntry} {b : Block} (h : locatePage c b = some (i, e))
    (hk : newer e.generation g = true ∨ (b.station.state = .localOnly ∧ e.owner = b.station.strapId)) :
    heardClear c g b = learn c g true b := by
  have hfound : locatePage c (learn c g true b) = some (i, e) := h
  simp only [heardClear, hfound]
  refine if_neg fun ⟨hreached, hbar⟩ => ?_
  obtain holder | ⟨hl, ho⟩ := hk
  · obtain heq | hnewer := hreached
    · rw [heq, newer_self] at holder
      cases holder
    · rw [newer_asymm hnewer] at holder
      cases holder
  · exact hbar ⟨isLocal_iff.2 hl, ho⟩

/-! ## The two frames received -/

section
variable {source sequence : Byte} {body : List Byte} {c : Cause} {s : State}

theorem exec_ack (hl : listening s.block = true) (h31 : source.toNat ≤ 31) (hid : source.toNat ≠ s.block.station.strapId)
    (hlen : body.length = 3) (hc : causeOf (body.getD 0 0) (body.getD 1 0) = some c) {P : Block → Prop}
    (h : P (setPosition .gap (withdraw (.ack c (at1 body 2)) (heardAck c (at1 body 2) (demandTaken source.toNat s.block))))) :
    completes (.pageAckFrame source sequence body) s P := by
  have hbody : parseBody .ack body = some (.ack c (at1 body 2)) := by
    rw [parseBody, hc]
    rfl
  refine completes_of _ (exec_frameOf .ack source sequence body s) ?_
  rw [receive_taken hl h31 hid (by simp [FrameForm.admits, hlen]) hbody]
  exact h

theorem exec_clear (hl : listening s.block = true) (h31 : source.toNat ≤ 31)
    (hid : source.toNat ≠ s.block.station.strapId) (hlen : body.length = 3)
    (hc : causeOf (body.getD 0 0) (body.getD 1 0) = some c) {P : Block → Prop}
    (h : P (setPosition .gap
      (withdraw (.clear c (at1 body 2)) (heardClear c (at1 body 2) (demandTaken source.toNat s.block))))) :
    completes (.pageClearFrame source sequence body) s P := by
  have hbody : parseBody .clear body = some (.clear c (at1 body 2)) := by
    rw [parseBody, hc]
    rfl
  refine completes_of _ (exec_frameOf .clear source sequence body s) ?_
  rw [receive_taken hl h31 hid (by simp [FrameForm.admits, hlen]) hbody]
  exact h

end

/-- A frame taken, a page's act and the withdrawal change line, pages, pager and port alone. -/
theorem heard_frame {i : Nat} {b b' : Block} (h : PageWork (demandTaken i b) b') (r : Received) :
    changesOnly [.line, .pages, .pager, .port] b (setPosition .gap (withdraw r b')) :=
  changesOnly_trans (changesOnly_trans (demandTaken_pageWork i b).2 h.frame)
    (by simp [changesOnly_iff, setPosition, withdraw])

/-- A page's act after a frame taken, then the withdrawal (R59). -/
theorem heard_withdraws {i : Nat} {b b' : Block} (h : PageWork (demandTaken i b) b') (r : Received) :
    withdrawsOverruled r.pageWord b (setPosition .gap (withdraw r b')) := by
  have hline := h.toNotices.line_eq
  exact withdraw_overrules (s := b) h.frames (congrArg Line.shiftQueue hline :)

/-- Settles O34: an ACK and a CLEAR each act on the entry they reach or teach the memory alone, and the withdrawal follows. -/
theorem heardAckAndClear : Obligations.HeardAckAndClear := by
  refine ⟨fun s source sequence body c i e hl h31 hid hlen hc hfound hmem => ?_,
    fun s source sequence body c hl h31 hid hlen hc => ⟨?_, ?_⟩⟩
  · obtain rfl : e.cause = c := (locatePage_eq_some.1 hfound).2.1
    have hat := (locatePage_eq_some.1 hfound).1
    have htaken := (demandTaken_pageWork source.toNat s.block).1
    have hlearnt : PageWork (demandTaken source.toNat s.block)
        (learn e.cause e.generation false (demandTaken source.toNat s.block)) := (PageWork.refl _).learn
    have hacked (hs : e.state = .raised) (hbar : ¬(s.block.station.state = .localOnly ∧ e.owner = s.block.station.strapId)) :
        heardAck e.cause e.generation (demandTaken source.toNat s.block) =
          if e.owner = s.block.station.strapId ∧ e.oneShot = true then _ else _ := heardAck_eq hfound hs hbar
    refine ⟨exec_ack hl h31 hid hlen hc ⟨fun hg hs hbar hkeep => ?_, fun hg hs hbar ho hone => ?_, fun hignored => ?_, ?_⟩,
      exec_clear hl h31 hid hlen hc ⟨fun hg hbar hr => ?_, fun hignored => ?_, ?_⟩⟩
    · rw [hg, hacked hs hbar, if_neg hkeep]
      refine ⟨pageAt_of_set_self (ackEntry_table _ _ _) (pageAt_lt hat), not_mem_unlisted _ _, ?_⟩
      exact offered_of_grows (htaken.trans hlearnt.toEventsGrow) (ackEntry_changed _ _ _)
    · have htakes := lineTakes_of_not_local hl fun hlocal => hbar ⟨hlocal, ho⟩
      obtain ⟨hroom, hfull⟩ := clearAcknowledged (b := learn e.cause e.generation false (demandTaken source.toNat s.block))
        (memoryCanonical_setMemory (c := e.cause) hmem) hfound htakes
      rw [hg, hacked hs hbar, if_pos ⟨ho, hone⟩]
      refine ⟨fun hlt hr => ?_, fun hge => ?_⟩
      · obtain ⟨hgone, hframe, hchanged⟩ := hroom hlt hr
        exact ⟨pageAt_of_set_self hgone.table (pageAt_lt hat), mem_withdraw hframe clearFrame_stands, hgone.unlisted,
          hgone.memory.1, offered_of_grows (htaken.trans hlearnt.toEventsGrow) hchanged,
          offered_of_grows (htaken.trans hlearnt.toEventsGrow) hgone.removed⟩
      · obtain ⟨hdue, hunlisted⟩ := hfull hge
        exact ⟨⟨_, hdue, rfl, rfl, rfl⟩, hunlisted⟩
    · have heq : heardAck e.cause (at1 body 2) (demandTaken source.toNat s.block) = _ := heardAck_ignored hfound hignored
      rw [heq]
      exact ⟨rfl, rfl⟩
    · exact heard_frame (PageWork.refl _).heardAck _
    · have heq : heardClear e.cause (at1 body 2) (demandTaken source.toNat s.block) = _ := heardClear_acts hfound hg hbar
      have hlearnt : PageWork (demandTaken source.toNat s.block)
          (learn e.cause (at1 body 2) true (demandTaken source.toNat s.block)) := (PageWork.refl _).learn
      have hgone : Removes i e (at1 body 2) (learn e.cause (at1 body 2) true (demandTaken source.toNat s.block)) _ :=
        removeEntry_removes (memoryCanonical_setMemory (c := e.cause) hmem) hr
      rw [heq]
      refine ⟨pageAt_of_set_self hgone.table (pageAt_lt hat), hgone.unlisted, hgone.memory.1, ?_,
        offered_of_grows (htaken.trans hlearnt.toEventsGrow) hgone.removed⟩
      refine hgone.memory.2.trans ?_
      obtain heq | hnewer := hg
      · rw [heq, newer_self]
        rfl
      · rw [if_pos hnewer]
    · have heq : heardClear e.cause (at1 body 2) (demandTaken source.toNat s.block) = _ := heardClear_ignored hfound hignored
      rw [heq]
      exact ⟨rfl, rfl⟩
    · exact heard_frame (PageWork.refl _).heardClear _
  · exact exec_ack hl h31 hid hlen hc (heard_withdraws (PageWork.refl _).heardAck _)
  · exact exec_clear hl h31 hid hlen hc (heard_withdraws (PageWork.refl _).heardClear _)

end Sys2Proof.Machine
end

section
/-! PROOFS. Acts of the Course Coordinator: what they leave of line, port and plan, and what a course keeps while its state is
derived (R90, R120, R128, R129). -/

namespace Sys2Proof.Machine

/-! ## The course table (R90) -/

theorem courseAt_eq (i : Nat) (b : Block) : courseAt i b = (b.plan.courses[i]?).join := by
  rw [courseAt, List.getD_eq_getElem?_getD]
  cases b.plan.courses[i]? <;> rfl

theorem courseAt_lt {i : Nat} {c : Course} {b : Block} (h : courseAt i b = some c) : i < b.plan.courses.length := by
  by_contra hn
  rw [courseAt_eq, List.getElem?_eq_none (by omega)] at h
  cases h

theorem courseAt_setCourse_self {i : Nat} {c : Course} {x : Option Course} {b : Block} (h : courseAt i b = some c) :
    courseAt i (setCourse i x b) = x := by
  rw [courseAt_eq]
  simp [setCourse, courseAt_lt h]

theorem courseAt_setCourse_ne {i j : Nat} {x : Option Course} {b : Block} (h : i ≠ j) :
    courseAt j (setCourse i x b) = courseAt j b := by
  rw [courseAt_eq, courseAt_eq]
  simp [setCourse, h]

theorem courseAt_of_plan {b b' : Block} (h : b'.plan = b.plan) (i : Nat) : courseAt i b' = courseAt i b := by
  rw [courseAt, h, courseAt]

theorem courseAt_getElem {i : Nat} {b : Block} (h : i < b.plan.courses.length) : courseAt i b = b.plan.courses[i] := by
  rw [courseAt_eq, List.getElem?_eq_getElem h, Option.join_some]

/-- The first course of a tag. -/
theorem courseIndex_eq_some {tag i : Nat} {b : Block} : courseIndex tag b = some i ↔
    (∃ c, courseAt i b = some c ∧ c.tag = tag) ∧ ∀ j < i, ∀ d, courseAt j b = some d → d.tag ≠ tag := by
  rw [courseIndex, List.findIdx?_eq_some_iff_getElem]
  constructor
  · rintro ⟨hi, hhit, hlow⟩
    refine ⟨?_, fun j hj d hd ht => hlow j hj ?_⟩
    · rw [courseAt_getElem hi]
      simpa [Option.any_eq_true] using hhit
    · rw [← courseAt_getElem (by omega), hd]
      simpa using ht
  · rintro ⟨⟨c, hc, ht⟩, hlow⟩
    have hi := courseAt_lt hc
    refine ⟨hi, ?_, fun j hj hhit => ?_⟩
    · rw [← courseAt_getElem hi, hc]
      simpa using ht
    · rw [← courseAt_getElem (by omega)] at hhit
      obtain ⟨d, hd, hdt⟩ := (Option.any_eq_true ..).1 hhit
      exact hlow j hj d hd (by simpa using hdt)

theorem locateCourse_eq_some {tag i : Nat} {c : Course} {b : Block} : locateCourse tag b = some (i, c) ↔
    courseAt i b = some c ∧ c.tag = tag ∧ ∀ j < i, ∀ d, courseAt j b = some d → d.tag ≠ tag := by
  simp only [locateCourse, Option.bind_eq_some_iff, Option.map_eq_some_iff, Prod.mk.injEq, courseIndex_eq_some]
  constructor
  · rintro ⟨j, ⟨⟨x, hx, ht⟩, hlow⟩, y, hy, rfl, rfl⟩
    obtain rfl : x = y := Option.some.inj (hx.symm.trans hy)
    exact ⟨hx, ht, hlow⟩
  · rintro ⟨hc, ht, hlow⟩
    exact ⟨i, ⟨⟨c, hc, ht⟩, hlow⟩, c, hc, rfl, rfl⟩

theorem courseIndex_of_locate {tag i : Nat} {c : Course} {b : Block} (h : locateCourse tag b = some (i, c)) :
    courseIndex tag b = some i := by
  obtain ⟨hc, ht, hlow⟩ := locateCourse_eq_some.1 h
  exact courseIndex_eq_some.2 ⟨⟨c, hc, ht⟩, hlow⟩

theorem courseIndex_of_none {tag : Nat} {b : Block} (h : locateCourse tag b = none) : courseIndex tag b = none := by
  rw [Option.eq_none_iff_forall_ne_some]
  intro i hi
  obtain ⟨c, hc, _⟩ := (courseIndex_eq_some.1 hi).1
  simp [locateCourse, hi, hc] at h

/-! ## The count of frames dropped (R174) -/

/-- The count of frames dropped does not fall. -/
def dropsOn (b b' : Block) : Prop := min 65535 b.port.counters.framesDropped ≤ b'.port.counters.framesDropped

theorem dropsOn_refl (b : Block) : dropsOn b b := min_le_right _ _

theorem dropsOn_trans {b c d : Block} (h : dropsOn b c) (g : dropsOn c d) : dropsOn b d :=
  (le_min (min_le_left _ _) h).trans g

section
variable {s b : Block}

theorem dropsOn_counters (h : dropsOn s b) {b' : Block} (hc : b'.port.counters = b.port.counters) : dropsOn s b' := by
  rw [dropsOn, hc]
  exact h

theorem dropsOn_count (h : dropsOn s b) {n : CounterName} : dropsOn s (count n b) := by
  refine dropsOn_trans h ?_
  cases n
  case framesDropped => exact min_le_min_left _ (Nat.le_succ _)
  all_goals exact min_le_right _ _

theorem dropsOn_queuePage (h : dropsOn s b) {f : PageFrame} : dropsOn s (queuePage f b).2 := by
  obtain ⟨_, _, hq⟩ | ⟨_, _, hq⟩ | ⟨_, hq⟩ := queuePage_cases f b
  · rw [hq]
    exact dropsOn_counters h rfl
  · rw [hq]
    exact dropsOn_count (dropsOn_count h)
  · rw [hq]
    exact h

theorem dropsOn_makeEntry (h : dropsOn s b) {i : Nat} {w : Waiting} : dropsOn s (makeEntry i w b) := by
  unfold makeEntry
  extract_lets g e written counted
  have hcounted : dropsOn s counted := dropsOn_count (dropsOn_counters h (by simp [written, pageEvent, setPage, setMemory]))
  exact dropsOn_counters (dropsOn_queuePage (f := raiseFrame e) hcounted) (by simp)

theorem dropsOn_enterRetry (h : dropsOn s b) : dropsOn s (enterRetry b) := by
  unfold enterRetry
  split
  · refine dropsOn_makeEntry ?_
    exact dropsOn_counters h (by rw [Block.onPages_port])
  · exact h

theorem dropsOn_raise (h : dropsOn s b) {k : CauseKind} {n : Nat} : dropsOn s (raise k n b) := by
  unfold raise raiseWith
  split
  · exact dropsOn_count h
  · split
    · exact dropsOn_makeEntry h
    · unfold joinRetry
      split
      · exact dropsOn_count h
      · split
        · exact h
        · exact dropsOn_counters (dropsOn_count h) (offer_counters _ _)

theorem dropsOn_offerClear (h : dropsOn s b) {i : Nat} {e : PageEntry} : dropsOn s (offerClear i e b) := by
  unfold offerClear
  dsimp only
  split
  · exact dropsOn_enterRetry (dropsOn_counters (dropsOn_queuePage (f := clearFrame e.cause e.generation) h)
      (by simp [removedEvent, setPage, setMemory]))
  · exact dropsOn_counters (dropsOn_queuePage (f := clearFrame e.cause e.generation) h) (by simp [setPage])

theorem dropsOn_resolve (h : dropsOn s b) {c : Cause} : dropsOn s (resolve c b) := by
  unfold resolve
  split
  · split
    · exact dropsOn_offerClear h
    · exact h
  · exact h

end

/-! ## Acts of the Coordinator -/

/-- What an act of the Coordinator leaves of line, port and plan: events and PAGE frames join their tails, the SHIFT queue
and the plan but for the courses stand. -/
structure CourseWork (b b' : Block) : Prop extends EventsGrow b b' where
  frames : b.line.pageQueue <+: b'.line.pageQueue
  shifts : b'.line.shiftQueue = b.line.shiftQueue
  drops : dropsOn b b'
  plan : { b'.plan with courses := [] } = { b.plan with courses := [] }
  held : b'.held = b.held
  frame : changesOnly [.plan, .line, .pages, .pager, .port] b b'

theorem CourseWork.refl (b : Block) : CourseWork b b :=
  ⟨.refl b, List.prefix_refl _, rfl, dropsOn_refl b, rfl, rfl, changesOnly_refl _ b⟩

theorem CourseWork.trans {b c d : Block} (h : CourseWork b c) (g : CourseWork c d) : CourseWork b d :=
  ⟨h.toEventsGrow.trans g.toEventsGrow, h.frames.trans g.frames, g.shifts.trans h.shifts, dropsOn_trans h.drops g.drops,
    g.plan.trans h.plan, g.held.trans h.held, changesOnly_trans h.frame g.frame⟩

theorem CourseWork.tasks {b b' : Block} (h : CourseWork b b') : b'.plan.tasks = b.plan.tasks := by
  have htasks := congrArg Plan.tasks h.plan
  exact htasks

theorem CourseWork.profiles {b b' : Block} (h : CourseWork b b') : b'.plan.profiles = b.plan.profiles := by
  have hprofiles := congrArg Plan.profiles h.plan
  exact hprofiles

theorem CourseWork.coordinator {b b' : Block} (h : CourseWork b b') : b'.coord = b.coord := h.frame .coord (by decide)

theorem setCourse_work (i : Nat) (x : Option Course) (b : Block) : CourseWork b (setCourse i x b) :=
  ⟨.of_port rfl rfl, List.prefix_refl _, rfl, dropsOn_refl b, rfl, rfl, by simp [changesOnly_iff]⟩

theorem mapCourses_work (f : Course → Course) (b : Block) : CourseWork b (mapCourses f b) :=
  ⟨.of_port rfl rfl, List.prefix_refl _, rfl, dropsOn_refl b, rfl, rfl, by simp [changesOnly_iff]⟩

theorem offer_work (e : EventBody) (b : Block) : CourseWork b (offer e b) :=
  ⟨offer_grows e b, by simp, by simp, dropsOn_counters (dropsOn_refl b) (by simp), by simp, by simp,
    by simp [changesOnly_iff]⟩

theorem raise_work (k : CauseKind) (n : Nat) (b : Block) : CourseWork b (raise k n b) :=
  have h : Notices b (raise k n b) := (Notices.refl b).raise
  ⟨h.toEventsGrow, h.frames, by rw [h.line_eq], dropsOn_raise (dropsOn_refl b), by simp, by simp,
    by simp [changesOnly_iff]⟩

theorem resolved_work (k : CauseKind) (n : Nat) (b : Block) : CourseWork b (resolved k n b) :=
  have h : Notices b (resolved k n b) := (Notices.refl b).resolved
  ⟨h.toEventsGrow, h.frames, by rw [h.line_eq], dropsOn_resolve (dropsOn_refl b), by simp, by simp,
    by simp [changesOnly_iff]⟩

theorem markCourse_work (b : Block) : CourseWork b (markCourse b) := by
  have hline : (markCourse b).line.pageQueue = b.line.pageQueue ∧
      (markCourse b).line.shiftQueue = b.line.shiftQueue := by
    unfold markCourse
    split <;> exact ⟨rfl, rfl⟩
  exact ⟨.of_port (by simp) (by simp), by rw [hline.1], hline.2, dropsOn_counters (dropsOn_refl b) (by simp), by simp,
    by simp, by simp [changesOnly_iff]⟩

/-! ## What a course keeps while its state is derived (R120, R128, R129) -/

/-- A course without what the Coordinator derives of it: state, late due with its second, all-ready. -/
def Course.posted (c : Course) : Course := { c with state := .empty, lateDue := false, lateSince := 0, allReady := false }

/-- A Coordinator's act that derives of the courses alone. -/
structure Derives (b b' : Block) : Prop extends CourseWork b b' where
  courses : ∀ i, (courseAt i b').map Course.posted = (courseAt i b).map Course.posted

theorem Derives.refl (b : Block) : Derives b b := ⟨.refl b, fun _ => rfl⟩

theorem Derives.trans {b c d : Block} (h : Derives b c) (g : Derives c d) : Derives b d :=
  ⟨h.toCourseWork.trans g.toCourseWork, fun i => (g.courses i).trans (h.courses i)⟩

theorem Derives.foldl {α : Type} {f : Block → α → Block} (h : ∀ b x, Derives b (f b x)) (xs : List α) (b : Block) :
    Derives b (xs.foldl f b) := by
  induction xs generalizing b with
  | nil => exact .refl b
  | cons x rest ih => exact (h b x).trans (ih _)

theorem derives_of_plan {b b' : Block} (h : CourseWork b b') (hp : b'.plan = b.plan) : Derives b b' :=
  ⟨h, fun i => by rw [courseAt_of_plan hp]⟩

theorem raise_derives (k : CauseKind) (n : Nat) (b : Block) : Derives b (raise k n b) :=
  derives_of_plan (raise_work k n b) (by simp)

theorem resolved_derives (k : CauseKind) (n : Nat) (b : Block) : Derives b (resolved k n b) :=
  derives_of_plan (resolved_work k n b) (by simp)

theorem offer_derives (e : EventBody) (b : Block) : Derives b (offer e b) := derives_of_plan (offer_work e b) (by simp)

theorem markCourse_derives (b : Block) : Derives b (markCourse b) := derives_of_plan (markCourse_work b) (by simp)

theorem setCourse_derives {i : Nat} {c c' : Course} {b : Block} (h : courseAt i b = some c)
    (hc : c'.posted = c.posted) : Derives b (setCourse i (some c') b) := by
  refine ⟨setCourse_work i _ b, fun j => ?_⟩
  by_cases hj : i = j
  · subst hj
    rw [courseAt_setCourse_self h, h, Option.map_some, Option.map_some, hc]
  · rw [courseAt_setCourse_ne hj]

theorem storeCourseState_derives (i : Nat) (new : CourseState) (b : Block) : Derives b (storeCourseState i new b) := by
  unfold storeCourseState
  split
  · rename_i c hc
    split
    · exact .refl b
    · dsimp only
      have hstored : Derives b
          (offer (.courseState c.tag c.state new c.version) (setCourse i (some { c with state := new }) b)) :=
        .trans (setCourse_derives hc (by rfl)) (offer_derives _ _)
      split
      · exact hstored.trans (resolved_derives _ _ _)
      · exact hstored
  · exact .refl b

theorem storeLateDue_derives (i : Nat) (due : Bool) (b : Block) : Derives b (storeLateDue i due b) := by
  unfold storeLateDue
  split
  · rename_i c hc
    split
    · refine .trans ?_ (raise_derives _ _ _)
      exact setCourse_derives hc rfl
    · exact setCourse_derives hc rfl
  · exact .refl b

theorem deriveCourse_derives (i : Nat) (b : Block) : Derives b (deriveCourse i b) := by
  unfold deriveCourse
  split
  · exact (storeCourseState_derives i _ b).trans (storeLateDue_derives i _ _)
  · exact .refl b

theorem evalReady_derives (i : Nat) (b : Block) : Derives b (evalReady i b) := by
  unfold evalReady
  split
  · rename_i c hc
    dsimp only
    split
    · refine .trans ?_ (raise_derives _ _ _)
      exact setCourse_derives hc rfl
    · exact setCourse_derives hc rfl
  · exact .refl b

theorem evalAllReady_derives (b : Block) : Derives b (evalAllReady b) := .foldl (fun b i => evalReady_derives i b) _ b

theorem courseChange_derives (i : Nat) (b : Block) : Derives b (courseChange i b) :=
  ((deriveCourse_derives i b).trans (evalReady_derives i _)).trans (markCourse_derives _)

/-- A course read after its state was derived. -/
theorem Derives.read {b b' : Block} {i : Nat} {c : Course} (h : Derives b b') (hc : courseAt i b = some c) :
    ∃ c', courseAt i b' = some c' ∧ c'.posted = c.posted := by
  have hposted := h.courses i
  rw [hc, Option.map_some] at hposted
  exact Option.map_eq_some_iff.1 hposted

end Sys2Proof.Machine
end

section
/-! PROOFS. SHIFT COURSE (R56, R64, R126). -/

namespace Sys2Proof.Machine

/-! ## The SHIFT queue (R56) -/

theorem replaceShift_eq {x : ShiftEntry} {xs : List ShiftEntry} (h : (xs.any fun y => decide (y.tag = x.tag)) = true) :
    replaceShift x xs = xs.takeWhile (fun y => decide (y.tag ≠ x.tag)) ++
      x :: (xs.dropWhile fun y => decide (y.tag ≠ x.tag)).drop 1 := by
  induction xs with
  | nil => cases h
  | cons y rest ih =>
    by_cases hy : y.tag = x.tag
    · simp [replaceShift, hy]
    · have hrest : (rest.any fun y => decide (y.tag = x.tag)) = true := by simpa [hy] using h
      simp [replaceShift, hy, ih hrest]

theorem placeShift_queue (l : Line) (x : ShiftEntry) : (placeShift l x).1 = shiftPlaced l x := by
  unfold placeShift
  extract_lets fixed free
  have hplaced : shiftPlaced l x = if (free.any fun y => decide (y.tag = x.tag)) = true then
      fixed ++ free.takeWhile (fun y => decide (y.tag ≠ x.tag)) ++ x :: (free.dropWhile fun y => decide (y.tag ≠ x.tag)).drop 1
      else if l.shiftQueue.length < 2 then l.shiftQueue ++ [x] else fixed ++ free.drop 1 ++ [x] := rfl
  rw [hplaced]
  by_cases hheld : (free.any fun y => decide (y.tag = x.tag)) = true
  · rw [if_pos hheld, if_pos hheld, replaceShift_eq hheld, List.append_assoc]
  · rw [if_neg hheld, if_neg hheld]
    exact apply_ite Prod.fst _ _ _

/-- A full queue without the tag gives up its oldest entry (R56). -/
theorem placeShift_drops {l : Line} {x : ShiftEntry} (hfull : l.shiftQueue.length = 2)
    (h : ∀ y ∈ l.shiftQueue, y.tag ≠ x.tag) : (placeShift l x).2 = true := by
  have hfree : ¬ ((if l.shiftInFlight then l.shiftQueue.drop 1 else l.shiftQueue).any fun y =>
      decide (y.tag = x.tag)) = true := by
    rw [List.any_eq_true]
    rintro ⟨y, hy, htag⟩
    refine h y ?_ (of_decide_eq_true htag)
    split at hy
    · exact List.mem_of_mem_drop hy
    · exact hy
  unfold placeShift
  dsimp only
  rw [if_neg hfree, if_neg (by rw [hfull]; decide)]

theorem queueShift_taken {x : ShiftEntry} {b : Block} (h : b.lineTakes = true) :
    (queueShift x b).line.shiftQueue = shiftPlaced b.line x := by
  rw [← placeShift_queue]
  unfold queueShift
  rw [if_pos h]
  dsimp only
  split <;> rfl

theorem queueShift_drops {x : ShiftEntry} {b : Block} (h : b.lineTakes = true) (hd : (placeShift b.line x).2 = true) :
    (queueShift x b).port.counters.framesDropped = min 65535 (b.port.counters.framesDropped + 1) := by
  simp only [queueShift, if_pos h, if_pos hd]
  rfl

theorem queueShift_silent {x : ShiftEntry} {b : Block} (h : b.lineTakes = false) : queueShift x b = b := by
  simp [queueShift, h]

/-! ## The command (R126) -/

/-- A command that passes the gates and that its owner accepts leaves the owner's part with the answer in the slot. -/
theorem completes_accepted {c : Instr} {s : State} {code : Nat} {gate : StateGate} {own : Block → Answer} {after : Block}
    {data : List Byte} {P : Block → Prop} (hc : exec c s = onBlock (transfer code false gate false own) s)
    (hp : s.block.portAnswers = true) (hg : gate.passes s.block.station.state = true)
    (ho : own (deliver s.block) = .ok (after, data))
    (h : P (answer { code := code, number := s.block.port.commandNumber, refused := none, data := data } (numbered8 after))) :
    completes c s P := by
  refine completes_of _ hc ?_
  rw [transfer_accepted hp hg (by simp) ho]
  exact h

theorem answered_frame {ps : List Part} {s after : Block} (hport : .port ∈ ps) (h : changesOnly ps (deliver s) after)
    (r : Response) : changesOnly ps s (answer r (numbered8 after)) := by
  have hdeliver : changesOnly [.port] s (deliver s) := by simp [changesOnly_iff]
  have hanswer : changesOnly [.port] after (answer r (numbered8 after)) := by simp [changesOnly_iff, answer, numbered8]
  have hsub : [Part.port] ⊆ ps := by simpa using hport
  exact changesOnly_trans (changesOnly_trans (changesOnly_mono hdeliver hsub) h) (changesOnly_mono hanswer hsub)

/-- The course that SHIFT COURSE writes (R126). -/
def Course.shifted (c : Course) (pass : Nat) (hold : Bool) : Course :=
  { c with version := next8 c.version, passTime := pass, hold := hold, adopted := false }

/-- The SHIFT that SHIFT COURSE queues (R126). -/
def Course.shiftEntry (c : Course) (pass : Nat) (hold : Bool) : ShiftEntry :=
  { tag := c.tag, version := next8 c.version, passTime := pass, hold, attempts := 0 }

/-- The part with the course written and the SHIFT queued, before the course change (R126). -/
def shiftQueued (i : Nat) (c : Course) (offset : Nat) (hold : Bool) (b : Block) : Block :=
  queueShift (c.shiftEntry (b.now + offset) hold) (setCourse i (some (c.shifted (b.now + offset) hold)) b)

theorem takes_of_local {b : Block} (hs : b.station.state = .localOnly) : b.lineTakes = false := by
  simp [Block.lineTakes, hs]

theorem flagOfByte_flagByte (x : Bool) : flagOfByte (flagByte x) = some x := by cases x <;> rfl

theorem flagOfByte_eq_none {x : Byte} : flagOfByte x = none ↔ 1 < x.toNat := by
  unfold flagOfByte
  split_ifs with h0 h1
  · simp [h0]
  · simp [h1]
  · simp only [true_iff]
    bv_omega

/-- Settles O40: the course is written, the SHIFT queued, and the course change that follows leaves both. -/
theorem shiftCourseAdvancesVersion : Obligations.ShiftCourseAdvancesVersion := by
  refine ⟨fun s tag offset hold i c hp hw hfound => ?_, fun s tag offset hold why hp hw hwhy => ?_⟩
  · have hat := (locateCourse_eq_some.1 hfound).1
    have hlocated : locateCourse tag.toNat (deliver s.block) = some (i, c) := hfound
    have hchange := courseChange_derives i (shiftQueued i c offset.toNat hold (deliver s.block))
    refine completes_accepted rfl hp hw (after := courseChange i (shiftQueued i c offset.toNat hold (deliver s.block)))
      (data := byteOf (next8 c.version) :: bytes4 (s.block.station.clock + offset.toNat)) ?_ ?_
    · simp only [ownShiftCourse, flagOfByte_flagByte, hlocated]
      rfl
    · intro x
      have hheld : (courseChange i (shiftQueued i c offset.toNat hold (deliver s.block))).held = (deliver s.block).held := by
        simp [shiftQueued]
      obtain ⟨_, hdelivered, hnumber⟩ : _ ∧ _ ∧ _ := by simpa only [Block.held, Prod.mk.injEq] using hheld
      have hwritten : courseAt i (shiftQueued i c offset.toNat hold (deliver s.block)) = some
          (c.shifted (s.block.station.clock + offset.toNat) hold) := by
        rw [shiftQueued, courseAt_of_plan (queueShift_plan _ _)]
        exact courseAt_setCourse_self hat
      refine ⟨answeredWith_of hdelivered hnumber, ?_, fun hs => ?_, fun hs => ?_, fun hs hfull hno hlt => ?_, ?_, ?_⟩
      · obtain ⟨c', hc', hposted⟩ := hchange.read hwritten
        have hfield {α : Type} (f : Course → α) := congrArg f hposted
        exact ⟨c', hc', hfield Course.tag, hfield Course.version, hfield Course.passTime, hfield Course.hold,
          hfield Course.lock, hfield Course.participants⟩
      · exact hchange.shifts.trans (queueShift_taken (takes_of_works hw hs))
      · have hsilent : shiftQueued i c offset.toNat hold (deliver s.block) = setCourse i _ (deliver s.block) :=
          queueShift_silent (takes_of_local hs)
        exact hchange.shifts.trans (congrArg (fun b => b.line.shiftQueue) hsilent)
      · have hdropped : (shiftQueued i c offset.toNat hold (deliver s.block)).port.counters.framesDropped =
            min 65535 (s.block.port.counters.framesDropped + 1) :=
          queueShift_drops (takes_of_works hw hs) (placeShift_drops hfull hno)
        have hgrown := hchange.drops
        rw [dropsOn, hdropped] at hgrown
        exact lt_of_lt_of_le (by omega) hgrown
      · exact hchange.tasks.trans (by simp [shiftQueued, setCourse])
      · refine answered_frame (by decide) (changesOnly_trans ?_ hchange.frame) _
        simp [changesOnly_iff, shiftQueued]
  · have hgate : gates false .working false (ownShiftCourse tag offset hold) (deliver s.block) = .error why := by
      have hpass : (gates false .working false (ownShiftCourse tag offset hold) (deliver s.block)) =
          ownShiftCourse tag offset hold (deliver s.block) := by simp [gates, StateGate.passes, hw]
      rw [hpass, ownShiftCourse]
      obtain ⟨hbad, ⟨⟩⟩ | ⟨hgood, ⟨hnone, ⟨⟩⟩ | ⟨_, hno⟩⟩ := hwhy
      · rw [flagOfByte_eq_none.2 hbad]
      · have hlost : locateCourse tag.toNat (deliver s.block) = none := hnone
        rw [hlost]
        cases hflag : flagOfByte hold with
        | none => exact absurd (flagOfByte_eq_none.1 hflag) hgood
        | some x => rfl
      · cases hno
    exact completes_refused rfl hp hgate

end Sys2Proof.Machine
end

section
/-! PROOFS. SHIFT and COURSE frames (R59, R123, R124, R127). -/

namespace Sys2Proof.Machine

/-! ## A version adopted (R124) -/

/-- A course after R124's comparison with a frame's version, received at `now`. -/
def Course.versioned (now version offset : Nat) (hold : Bool) (c : Course) : Course :=
  if newer version c.version then
    { c with version := version, passTime := now + offset, hold := hold, adopted := true }
  else c

/-- What an act leaves of every course but one, whose posted part it sets. -/
structure Rewrites (i : Nat) (c : Course) (b b' : Block) : Prop extends CourseWork b b' where
  self : (courseAt i b').map Course.posted = some c.posted
  others : ∀ j, i ≠ j → (courseAt j b').map Course.posted = (courseAt j b).map Course.posted

theorem setCourse_rewrites {i : Nat} {c x : Course} {b : Block} (h : courseAt i b = some c) :
    Rewrites i x b (setCourse i (some x) b) :=
  ⟨setCourse_work i _ b, by rw [courseAt_setCourse_self h, Option.map_some],
    fun j hj => by rw [courseAt_setCourse_ne hj]⟩

theorem Rewrites.derives {i : Nat} {c : Course} {b d d' : Block} (h : Rewrites i c b d) (g : Derives d d') :
    Rewrites i c b d' :=
  ⟨h.toCourseWork.trans g.toCourseWork, (g.courses i).trans h.self, fun j hj => (g.courses j).trans (h.others j hj)⟩

theorem Rewrites.trans {i : Nat} {c c' : Course} {b d d' : Block} (h : Rewrites i c b d) (g : Rewrites i c' d d') :
    Rewrites i c' b d' :=
  ⟨h.toCourseWork.trans g.toCourseWork, g.self, fun j hj => (g.others j hj).trans (h.others j hj)⟩

theorem Rewrites.read {i : Nat} {c : Course} {b b' : Block} (h : Rewrites i c b b') :
    ∃ c', courseAt i b' = some c' ∧ c'.posted = c.posted := Option.map_eq_some_iff.1 h.self

theorem versioned_newer {now version offset : Nat} {hold : Bool} {c : Course} (h : newer version c.version = true) :
    c.versioned now version offset hold =
      { c with version := version, passTime := now + offset, hold := hold, adopted := true } := by
  rw [Course.versioned, if_pos h]

theorem versioned_older {now version offset : Nat} {hold : Bool} {c : Course} (h : newer version c.version = false) :
    c.versioned now version offset hold = c := by
  rw [Course.versioned, if_neg (by simp [h])]

/-- R124's comparison and its event. -/
theorem adoptVersion_rewrites {i version offset : Nat} {hold : Bool} {c : Course} {b : Block} (h : courseAt i b = some c) :
    Rewrites i (c.versioned b.station.clock version offset hold) b (adoptVersion i version offset hold b) ∧
      (newer version c.version = true → offered (.courseShift c.tag c.version version (b.station.clock + offset) hold) b
        (adoptVersion i version offset hold b)) := by
  have hadopt : adoptVersion i version offset hold b = if newer version c.version then
      offer (.courseShift c.tag c.version version (b.now + offset) hold) (markCourse (deriveCourse i (setCourse i (some
        { c with version := version, passTime := b.now + offset, hold := hold, adopted := true }) b))) else b := by
    simp only [adoptVersion, h]
  rw [hadopt, Course.versioned]
  by_cases hnewer : newer version c.version = true
  · rw [if_pos hnewer, if_pos hnewer]
    have hwritten : Rewrites i
        { c with version := version, passTime := b.station.clock + offset, hold := hold, adopted := true } b
        (markCourse (deriveCourse i (setCourse i (some
          { c with version := version, passTime := b.now + offset, hold := hold, adopted := true }) b))) :=
      ((setCourse_rewrites h).derives (deriveCourse_derives i _)).derives (markCourse_derives _)
    exact ⟨hwritten.derives (offer_derives _ _),
      fun _ => offered_of_grows hwritten.toEventsGrow (offered_offer _ _)⟩
  · rw [if_neg hnewer, if_neg hnewer]
    exact ⟨⟨.refl b, by rw [h, Option.map_some], fun _ _ => rfl⟩, fun hyes => absurd hyes hnewer⟩

/-! ## SHIFT frames (R127) -/

theorem heardShift_none {x : ShiftBody} {b : Block} (h : locateCourse x.tag b = none) : heardShift x b = b := by
  rw [heardShift, courseIndex_of_none h]

theorem heardShift_some {x : ShiftBody} {i : Nat} {c : Course} {b : Block} (h : locateCourse x.tag b = some (i, c)) :
    Rewrites i (c.versioned b.station.clock x.version x.offset x.hold) b (heardShift x b) ∧
      (newer x.version c.version = true →
        offered (.courseShift c.tag c.version x.version (b.station.clock + x.offset) x.hold) b (heardShift x b)) := by
  obtain ⟨hadopts, hevent⟩ := adoptVersion_rewrites (version := x.version) (offset := x.offset) (hold := x.hold)
    (locateCourse_eq_some.1 h).1
  simp only [heardShift, courseIndex_of_locate h]
  have hready := evalReady_derives i (adoptVersion i x.version x.offset x.hold b)
  exact ⟨hadopts.derives hready, fun hnewer => offered_mono (hevent hnewer) hready.toEventsGrow⟩

theorem heardShift_work (x : ShiftBody) (b : Block) : CourseWork b (heardShift x b) := by
  cases h : locateCourse x.tag b with
  | none =>
    rw [heardShift_none h]
    exact .refl b
  | some y => exact (heardShift_some h).1.toCourseWork

/-! ## A COURSE frame's entries (R123) -/

/-- The sets of a course after an entry of station `s` that names it (R123). -/
def Course.joined (s : Nat) (x : CourseItem) (c : Course) : Course :=
  match x.state with
  | .empty => { c with participants := dropId s c.participants, readySet := dropId s c.readySet }
  | .ready | .passed => { c with participants := addId s c.participants, readySet := addId s c.readySet }
  | .pending | .late | .fault => { c with participants := addId s c.participants, readySet := dropId s c.readySet }

/-- A course after one entry of the COURSE frame of station `s` that names it, received at `now` (R123, R124). -/
def Course.took (now s : Nat) (c : Course) (x : CourseItem) : Course :=
  (c.joined s x).versioned now x.version x.offset x.hold

theorem joined_rest (s : Nat) (x : CourseItem) (c : Course) :
    (c.joined s x).tag = c.tag ∧ (c.joined s x).version = c.version ∧ (c.joined s x).passTime = c.passTime ∧
      (c.joined s x).hold = c.hold := by
  unfold Course.joined
  split <;> exact ⟨rfl, rfl, rfl, rfl⟩

theorem takeCourseItem_none {s : Nat} {x : CourseItem} {b : Block} (h : locateCourse x.tag b = none) :
    takeCourseItem s b x = b := by
  rw [takeCourseItem, h]

theorem takeCourseItem_some {s : Nat} {x : CourseItem} {i : Nat} {c : Course} {b : Block}
    (h : locateCourse x.tag b = some (i, c)) :
    Rewrites i (c.took b.station.clock s x) b (takeCourseItem s b x) ∧
      (newer x.version c.version = true →
        offered (.courseShift c.tag c.version x.version (b.station.clock + x.offset) x.hold) b (takeCourseItem s b x)) := by
  have hat := (locateCourse_eq_some.1 h).1
  obtain ⟨htag, hversion, _⟩ := joined_rest s x c
  have htake : takeCourseItem s b x =
      adoptVersion i x.version x.offset x.hold (setCourse i (some (c.joined s x)) b) := by
    rw [takeCourseItem, h]
    rfl
  have hset : Rewrites i (c.joined s x) b (setCourse i (some (c.joined s x)) b) := setCourse_rewrites hat
  obtain ⟨hadopts, hevent⟩ := adoptVersion_rewrites (version := x.version) (offset := x.offset) (hold := x.hold)
    (courseAt_setCourse_self (x := some (c.joined s x)) hat)
  rw [htake]
  refine ⟨hset.trans hadopts, fun hnewer => ?_⟩
  rw [hversion, htag] at hevent
  exact offered_of_grows hset.toEventsGrow (hevent hnewer)

theorem takeCourseItem_work (s : Nat) (b : Block) (x : CourseItem) : CourseWork b (takeCourseItem s b x) := by
  cases h : locateCourse x.tag b with
  | none =>
    rw [takeCourseItem_none h]
    exact .refl b
  | some y => exact (takeCourseItem_some h).1.toCourseWork

theorem takeItems_work (s : Nat) (xs : List CourseItem) (b : Block) : CourseWork b (xs.foldl (takeCourseItem s) b) := by
  induction xs generalizing b with
  | nil => exact .refl b
  | cons x rest ih => exact (takeCourseItem_work s b x).trans (ih _)

/-! ### A course through the entries of a frame -/

theorem posted_fields {c d : Course} (h : c.posted = d.posted) :
    c.tag = d.tag ∧ (c.version, c.passTime, c.hold) = (d.version, d.passTime, d.hold) ∧
      c.participants = d.participants ∧ c.readySet = d.readySet := by
  have hfield {α : Type} (f : Course → α) := congrArg f h
  exact ⟨hfield Course.tag, hfield fun c => (c.version, c.passTime, c.hold), hfield Course.participants,
    hfield Course.readySet⟩

/-- An entry's effect on what is posted of a course does not turn on what is derived of it. -/
theorem took_posted (now s : Nat) (c : Course) (x : CourseItem) :
    (c.took now s x).posted = (c.posted.took now s x).posted := by
  have hjoined : (c.joined s x).posted = (c.posted.joined s x).posted := by
    unfold Course.joined
    split <;> rfl
  obtain ⟨_, hversion, _⟩ := joined_rest s x c
  obtain ⟨_, hversion', _⟩ := joined_rest s x c.posted
  have hsame : (c.posted.joined s x).version = (c.joined s x).version := hversion'.trans hversion.symm
  unfold Course.took Course.versioned
  rw [hsame]
  split
  · exact congrArg (fun d : Course => { d with
      version := x.version, passTime := now + x.offset, hold := x.hold, adopted := true }) hjoined
  · exact hjoined

theorem tookAll_posted {now s : Nat} {c d : Course} (h : c.posted = d.posted) (xs : List CourseItem) :
    (xs.foldl (Course.took now s) c).posted = (xs.foldl (Course.took now s) d).posted := by
  induction xs generalizing c d with
  | nil => exact h
  | cons x rest ih => exact ih (by rw [took_posted, h, ← took_posted])

/-- A course whose tag and place stand is found again. -/
theorem locateCourse_of_tags {tag i : Nat} {c c' : Course} {b b' : Block} (h : locateCourse tag b = some (i, c))
    (hat : courseAt i b' = some c') (ht : ∀ j, (courseAt j b').map Course.tag = (courseAt j b).map Course.tag) :
    locateCourse tag b' = some (i, c') := by
  obtain ⟨hc, htag, hlow⟩ := locateCourse_eq_some.1 h
  have hsame := ht i
  rw [hat, hc, Option.map_some, Option.map_some] at hsame
  refine locateCourse_eq_some.2 ⟨hat, (Option.some.inj hsame).trans htag, fun j hj d hd => ?_⟩
  have hother := ht j
  rw [hd, Option.map_some] at hother
  obtain ⟨e, he, hetag⟩ := Option.map_eq_some_iff.1 hother.symm
  rw [← hetag]
  exact hlow j hj e he

theorem tag_of_posted {x y : Option Course} (h : x.map Course.posted = y.map Course.posted) :
    x.map Course.tag = y.map Course.tag := by
  have htags := congrArg (Option.map Course.tag) h
  rw [Option.map_map, Option.map_map] at htags
  exact htags

/-- An act that rewrites one course and leaves its tag leaves every tag. -/
theorem Rewrites.tags {i : Nat} {c d : Course} {b b' : Block} (h : Rewrites i c b b') (hd : courseAt i b = some d)
    (htag : c.tag = d.tag) (j : Nat) : (courseAt j b').map Course.tag = (courseAt j b).map Course.tag := by
  by_cases hj : i = j
  · subst hj
    obtain ⟨c', hc', hposted⟩ := h.read
    rw [hc', hd, Option.map_some, Option.map_some, ← htag, (posted_fields hposted).1]
  · exact tag_of_posted (h.others j hj)

theorem took_tag (now s : Nat) (c : Course) (x : CourseItem) : (c.took now s x).tag = c.tag := by
  have htag := (joined_rest s x c).1
  unfold Course.took Course.versioned
  split <;> exact htag

/-- A held course after the entries of a frame: the entries of its tag have told on it, in their order. -/
theorem takeItems_locate {s tag i : Nat} (xs : List CourseItem) {c : Course} {b : Block}
    (h : locateCourse tag b = some (i, c)) :
    ∃ c', locateCourse tag (xs.foldl (takeCourseItem s) b) = some (i, c') ∧
      c'.posted = ((xs.filter fun x => decide (x.tag = tag)).foldl (Course.took b.station.clock s) c).posted := by
  induction xs generalizing b c with
  | nil => exact ⟨c, h, rfl⟩
  | cons x rest ih =>
    have hclock : (takeCourseItem s b x).station.clock = b.station.clock := (takeCourseItem_work s b x).clock
    obtain ⟨hat, htag, _⟩ := locateCourse_eq_some.1 h
    cases hx : locateCourse x.tag b with
    | none =>
      have hne : x.tag ≠ tag := fun heq => by simp [heq, h] at hx
      rw [List.foldl_cons, takeCourseItem_none hx, List.filter_cons_of_neg (by simpa using hne)]
      exact ih h
    | some y =>
      obtain ⟨j, d⟩ := y
      have hrewrites := (takeCourseItem_some (s := s) hx).1
      obtain ⟨hd, hdtag, _⟩ := locateCourse_eq_some.1 hx
      have htags := hrewrites.tags hd (took_tag _ _ _ _)
      by_cases heq : x.tag = tag
      · obtain ⟨rfl, rfl⟩ : i = j ∧ c = d := by
          rw [heq, h] at hx
          simpa using hx
        obtain ⟨c', hc', hposted⟩ := hrewrites.read
        obtain ⟨c'', hc'', hrest⟩ := ih (locateCourse_of_tags h hc' htags)
        rw [List.foldl_cons, List.filter_cons_of_pos (by simpa using heq), List.foldl_cons]
        exact ⟨c'', hc'', hrest.trans (by rw [hclock]; exact tookAll_posted hposted _)⟩
      · have hij : j ≠ i := by
          rintro rfl
          rw [hat] at hd
          obtain rfl := Option.some.inj hd
          exact heq (hdtag.symm.trans htag)
        have hother := hrewrites.others i hij
        rw [hat, Option.map_some] at hother
        obtain ⟨c', hc', hposted⟩ := Option.map_eq_some_iff.1 hother
        obtain ⟨c'', hc'', hrest⟩ := ih (locateCourse_of_tags h hc' htags)
        rw [List.foldl_cons, List.filter_cons_of_neg (by simpa using heq)]
        exact ⟨c'', hc'', hrest.trans (by rw [hclock]; exact tookAll_posted hposted _)⟩

/-- R124's comparison for one entry. -/
theorem took_versions (now s : Nat) (c : Course) (x : CourseItem) :
    ((c.took now s x).version, (c.took now s x).passTime, (c.took now s x).hold) =
      versionAfter now (c.version, c.passTime, c.hold) x := by
  obtain ⟨_, hversion, hpass, hhold⟩ := joined_rest s x c
  unfold Course.took Course.versioned versionAfter
  rw [hversion]
  split
  · rfl
  · rw [hversion, hpass, hhold]

theorem tookAll_versions (now s : Nat) (xs : List CourseItem) (c : Course) :
    ((xs.foldl (Course.took now s) c).version, (xs.foldl (Course.took now s) c).passTime,
        (xs.foldl (Course.took now s) c).hold) = xs.foldl (versionAfter now) (c.version, c.passTime, c.hold) := by
  induction xs generalizing c with
  | nil => rfl
  | cons x rest ih => rw [List.foldl_cons, List.foldl_cons, ih, took_versions]

theorem idBit_getLsbD {s : Nat} (hs : s ≤ 31) (id : Nat) : (idBit s).getLsbD id = decide (id = s) := by
  simp only [idBit, BitVec.getLsbD_shiftLeft, BitVec.getLsbD_one]
  grind

theorem hasId_addId {s id : Nat} (hs : s ≤ 31) (x : IdSet) : hasId (addId s x) id = (decide (id = s) || hasId x id) := by
  rw [hasId, addId, BitVec.getLsbD_or, idBit_getLsbD hs, Bool.or_comm, hasId]

theorem hasId_dropId {s id : Nat} (hs : s ≤ 31) (x : IdSet) : hasId (dropId s x) id = (!decide (id = s) && hasId x id) := by
  rw [hasId, dropId, BitVec.getLsbD_and, BitVec.getLsbD_not, idBit_getLsbD hs, hasId]
  by_cases h : id < 32
  · rw [decide_eq_true h, Bool.true_and, Bool.and_comm]
  · rw [BitVec.getLsbD_of_ge x id (by omega)]
    simp

/-- The sets after one entry (R123). -/
theorem took_sets {now s : Nat} (hs : s ≤ 31) (c : Course) (x : CourseItem) (id : Nat) :
    hasId (c.took now s x).participants id = (if id = s then decide (x.state ≠ .empty) else hasId c.participants id) ∧
      hasId (c.took now s x).readySet id =
        if id = s then decide (x.state = .ready) || decide (x.state = .passed) else hasId c.readySet id := by
  have hsame : (c.took now s x).participants = (c.joined s x).participants ∧
      (c.took now s x).readySet = (c.joined s x).readySet := by
    unfold Course.took Course.versioned
    split <;> exact ⟨rfl, rfl⟩
  rw [hsame.1, hsame.2, Course.joined]
  cases x.state <;> by_cases hid : id = s <;> simp [hasId_addId hs, hasId_dropId hs, hid]

/-- The last entry of a tag decides its source's places; the other ids keep theirs (R123). -/
theorem tookAll_sets {now s : Nat} (hs : s ≤ 31) {xs : List CourseItem} {x : CourseItem} (h : xs.getLast? = some x)
    (c : Course) (id : Nat) :
    hasId (xs.foldl (Course.took now s) c).participants id =
        (if id = s then decide (x.state ≠ .empty) else hasId c.participants id) ∧
      hasId (xs.foldl (Course.took now s) c).readySet id =
        if id = s then decide (x.state = .ready) || decide (x.state = .passed) else hasId c.readySet id := by
  obtain ⟨init, rfl⟩ := List.getLast?_eq_some_iff.1 h
  rw [List.foldl_append, List.foldl_cons, List.foldl_nil]
  have hothers (hid : ¬ id = s) : hasId (init.foldl (Course.took now s) c).participants id = hasId c.participants id ∧
      hasId (init.foldl (Course.took now s) c).readySet id = hasId c.readySet id := by
    clear h
    induction init generalizing c with
    | nil => exact ⟨rfl, rfl⟩
    | cons y rest ih =>
      obtain ⟨hp, hr⟩ := took_sets (now := now) hs c y id
      rw [if_neg hid] at hp hr
      rw [List.foldl_cons, (ih _).1, (ih _).2, hp, hr]
      exact ⟨rfl, rfl⟩
  obtain ⟨hp, hr⟩ := took_sets (now := now) hs (init.foldl (Course.took now s) c) x id
  by_cases hid : id = s
  · simp only [if_pos hid] at hp hr ⊢
    exact ⟨hp, hr⟩
  · simp only [if_neg hid] at hp hr ⊢
    exact ⟨hp.trans (hothers hid).1, hr.trans (hothers hid).2⟩

/-- Every adoption of a frame's entries is offered (R124). -/
theorem takeItems_offered {s tag i : Nat} {items pre post : List CourseItem} {x : CourseItem} {c : Course} {b : Block}
    (h : locateCourse tag b = some (i, c)) (hsplit : (items.filter fun x => decide (x.tag = tag)) = pre ++ x :: post)
    (hnewer : newer x.version (pre.foldl (versionAfter b.station.clock) (c.version, c.passTime, c.hold)).1 = true) :
    offered (.courseShift tag (pre.foldl (versionAfter b.station.clock) (c.version, c.passTime, c.hold)).1 x.version
      (b.station.clock + x.offset) x.hold) b (items.foldl (takeCourseItem s) b) := by
  obtain ⟨before, rest, rfl, rfl, hrest⟩ := List.filter_eq_append_iff.1 hsplit
  obtain ⟨between, after, rfl, hnone, hx, rfl⟩ := List.filter_eq_cons_iff.1 hrest
  have hxtag : x.tag = tag := of_decide_eq_true hx
  have hpre : ((before ++ between).filter fun x => decide (x.tag = tag)) = before.filter fun x => decide (x.tag = tag) := by
    rw [List.filter_append, List.filter_eq_nil_iff.2 hnone, List.append_nil]
  obtain ⟨c', hfound, hposted⟩ := takeItems_locate (s := s) (before ++ between) h
  have hclock : ((before ++ between).foldl (takeCourseItem s) b).station.clock = b.station.clock :=
    (takeItems_work s (before ++ between) b).clock
  obtain ⟨_, hversions, _⟩ := posted_fields hposted
  rw [hpre, tookAll_versions] at hversions
  have hversion : c'.version = _ := congrArg Prod.fst hversions
  have hevent := (takeCourseItem_some (s := s) (x := x) (hxtag ▸ hfound)).2 (by rw [hversion]; exact hnewer)
  have hctag : c'.tag = tag := (locateCourse_eq_some.1 hfound).2.1
  rw [hversion, hctag, hclock] at hevent
  rw [← List.append_assoc, List.foldl_append, List.foldl_cons]
  exact offered_mono (offered_of_grows (takeItems_work s _ b).toEventsGrow hevent) (takeItems_work s after _).toEventsGrow

/-! ## The COURSE frame whole (R123) -/

/-- The courses once the entries are taken: the source leaves those that it did not name (R123). -/
def coursesTaken (s : Nat) (items : List CourseItem) (b : Block) : Block :=
  mapCourses (fun c => if items.any fun x => x.tag = c.tag then c else c.leave s) (items.foldl (takeCourseItem s) b)

/-- The part as the entries of a COURSE frame find it: the frame taken, its source in the heard set (R123). -/
def courseHeard (s : Nat) (b : Block) : Block := (demandTaken s b).onCoord fun c => { c with heard := addId s c.heard }

theorem heardCourse_eq (s : Nat) (items : List CourseItem) (b : Block) :
    heardCourse s items (demandTaken s b) = evalAllReady (coursesTaken s items (courseHeard s b)) := rfl

theorem coursesTaken_work (s : Nat) (items : List CourseItem) (b : Block) : CourseWork b (coursesTaken s items b) :=
  (takeItems_work s items b).trans (mapCourses_work _ _)

/-- A held course after a COURSE frame. -/
theorem coursesTaken_course {s tag i : Nat} (hs : s ≤ 31) {items : List CourseItem} {c : Course} {b : Block}
    (h : locateCourse tag b = some (i, c)) :
    ∃ c', courseAt i (coursesTaken s items b) = some c' ∧ c'.tag = tag ∧
      (c'.version, c'.passTime, c'.hold) = (items.filter fun x => decide (x.tag = tag)).foldl
        (versionAfter b.station.clock) (c.version, c.passTime, c.hold) ∧
      ((items.filter fun x => decide (x.tag = tag)) = [] → c'.participants = dropId s c.participants ∧
        c'.readySet = dropId s c.readySet) ∧
      ∀ x, (items.filter fun x => decide (x.tag = tag)).getLast? = some x → ∀ id,
        hasId c'.participants id = (if id = s then decide (x.state ≠ .empty) else hasId c.participants id) ∧
        hasId c'.readySet id =
          if id = s then decide (x.state = .ready) || decide (x.state = .passed) else hasId c.readySet id := by
  obtain ⟨d, hfound, hposted⟩ := takeItems_locate (s := s) items h
  obtain ⟨hat, htag, _⟩ := locateCourse_eq_some.1 hfound
  obtain ⟨_, hversions, hparts, hready⟩ := posted_fields hposted
  rw [tookAll_versions] at hversions
  have hmapped := courseAt_mapCourses (fun c => if items.any fun x => x.tag = c.tag then c else c.leave s) i
    (items.foldl (takeCourseItem s) b)
  rw [hat, Option.map_some, htag] at hmapped
  by_cases hnamed : (items.filter fun x => decide (x.tag = tag)) = []
  · have hnone : (items.any fun x => decide (x.tag = tag)) = false := by
      simpa [List.filter_eq_nil_iff, List.any_eq_false] using hnamed
    rw [hnamed] at hversions hparts hready ⊢
    rw [hnone] at hmapped
    refine ⟨_, hmapped, htag, hversions, fun _ => ?_, by simp⟩
    exact ⟨congrArg (dropId s) hparts, congrArg (dropId s) hready⟩
  · have hsome : (items.any fun x => decide (x.tag = tag)) = true := by
      simpa [List.filter_eq_nil_iff, List.any_eq_true] using hnamed
    rw [hsome] at hmapped
    refine ⟨_, hmapped, htag, hversions, fun hnil => absurd hnil hnamed, fun x hx id => ?_⟩
    obtain ⟨hp, hr⟩ := tookAll_sets (now := b.station.clock) hs hx c id
    exact ⟨(congrArg (hasId · id) hparts).trans hp, (congrArg (hasId · id) hready).trans hr⟩

/-- A held course once a COURSE frame is done, with the adoptions offered on the way. -/
theorem courseDone_course {s tag i : Nat} (hs : s ≤ 31) {items : List CourseItem} {c : Course} {b : Block}
    (h : locateCourse tag b = some (i, c)) :
    let b' := evalAllReady (coursesTaken s items (courseHeard s b))
    let mine := items.filter fun x => decide (x.tag = tag)
    ∃ c', courseAt i b' = some c' ∧ c'.tag = tag ∧
      (c'.version, c'.passTime, c'.hold) = mine.foldl (versionAfter b.station.clock) (c.version, c.passTime, c.hold) ∧
      (∀ pre x post, mine = pre ++ x :: post →
        let held := pre.foldl (versionAfter b.station.clock) (c.version, c.passTime, c.hold)
        newer x.version held.1 = true →
        offered (.courseShift tag held.1 x.version (b.station.clock + x.offset) x.hold) b b') ∧
      (mine = [] → c'.participants = dropId s c.participants ∧ c'.readySet = dropId s c.readySet) ∧
      (∀ x, mine.getLast? = some x →
        (∀ id, id < 32 → hasId c'.participants id =
          if id = s then decide (x.state ≠ .empty) else hasId c.participants id) ∧
        (∀ id, id < 32 → hasId c'.readySet id =
          if id = s then decide (x.state = .ready) || decide (x.state = .passed) else hasId c.readySet id)) := by
  intro b' mine
  have hheard : EventsGrow b (courseHeard s b) := (demandTaken_pageWork s b).1.trans (.of_port rfl rfl)
  have hclock : (courseHeard s b).station.clock = b.station.clock := rfl
  have hlocated : locateCourse tag (courseHeard s b) = some (i, c) := h
  have hready := evalAllReady_derives (coursesTaken s items (courseHeard s b))
  obtain ⟨d, hd, hdtag, hdversions, hdnone, hdlast⟩ := coursesTaken_course hs hlocated (items := items)
  rw [hclock] at hdversions
  obtain ⟨c', hc', hposted⟩ := hready.read hd
  obtain ⟨htag, hversions, hparts, hsets⟩ := posted_fields hposted
  refine ⟨c', hc', htag.trans hdtag, hversions.trans hdversions, fun pre x post hsplit hnewer => ?_, fun hnil => ?_,
    fun x hlast => ⟨fun id _ => ?_, fun id _ => ?_⟩⟩
  · have hevent := takeItems_offered (s := s) hlocated hsplit (by rw [hclock]; exact hnewer)
    rw [hclock] at hevent
    exact offered_mono (offered_mono (offered_of_grows hheard hevent) (mapCourses_work _ _).toEventsGrow)
      hready.toEventsGrow
  · obtain ⟨hp, hr⟩ := hdnone hnil
    exact ⟨hparts.trans hp, hsets.trans hr⟩
  · exact (congrArg (hasId · id) hparts).trans (hdlast x hlast id).1
  · exact (congrArg (hasId · id) hsets).trans (hdlast x hlast id).2

/-! ## The frames received -/

/-- A frame taken, the Coordinator's work and the withdrawal, as the host sees them. -/
theorem coursesHeard {i : Nat} {b b' : Block} (h : CourseWork (demandTaken i b) b') {r : Received} (hr : r.pageWord = none) :
    let d := setPosition .gap (withdraw r b')
    withdrawsOverruled none b d ∧ d.plan.tasks = b.plan.tasks ∧ d.plan.profiles = b.plan.profiles ∧
      changesOnly [.plan, .line, .pages, .pager, .port] b d := by
  refine ⟨hr ▸ withdraw_overrules (s := b) h.frames h.shifts, h.tasks, h.profiles, ?_⟩
  have htaken : changesOnly [.plan, .line, .pages, .pager, .port] b (demandTaken i b) :=
    changesOnly_mono (demandTaken_pageWork i b).2 (by simp)
  exact changesOnly_trans (changesOnly_trans htaken h.frame) (by simp [changesOnly_iff, setPosition, withdraw])

/-- Settles O30: a SHIFT frame is one comparison, a COURSE frame the fold of its entries; all-ready follows and leaves what
they posted. -/
theorem courseFramesReachTheCourses : Obligations.CourseFramesReachTheCourses := by
  refine ⟨fun s source sequence body x hl h31 hid hlen hparse => ?_,
    fun s source sequence body items hl h31 hid hadmits hparse => ?_⟩
  · have hbody : parseBody .shift body = some (.shift x) := by simp [parseBody, hparse]
    have htaken := (demandTaken_pageWork source.toNat s.block).1
    have hwork := heardShift_work x (demandTaken source.toNat s.block)
    refine completes_of _ (exec_frameOf .shift source sequence body s) ?_
    rw [receive_taken hl h31 hid (by simp [FrameForm.admits, hlen]) hbody]
    refine ⟨fun i c hfound => ?_, fun hnone => ?_, coursesHeard hwork rfl⟩
    · obtain ⟨hrewrites, hevent⟩ := heardShift_some (b := demandTaken source.toNat s.block) hfound
      obtain ⟨c', hc', hposted⟩ := hrewrites.read
      obtain hnewer | hnewer := Bool.eq_false_or_eq_true (newer x.version c.version)
      · rw [versioned_newer hnewer] at hposted
        obtain ⟨htag, hversions, hparts, hready⟩ := posted_fields hposted
        obtain ⟨hversion, hpass, hhold⟩ : _ ∧ _ ∧ _ := by simpa only [Prod.mk.injEq] using hversions
        exact ⟨c', hc', htag, hparts, hready,
          fun _ => ⟨hversion, hpass, hhold, offered_of_grows htaken (hevent hnewer)⟩, fun hno => by simp [hnewer] at hno⟩
      · rw [versioned_older hnewer] at hposted
        obtain ⟨htag, hversions, hparts, hready⟩ := posted_fields hposted
        obtain ⟨hversion, hpass, hhold⟩ : _ ∧ _ ∧ _ := by simpa only [Prod.mk.injEq] using hversions
        exact ⟨c', hc', htag, hparts, hready, fun hyes => by simp [hnewer] at hyes, fun _ => ⟨hversion, hpass, hhold⟩⟩
    · rw [handle, heardShift_none (b := demandTaken source.toNat s.block) hnone]
      rfl
  · have hbody : parseBody .course body = some (.course items) := by simp [parseBody, hparse]
    have hwork := (coursesTaken_work source.toNat items (courseHeard source.toNat s.block)).trans
      (evalAllReady_derives _).toCourseWork
    have hcourse {tag i : Nat} {c : Course} (h : locateCourse tag s.block = some (i, c)) :=
      courseDone_course (items := items) h31 h
    have htaken : changesOnly [.plan, .coord, .line, .pages, .pager, .port] s.block (courseHeard source.toNat s.block) := by
      simp [changesOnly_iff, courseHeard, demandTaken]
    refine completes_of _ (exec_frameOf .course source sequence body s) ?_
    rw [receive_taken hl h31 hid hadmits hbody, handle, heardCourse_eq]
    generalize evalAllReady (coursesTaken source.toNat items (courseHeard source.toNat s.block)) = d at hwork hcourse ⊢
    refine ⟨fun tag i c hfound => hcourse hfound, hwork.coordinator,
      withdraw_overrules (r := .course items) (s := s.block) hwork.frames hwork.shifts, hwork.tasks, hwork.profiles, ?_⟩
    exact changesOnly_trans (changesOnly_trans htaken (changesOnly_mono hwork.frame (by simp)))
      (by simp [changesOnly_iff, setPosition, withdraw])

end Sys2Proof.Machine
end

section
/-! PROOFS. PLAN CLEAR (R64, R85, R100, R121, R151, R154). -/

namespace Sys2Proof.Machine

/-! ## One resolution report (R154) -/

theorem resolve_owned {c : Cause} {i : Nat} {e : PageEntry} {b : Block} (h : locatePage c b = some (i, e))
    (ho : e.owner = b.station.strapId) : resolve c b = offerClear i e b := by
  rw [resolve, h]
  exact if_pos ho

/-- A resolution report acts on the entry of its cause that this station owns, or on nothing. -/
theorem resolve_cases (c : Cause) (b : Block) : resolve c b = b ∨
    ∃ i e, locatePage c b = some (i, e) ∧ e.owner = b.station.strapId ∧ resolve c b = offerClear i e b := by
  cases h : locatePage c b with
  | none => exact .inl (by rw [resolve, h])
  | some x =>
    obtain ⟨i, e⟩ := x
    by_cases ho : e.owner = b.station.strapId
    · exact .inr ⟨i, e, rfl, ho, resolve_owned h ho⟩
    · refine .inl ?_
      rw [resolve, h]
      exact if_neg ho

theorem resolve_work (c : Cause) (b : Block) : PageWork b (resolve c b) := (PageWork.refl b).resolve

/-- A free entry takes the retry head; an entry in use stands (R153). -/
theorem enterRetry_stands {j : Nat} {x : PageEntry} {b : Block} (h : pageAt j b = some x) :
    pageAt j (enterRetry b) = some x := by
  unfold enterRetry
  split
  · rename_i w rest i _ hfree
    obtain ⟨_, _, _, htable, _⟩ := makeEntry_pages i w (b.onPages fun p => { p with retry := rest })
    have hij : i ≠ j := by
      rintro rfl
      rw [(freePage_eq_some hfree).1] at h
      cases h
    exact (pageAt_of_set_ne htable hij).trans h
  · exact h

/-- A resolution report leaves the pages of other stations (R154). -/
theorem resolve_others {c : Cause} {j : Nat} {x : PageEntry} {b : Block} (h : pageAt j b = some x)
    (ho : x.owner ≠ b.station.strapId) : pageAt j (resolve c b) = some x := by
  obtain heq | ⟨i, e, hfound, hown, heq⟩ := resolve_cases c b
  · rw [heq, h]
  · have hij : i ≠ j := by
      rintro rfl
      rw [(locatePage_eq_some.1 hfound).1] at h
      exact ho (Option.some.inj h ▸ hown)
    rw [heq]
    obtain ⟨m, _, _, htable, _, hm⟩ | ⟨_, htable, _⟩ := offerClear_cases (i := i) hown
    · rw [hm]
      exact enterRetry_stands ((pageAt_of_set_ne htable hij).trans h)
    · exact (pageAt_of_set_ne htable hij).trans h

/-! ### While no raise waits -/

/-- What a resolution report does to the page table while no raise waits: the entry of its cause that this station owns is
removed or clear due. -/
inductive Reported (c : Cause) (b b' : Block) : Prop
  | stands (table : b'.pages.table = b.pages.table)
  | removed {i : Nat} {e : PageEntry} (found : locatePage c b = some (i, e))
      (table : b'.pages.table = b.pages.table.set i none)
  | due {i : Nat} {e : PageEntry} {now : Nat} (found : locatePage c b = some (i, e))
      (table : b'.pages.table = b.pages.table.set i (some (e.madeDue now)))

theorem offerClear_retry {i : Nat} {e : PageEntry} {b : Block} (h : b.pages.retry = []) :
    (offerClear i e b).pages.retry = [] := by
  unfold offerClear
  dsimp only
  split
  · rw [removeEntry_eq (by simpa using h), takenOut_retry]
    simpa using h
  · simpa [setPage] using h

theorem resolve_retry {c : Cause} {b : Block} (h : b.pages.retry = []) : (resolve c b).pages.retry = [] := by
  obtain heq | ⟨i, e, _, _, heq⟩ := resolve_cases c b
  · rw [heq, h]
  · rw [heq]
    exact offerClear_retry h

theorem offerClear_reported {c : Cause} {i : Nat} {e : PageEntry} {b : Block} (hr : b.pages.retry = [])
    (h : locatePage c b = some (i, e)) : Reported c b (offerClear i e b) := by
  unfold offerClear
  dsimp only
  split
  · refine .removed h ?_
    rw [removeEntry_eq (by simpa using hr), (takenOut_pages i e _ _).1]
    simp
  · exact .due (now := b.now) h (by simp [setPage, PageEntry.madeDue])

theorem resolve_reported {c : Cause} {b : Block} (hr : b.pages.retry = []) : Reported c b (resolve c b) := by
  obtain heq | ⟨i, e, hfound, _, heq⟩ := resolve_cases c b
  · exact .stands (by rw [heq])
  · rw [heq]
    exact offerClear_reported hr hfound

/-- The first entry of another cause stays the first of its cause. -/
theorem locatePage_of_removed {c : Cause} {i k : Nat} {e x : PageEntry} {b b' : Block} (h : locatePage c b = some (i, e))
    (hx : pageAt k b = some x) (hne : x.cause ≠ c) {y : Option PageEntry} (hy : ∀ z, y = some z → z.cause = x.cause)
    (ht : b'.pages.table = b.pages.table.set k y) : locatePage c b' = some (i, e) := by
  obtain ⟨hat, hc, hfirst⟩ := locatePage_eq_some.1 h
  have hki : k ≠ i := by
    rintro rfl
    rw [hat] at hx
    exact hne (Option.some.inj hx ▸ hc)
  refine locatePage_eq_some.2 ⟨(pageAt_of_set_ne ht hki).trans hat, hc, fun j hj z hz => ?_⟩
  obtain ⟨rfl, hwritten⟩ | hstood := pageAt_of_set ht hz
  · rw [hy z hwritten]
    exact hne
  · exact hfirst j hj z hstood

theorem Reported.locate {c c' : Cause} {i : Nat} {e : PageEntry} {b b' : Block} (h : Reported c' b b') (hne : c' ≠ c)
    (hfound : locatePage c b = some (i, e)) : locatePage c b' = some (i, e) := by
  cases h with
  | stands table => exact (locatePage_of_table table c).trans hfound
  | removed found table =>
    obtain ⟨hx, hxc, _⟩ := locatePage_eq_some.1 found
    exact locatePage_of_removed hfound hx (hxc ▸ hne) (by simp) table
  | due found table =>
    obtain ⟨hx, hxc, _⟩ := locatePage_eq_some.1 found
    exact locatePage_of_removed hfound hx (hxc ▸ hne) (by rintro z ⟨⟩; rfl) table

/-- A free entry stays free. -/
theorem Reported.free {c : Cause} {i : Nat} {b b' : Block} (h : Reported c b b') (hi : pageAt i b = none) :
    pageAt i b' = none := by
  have hne {k : Nat} {e : PageEntry} (hfound : locatePage c b = some (k, e)) : k ≠ i := by
    rintro rfl
    rw [(locatePage_eq_some.1 hfound).1] at hi
    cases hi
  cases h with
  | stands table => exact (pageAt_of_table table i).trans hi
  | removed found table => exact (pageAt_of_set_ne table (hne found)).trans hi
  | due found table => exact (pageAt_of_set_ne table (hne found)).trans hi

/-! ## The reports of PLAN CLEAR -/

/-- PLAN CLEAR's reports, one after the other. -/
def resolveAll (cs : List Cause) (b : Block) : Block := cs.foldl (fun acc c => resolve c acc) b

theorem resolveAll_work (cs : List Cause) (b : Block) : PageWork b (resolveAll cs b) :=
  .foldl (fun b c => resolve_work c b) cs b

theorem resolveAll_append (cs ds : List Cause) (b : Block) : resolveAll (cs ++ ds) b = resolveAll ds (resolveAll cs b) :=
  List.foldl_append

theorem resolveAll_others {cs : List Cause} {j : Nat} {x : PageEntry} {b : Block} (h : pageAt j b = some x)
    (ho : x.owner ≠ b.station.strapId) : pageAt j (resolveAll cs b) = some x := by
  induction cs generalizing b with
  | nil => exact h
  | cons c rest ih => exact ih (resolve_others h ho) (by rw [(resolve_work c b).station]; exact ho)

theorem resolveAll_retry {cs : List Cause} {b : Block} (h : b.pages.retry = []) : (resolveAll cs b).pages.retry = [] := by
  induction cs generalizing b with
  | nil => exact h
  | cons c rest ih => exact ih (resolve_retry h)

theorem resolveAll_free {cs : List Cause} {i : Nat} {b : Block} (hr : b.pages.retry = []) (h : pageAt i b = none) :
    pageAt i (resolveAll cs b) = none := by
  induction cs generalizing b with
  | nil => exact h
  | cons c rest ih => exact ih (resolve_retry hr) ((resolve_reported hr).free h)

theorem resolveAll_locate {cs : List Cause} {c : Cause} {i : Nat} {e : PageEntry} {b : Block} (hr : b.pages.retry = [])
    (hc : c ∉ cs) (h : locatePage c b = some (i, e)) : locatePage c (resolveAll cs b) = some (i, e) := by
  induction cs generalizing b with
  | nil => exact h
  | cons d rest ih =>
    obtain ⟨hne, hrest⟩ := not_or.1 (mt List.mem_cons.2 hc)
    exact ih (resolve_retry hr) hrest ((resolve_reported hr).locate (Ne.symm hne) h)

/-- While no raise waits a report queues its CLEAR at the most (R154). -/
theorem resolve_queue {c : Cause} {b : Block} (hr : b.pages.retry = []) :
    (resolve c b).line.pageQueue.length ≤ b.line.pageQueue.length + 1 := by
  obtain heq | ⟨i, e, _, _, heq⟩ := resolve_cases c b
  · rw [heq]
    exact Nat.le_succ _
  · rw [heq]
    unfold offerClear
    dsimp only
    split
    · rw [removeEntry_eq (by simpa using hr), takenOut_line]
      exact queuePage_length _ b
    · exact (by simp [setPage] : _ = (queuePage (clearFrame e.cause e.generation) b).2.line.pageQueue.length).trans_le
        (queuePage_length _ b)

theorem resolveAll_queue {cs : List Cause} {b : Block} (hr : b.pages.retry = []) :
    (resolveAll cs b).line.pageQueue.length ≤ b.line.pageQueue.length + cs.length := by
  induction cs generalizing b with
  | nil => exact le_refl _
  | cons c rest ih =>
    have hrest := ih (resolve_retry (c := c) hr)
    have hone := resolve_queue (c := c) hr
    have hlength : (c :: rest).length = rest.length + 1 := rfl
    exact hrest.trans (by omega)

/-- In LOCAL the reports leave the line (R64). -/
theorem resolveAll_silent {cs : List Cause} {b : Block} (hr : b.pages.retry = []) (ht : b.lineTakes = false) :
    (resolveAll cs b).line = b.line := by
  induction cs generalizing b with
  | nil => rfl
  | cons c rest ih =>
    have hone : (resolve c b).line = b.line := by
      obtain heq | ⟨i, e, _, _, heq⟩ := resolve_cases c b
      · rw [heq]
      · rw [heq, offerClear_silent ht, removeEntry_eq hr, takenOut_line]
    exact (ih (resolve_retry hr) ((resolve_work c b).takes.trans ht)).trans hone

/-- An entry clear due stays so while the PAGE queue is full (R154). -/
theorem resolveAll_due {cs : List Cause} {c : Cause} {i : Nat} {b : Block} (ht : b.lineTakes = true)
    (hfull : 8 ≤ b.line.pageQueue.length) (h : ∃ x, pageAt i b = some x ∧ x.clearDue = true ∧ x.cause = c) :
    ∃ x, pageAt i (resolveAll cs b) = some x ∧ x.clearDue = true ∧ x.cause = c := by
  induction cs generalizing b with
  | nil => exact h
  | cons d rest ih =>
    have hwork := resolve_work d b
    refine ih (b := resolve d b) (hwork.takes.trans ht) (hfull.trans hwork.frames.length_le) ?_
    obtain ⟨x, hx, hdue, hxc⟩ := h
    obtain heq | ⟨k, e, hfound, _, heq⟩ := resolve_cases d b
    · exact ⟨x, by rw [heq, hx], hdue, hxc⟩
    · have htable : (resolve d b).pages.table = b.pages.table.set k (some (e.madeDue b.now)) := by
        rw [heq, offerClear_full ht hfull]
        simp [setPage]
      by_cases hki : k = i
      · subst hki
        obtain ⟨hat, hec, _⟩ := locatePage_eq_some.1 hfound
        obtain rfl := Option.some.inj (hat.symm.trans hx)
        exact ⟨e.madeDue b.now, pageAt_of_set_self htable (pageAt_lt hat), rfl, hxc⟩
      · exact ⟨x, (pageAt_of_set_ne htable hki).trans hx, hdue, hxc⟩

/-! ### The report of one owned page among them -/

/-- A CLEAR that finds room in the PAGE queue (R154). -/
theorem offerClear_sent {i : Nat} {e : PageEntry} {b : Block} (hr : b.pages.retry = []) (hat : pageAt i b = some e)
    (ht : b.lineTakes = true) (hroom : b.line.pageQueue.length < 8) :
    pageAt i (offerClear i e b) = none ∧ clearFrame e.cause e.generation ∈ (offerClear i e b).line.pageQueue ∧
      pageRemoved e b (offerClear i e b) := by
  rw [offerClear_room ht hroom, removeEntry_eq (b := b.withFrame _) hr]
  have htaken := takenOut_pages i e e.generation (b.withFrame (clearFrame e.cause e.generation))
  refine ⟨pageAt_of_set_self htaken.1 (pageAt_lt hat), ?_, ?_⟩
  · rw [takenOut_line]
    simp [Block.withFrame]
  · exact offered_of_grows (withFrame_work _ b).toEventsGrow (takenOut_offered i e e.generation _)

/-- A CLEAR that the station state does not take (R64, R154). -/
theorem offerClear_unsent {i : Nat} {e : PageEntry} {b : Block} (hr : b.pages.retry = []) (hat : pageAt i b = some e)
    (ht : b.lineTakes = false) : pageAt i (offerClear i e b) = none ∧ pageRemoved e b (offerClear i e b) := by
  rw [offerClear_silent ht, removeEntry_eq hr]
  exact ⟨pageAt_of_set_self (takenOut_pages i e e.generation b).1 (pageAt_lt hat), takenOut_offered i e e.generation b⟩

/-- The part as the report of an owned page finds it: the page stands first of its cause, no raise waits, and the reports
before it queued a CLEAR each at the most. -/
theorem resolveAll_reaches {cs : List Cause} {i : Nat} {e : PageEntry} {b : Block} (hr : b.pages.retry = [])
    (hc : e.cause ∈ cs) (h : locatePage e.cause b = some (i, e)) (ho : e.owner = b.station.strapId) :
    ∃ pre post, resolveAll cs b = resolveAll post (offerClear i e (resolveAll pre b)) ∧
      PageWork b (resolveAll pre b) ∧ PageWork (resolveAll pre b) (offerClear i e (resolveAll pre b)) ∧
      (resolveAll pre b).pages.retry = [] ∧ pageAt i (resolveAll pre b) = some e ∧
      (resolveAll pre b).line.pageQueue.length + 1 ≤ b.line.pageQueue.length + cs.length := by
  obtain ⟨pre, post, rfl, hpre⟩ := List.eq_append_cons_of_mem hc
  have hwork := resolveAll_work pre b
  have hfound := resolveAll_locate hr hpre h
  have hqueue := resolveAll_queue (cs := pre) hr
  refine ⟨pre, post, ?_, hwork, (PageWork.refl _).offerClear, resolveAll_retry hr, (locatePage_eq_some.1 hfound).1, ?_⟩
  · rw [resolveAll_append, ← resolve_owned hfound (by rw [hwork.station]; exact ho)]
    rfl
  · rw [List.length_append, List.length_cons]
    omega

/-- Every owned page is reported: its CLEAR is queued, or it is clear due, or the station state takes no frame (R64, R154). -/
theorem resolveAll_owned {cs : List Cause} {i : Nat} {e : PageEntry} {b : Block} (hr : b.pages.retry = [])
    (hc : e.cause ∈ cs) (h : locatePage e.cause b = some (i, e)) (ho : e.owner = b.station.strapId) :
    (b.lineTakes = true → b.line.pageQueue.length + cs.length ≤ 8 → pageAt i (resolveAll cs b) = none ∧
      clearFrame e.cause e.generation ∈ (resolveAll cs b).line.pageQueue ∧ pageRemoved e b (resolveAll cs b)) ∧
    (b.lineTakes = true → 8 ≤ b.line.pageQueue.length →
      ∃ x, pageAt i (resolveAll cs b) = some x ∧ x.clearDue = true ∧ x.cause = e.cause) ∧
    (b.lineTakes = false → pageAt i (resolveAll cs b) = none ∧ pageRemoved e b (resolveAll cs b)) := by
  obtain ⟨pre, post, heq, hwork, hoffer, hretry, hat, hqueue⟩ := resolveAll_reaches hr hc h ho
  have hafter := resolveAll_work post (offerClear i e (resolveAll pre b))
  have hempty := offerClear_retry (i := i) (e := e) hretry
  rw [heq]
  refine ⟨fun ht hroom => ?_, fun ht hfull => ?_, fun ht => ?_⟩
  · obtain ⟨hnone, hframe, hevent⟩ := offerClear_sent hretry hat (hwork.takes.trans ht) (by omega)
    exact ⟨resolveAll_free hempty hnone, hafter.frames.subset hframe,
      offered_mono (offered_of_grows hwork.toEventsGrow hevent) hafter.toEventsGrow⟩
  · have htakes := hwork.takes.trans ht
    have hstill := hfull.trans hwork.frames.length_le
    refine resolveAll_due (hoffer.takes.trans htakes) (hstill.trans hoffer.frames.length_le)
      ⟨e.madeDue (resolveAll pre b).now, ?_, rfl, rfl⟩
    rw [offerClear_full htakes hstill]
    exact pageAt_of_set_self (b := resolveAll pre b) (by simp [setPage]) (pageAt_lt hat)
  · obtain ⟨hnone, hevent⟩ := offerClear_unsent hretry hat (hwork.takes.trans ht)
    exact ⟨resolveAll_free hempty hnone, offered_mono (offered_of_grows hwork.toEventsGrow hevent) hafter.toEventsGrow⟩

/-! ## The command -/

/-- The part with its plan emptied and its HEAT channels released, before the reports (R85, R100). -/
def planEmptied (b : Block) : Block :=
  (b.onPlan fun p =>
    { p with profiles := List.replicate 32 .free, courses := List.replicate 8 none, tasks := List.replicate 24 none }).onDrive
    fun d => { d with channels := d.channels.map fun c => if c.role = .heat then { c with want := {} } else c }

theorem planClear_eq (b : Block) : planClear b = markCourse (resolveAll (ownedCauses b) (planEmptied b)) := rfl

theorem length_filterMap_filter {α β : Type} (p : α → Bool) (f : α → β) (xs : List (Option α)) :
    (xs.filterMap fun x => (x.filter p).map f).length = ((xs.filterMap id).filter p).length := by
  induction xs with
  | nil => rfl
  | cons x rest ih =>
    cases x with
    | none => simpa using ih
    | some y => by_cases hy : p y = true <;> simpa [List.filterMap_cons, Option.filter, hy] using ih

/-- A CLEAR is due for each page that this station owns. -/
theorem ownedCauses_length (b : Block) : (ownedCauses b).length =
    ((b.pages.table.filterMap id).filter fun x => decide (x.owner = b.station.strapId)).length :=
  length_filterMap_filter _ _ _

theorem mem_ownedCauses {i : Nat} {e : PageEntry} {b : Block} (h : pageAt i b = some e)
    (ho : e.owner = b.station.strapId) : e.cause ∈ ownedCauses b :=
  List.mem_filterMap.2 ⟨some e, some_mem_table.2 ⟨i, h⟩, by simp [Option.filter, show e.owner = b.id from ho]⟩

theorem getD_replicate {α : Type} (n i : Nat) (x : α) : (List.replicate n x).getD i x = x := by
  rw [List.getD_eq_getElem?_getD, List.getElem?_replicate]
  split <;> rfl

theorem planEmptied_plan (b : Block) (i : Nat) :
    profileAt i (planEmptied b) = .free ∧ courseAt i (planEmptied b) = none ∧ taskAt i (planEmptied b) = none :=
  ⟨getD_replicate 32 i _, getD_replicate 8 i _, getD_replicate 24 i _⟩

theorem planEmptied_heat {i : Nat} {b : Block} (h : i < b.drive.channels.length) (hrole : (channelAt i b).role = .heat) :
    (channelAt i (planEmptied b)).want = {} := by
  have hread : channelAt i b = b.drive.channels[i] := by simp [channelAt, h]
  rw [hread] at hrole
  simp [channelAt, planEmptied, h, hrole]

/-- The COURSE slot is marked where the station state takes frames (R121). -/
theorem markCourse_slot {b : Block} (h : b.lineTakes = true) : (markCourse b).line.courseSlot = true := by
  rw [markCourse, if_pos h]
  rfl

theorem markCourse_silent {b : Block} (h : b.lineTakes = false) : markCourse b = b := by simp [markCourse, h]

/-- What is offered before the answer is placed stays offered (R168). -/
theorem offered_answer {e : EventBody} {s b : Block} (h : offered e s b) (r : Response) :
    offered e s (answer r (numbered8 b)) :=
  offered_mono h ⟨rfl, List.prefix_refl _, id⟩

/-- Settles O43: plan and wants are emptied, then each owned page is reported, then the COURSE slot is marked. -/
theorem planClearEmptiesThePlan : Obligations.PlanClearEmptiesThePlan := by
  intro s hp hw
  have hall := resolveAll_work (ownedCauses (deliver s.block)) (planEmptied (deliver s.block))
  have hmark := markCourse_work (resolveAll (ownedCauses (deliver s.block)) (planEmptied (deliver s.block)))
  have hheld := held_planClear (deliver s.block)
  simp only [Block.held, Prod.mk.injEq] at hheld
  obtain ⟨_, hdelivered, hnumber⟩ := hheld
  refine completes_accepted rfl hp hw (after := planClear (deliver s.block)) (data := []) rfl ?_
  have hplan : (planClear (deliver s.block)).plan = (planEmptied (deliver s.block)).plan :=
    (markCourse_plan _).trans (hall.frame .plan (by decide))
  have hdrive : (planClear (deliver s.block)).drive = (planEmptied (deliver s.block)).drive :=
    (markCourse_drive _).trans (hall.frame .drive (by decide))
  have hpages : (planClear (deliver s.block)).pages =
      (resolveAll (ownedCauses (deliver s.block)) (planEmptied (deliver s.block))).pages := markCourse_pages _
  have hread (i : Nat) := pageAt_of_table (congrArg Pages.table hpages) i
  have hstart : EventsGrow s.block (planEmptied (deliver s.block)) := ⟨rfl, List.prefix_refl _, id⟩
  refine ⟨answeredWith_of hdelivered hnumber, fun i => ?_, (congrArg Plan.powerFraction hplan :), fun i hi hrole => ?_,
    fun hs => ?_, fun i e hfound ho hr => ?_, fun j x hx hne => ?_, ?_⟩
  · have hempty := planEmptied_plan (deliver s.block) i
    simp only [profileAt, courseAt, taskAt, ← hplan] at hempty
    exact hempty
  · have hheat := planEmptied_heat (b := deliver s.block) hi hrole
    rw [channelAt, ← hdrive] at hheat
    exact hheat
  · exact markCourse_slot (hall.takes.trans (takes_of_works hw hs))
  · have howned : e.cause ∈ ownedCauses (deliver s.block) :=
      mem_ownedCauses (b := s.block) (locatePage_eq_some.1 hfound).1 ho
    obtain ⟨hsent, hdue, hsilent⟩ := resolveAll_owned (b := planEmptied (deliver s.block)) hr howned hfound ho
    have hevents (h : pageRemoved e (planEmptied (deliver s.block)) _) (r : Response) :
        pageRemoved e s.block (answer r (numbered8 (planClear (deliver s.block)))) :=
      offered_answer (offered_mono (offered_of_grows hstart h) hmark.toEventsGrow) r
    refine ⟨fun hs hroom => ?_, fun hs hfull => ?_, fun hs => ?_⟩
    · obtain ⟨hnone, hframe, hevent⟩ := hsent (takes_of_works hw hs) (by rw [ownedCauses_length]; exact hroom)
      exact ⟨(hread i).trans hnone, hmark.frames.subset hframe, hevents hevent _⟩
    · obtain ⟨x, hx, hclear, hcause⟩ := hdue (takes_of_works hw hs) hfull
      exact ⟨x, (hread i).trans hx, hclear, hcause⟩
    · have htakes : (planEmptied (deliver s.block)).lineTakes = false := takes_of_local hs
      obtain ⟨hnone, hevent⟩ := hsilent htakes
      have hline : (planClear (deliver s.block)).line = (planEmptied (deliver s.block)).line := by
        rw [planClear_eq, markCourse_silent (hall.takes.trans htakes),
          resolveAll_silent (b := planEmptied (deliver s.block)) hr htakes]
      exact ⟨(hread i).trans hnone, hline, hevents hevent _⟩
  · exact (hread j).trans (resolveAll_others (b := planEmptied (deliver s.block)) hx hne)
  · have hemptied : changesOnly [.plan, .drive, .line, .pages, .pager, .port] (deliver s.block)
        (planEmptied (deliver s.block)) := by simp [changesOnly_iff, planEmptied]
    exact answered_frame (by decide) (changesOnly_trans hemptied
      (changesOnly_trans (changesOnly_mono hall.frame (by simp)) (changesOnly_mono hmark.frame (by simp)))) _

end Sys2Proof.Machine
end

section
/-! PROOFS. What a change of a channel's health makes of the conveyor, and the pages it moves (R135, R136, R146). -/

namespace Sys2Proof.Machine

/-! ## The page acts of the conveyor state derived (R136, R146) -/

section
variable {news : Cause → Prop} {lost : Nat → Prop} {gone : PageEntry → Prop}

theorem raiseHold_acts (hn : ∀ c : Cause, c.kind = .rackHold → news c) (code : Nat) (b : Block) :
    PageActs news lost gone b (raiseHold code b) :=
  (PageActs.of_pages (.of_notices (Notices.refl b).onConveyor rfl) rfl).trans (raise_acts (hn _ rfl) _)

theorem closeHold_acts (hg : ∀ e : PageEntry, e.cause.kind = .rackHold → gone e) (b : Block) :
    PageActs news lost gone b (closeHold b) := by
  have hclosed : PageActs news lost gone b (b.onConveyor fun c => { c with holdSeconds := 0, holdPage := none }) :=
    .of_pages (.of_notices (Notices.refl b).onConveyor rfl) rfl
  unfold closeHold
  dsimp only
  split
  · exact hclosed.trans (resolve_acts (fun e he => hg e (by rw [he])) _)
  · exact hclosed

theorem settleHold_acts (hn : ∀ c : Cause, c.kind = .rackHold → news c)
    (hg : ∀ e : PageEntry, e.cause.kind = .rackHold → gone e) (before after : ConveyorState) (b : Block) :
    PageActs news lost gone b (settleHold before after b) := by
  unfold settleHold
  extract_lets half
  have hhalf : PageActs news lost gone b half := by
    unfold half
    split
    · split
      · split
        · exact (resolve_acts (fun e he => hg e (by rw [he])) _).trans (raiseHold_acts hn _ _)
        · exact .refl b
      · exact closeHold_acts hg b
    · exact .refl b
  split
  · exact hhalf.trans (raiseHold_acts hn 4 _)
  · exact hhalf.trans (raiseHold_acts hn 5 _)
  · split
    · exact hhalf.trans (.of_pages (.of_notices (Notices.refl half).onConveyor rfl) rfl)
    · exact hhalf

/-- A derivation of the conveyor state raises and clears pages of holds alone. -/
theorem deriveConveyor_acts (hn : ∀ c : Cause, c.kind = .rackHold → news c)
    (hg : ∀ e : PageEntry, e.cause.kind = .rackHold → gone e) (b : Block) :
    PageActs news lost gone b (deriveConveyor b) := by
  unfold deriveConveyor
  extract_lets before after wanted settled
  split
  · exact .refl b
  · have hwanted : PageActs news lost gone b wanted :=
      .of_pages (.of_notices (Notices.refl b).onConveyor.onDrive rfl) rfl
    have hsuperseded : PageActs news lost gone settled
        (supersedeAdvance after (offer (.conveyorState before after settled.conveyor.speed) settled)) :=
      .of_pages (.of_notices (Notices.refl settled).offer.supersedeAdvance (by simp)) (by simp)
    exact (hwanted.trans (settleHold_acts hn hg before after wanted)).trans hsuperseded

theorem rinseHealthChanged_acts (hn : ∀ c : Cause, c.kind = .rackHold → news c)
    (hg : ∀ e : PageEntry, e.cause.kind = .rackHold → gone e) (r : Role) (b : Block) :
    PageActs news lost gone b (rinseHealthChanged r b) := by
  unfold rinseHealthChanged
  split
  · exact (PageActs.of_pages (.of_notices (Notices.refl b).onConveyor rfl) rfl).trans (deriveConveyor_acts hn hg _)
  · exact .refl b

end

/-- Acts that raise and clear pages of the conveyor's holds alone (R146). -/
def HoldActs : Block → Block → Prop :=
  PageActs (fun c => c.kind = .rackHold) (fun _ => False) (fun e => e.cause.kind = .rackHold)

theorem rinseHealthChanged_holdActs (r : Role) (b : Block) : HoldActs b (rinseHealthChanged r b) :=
  rinseHealthChanged_acts (fun _ h => h) (fun _ h => h) r b

/-! ## What stands when a channel's health changes (R135) -/

/-- A health changed leaves every record but those of the conveyor, its wants and its pages. -/
theorem rinseHealthChanged_frame (r : Role) (b : Block) :
    changesOnly [.drive, .conveyor, .line, .pages, .pager, .port] b (rinseHealthChanged r b) := by
  unfold rinseHealthChanged
  split
  · simp [changesOnly_iff]
  · exact changesOnly_refl _ b

theorem channelAt_of_noWants {b b' : Block} (h : noWants b'.drive = noWants b.drive) (k : Nat) :
    (channelAt k b').unwanted = (channelAt k b).unwanted := channelAt_unwanted (eq_of_noWants h).2

/-- A channel equal to another but for the want is that channel with another want. -/
theorem exists_want_of_unwanted {c d : Channel} (h : c.unwanted = d.unwanted) :
    ∃ want : Want, c = { d with want := want } :=
  ⟨c.want, congrArg (fun x : Channel => { x with want := c.want }) h⟩

/-- A channel written, read back. -/
theorem channelAt_setChannel_self {k : Nat} {b : Block} (h : k < b.drive.channels.length) (c : Channel) :
    channelAt k (setChannel k c b) = c := (channelAt_set k k c b).trans (if_pos ⟨rfl, h⟩)

theorem channelAt_setChannel_ne {j k : Nat} (h : j ≠ k) (c : Channel) (b : Block) :
    channelAt j (setChannel k c b) = channelAt j b := (channelAt_set k j c b).trans (if_neg fun hk => h hk.1.symm)

/-! ## CLEAR FAULT (R81) -/

/-- The record of a channel mended (R81). -/
def Channel.mended (c : Channel) : Channel := { c with health := .ok, lowCount := 0, starved := 0, lastLoad := c.rated }

/-- The part with a channel mended and its event offered, before ELEMENT_FAULT is reported resolved (R81). -/
def channelMended (k : Nat) (c : Channel) (b : Block) : Block :=
  offer (.channelHealth k .ok none) (setChannel k c.mended b)

theorem mendChannel_eq (k : Nat) (c : Channel) (b : Block) : mendChannel k c b =
    rinseHealthChanged c.role
      (resolve { kind := .elementFault, subject := b.station.strapId * 8 + k } (channelMended k c b)) := by
  have hid : (channelMended k c b).id = b.id := by simp [Block.id, channelMended, setChannel]
  exact congrArg (fun n => rinseHealthChanged c.role (resolved .elementFault (faultSubject n k) (channelMended k c b))) hid

theorem channelMended_onward (k : Nat) (c : Channel) (b : Block) : Onward b (channelMended k c b) :=
  .of_notices (Notices.refl b).onDrive.offer (by simp [channelMended, setChannel])

theorem channelMended_pages (k : Nat) (c : Channel) (b : Block) : (channelMended k c b).pages = b.pages := by
  simp [channelMended, setChannel]

/-- What follows the event: the report and the conveyor's part. -/
theorem mendChannel_grows (k : Nat) (c : Channel) (b : Block) : EventsGrow (channelMended k c b) (mendChannel k c b) := by
  rw [mendChannel_eq]
  exact (resolve_work _ _).toEventsGrow.trans (rinseHealthChanged_holdActs c.role _).onward.toEventsGrow

theorem mendChannel_offers (k : Nat) (c : Channel) (b : Block) :
    offered (.channelHealth k .ok none) b (mendChannel k c b) :=
  offered_mono (offered_offer_of_port (b := setChannel k c.mended b) rfl rfl) (mendChannel_grows k c b)

theorem mendChannel_channel {k : Nat} {b : Block} (h : k < b.drive.channels.length) (c : Channel) :
    (channelAt k (mendChannel k c b)).unwanted = c.mended.unwanted := by
  have hwants : noWants (mendChannel k c b).drive = noWants (setChannel k c.mended b).drive := by
    simp [mendChannel_eq, channelMended]
  rw [channelAt_of_noWants hwants, channelAt_setChannel_self h]

theorem mendChannel_frame (k : Nat) (c : Channel) (b : Block) :
    changesOnly [.drive, .conveyor, .line, .pages, .pager, .port] b (mendChannel k c b) := by
  rw [mendChannel_eq]
  have hmended : changesOnly [.drive, .port] b (channelMended k c b) := by
    simp [changesOnly_iff, channelMended, setChannel]
  exact changesOnly_trans (changesOnly_mono hmended (by simp))
    (changesOnly_trans (changesOnly_mono (resolve_work _ _).frame (by simp)) (rinseHealthChanged_frame _ _))

/-- The page of the channel's fault is reported resolved, and no act of the conveyor brings it back (R146, R154). -/
theorem mendChannel_resolves (k : Nat) (c : Channel) (b : Block) :
    resolveMade { kind := .elementFault, subject := b.station.strapId * 8 + k } b (mendChannel k c b) := by
  intro i e hat ho ht hw _
  obtain ⟨hslot, hcause, hfirst⟩ := locatePage_eq_some.1 hat
  have hnews : ¬e.cause.kind = .rackHold := by simp [hcause]
  have hmended : HoldActs b (channelMended k c b) := .of_pages (channelMended_onward k c b) (channelMended_pages k c b)
  have hresolved := (hmended.followed hnews (.start hslot ho (hcause ▸ hw))).resolve (hcause ▸ hfirst)
  rw [hcause] at hresolved
  rw [mendChannel_eq]
  exact ((rinseHealthChanged_holdActs c.role _).followed hnews hresolved).clearTaken ho ht

/-- Settles O44: a faulted channel is mended, reported and its conveyor derived; a healthy one is answered; one not fitted
is refused by the owner. -/
theorem clearFaultMendsChannel : Obligations.ClearFaultMendsChannel := by
  intro s channel hp hw
  have hread (k : Nat) : channelAt k (deliver s.block) = channelAt k s.block := rfl
  refine ⟨fun hk hlength hfitted hfaulted => ?_, fun hk hfitted hhealthy => ?_, fun hbad => ?_⟩
  · set k := channel.toNat
    set c := channelAt k s.block
    have hheld : (mendChannel k c (deliver s.block)).held = (deliver s.block).held := by simp [mendChannel, setChannel]
    obtain ⟨_, hdelivered, hnumber⟩ : _ ∧ _ ∧ _ := by simpa only [Block.held, Prod.mk.injEq] using hheld
    refine completes_accepted rfl hp hw (after := mendChannel k c (deliver s.block)) (data := []) ?_ ?_
    · simp only [ownClearFault, hread]
      rw [if_pos ⟨hk, hfitted⟩, hfaulted]
      rfl
    · obtain ⟨want, hchannel⟩ := exists_want_of_unwanted (mendChannel_channel (b := deliver s.block) hlength c)
      have hoffered : offered (.channelHealth k .ok none) s.block (mendChannel k c (deliver s.block)) :=
        mendChannel_offers k c (deliver s.block)
      exact ⟨answeredWith_of hdelivered hnumber, congrArg Channel.health hchannel, congrArg Channel.lowCount hchannel,
        congrArg Channel.starved hchannel, congrArg Channel.lastLoad hchannel, offered_answer hoffered _,
        mendChannel_resolves k c (deliver s.block), answered_frame (by decide) (mendChannel_frame k c _) _⟩
  · refine completes_accepted rfl hp hw (after := deliver s.block) (data := []) ?_ ?_
    · simp only [ownClearFault, hread]
      rw [if_pos ⟨hk, hfitted⟩, hhealthy]
      rfl
    · exact ⟨answeredWith_of rfl rfl, ⟨rfl, rfl, rfl, rfl⟩, answered_frame (by decide) (changesOnly_refl _ _) _⟩
  · refine completes_refused rfl hp (r := .badValue) ?_
    have hno : ¬(channel.toNat ≤ 7 ∧ (channelAt channel.toNat s.block).fitted = true) := by
      rintro ⟨hk, hfitted⟩
      obtain h | h := hbad
      · omega
      · rw [hfitted] at h
        cases h
    simp [gates, StateGate.passes, hw, ownClearFault, hread, hno]

end Sys2Proof.Machine
end

section
/-! PROOFS. The current check of one channel (R74 to R77, R80). -/

namespace Sys2Proof.Machine

/-! ## What a check leaves -/

/-- The causes that a check can raise: the fault of a channel, a hold of the conveyor that follows it (R80, R146). -/
def checkNews (c : Cause) : Prop := c.kind = .elementFault ∨ c.kind = .rackHold

/-- A current check: the drive stands but for the channels' records, and no page is cleared but those of holds. -/
structure CheckAct (b b' : Block) : Prop where
  pages : PageActs checkNews (fun _ => False) (fun e => e.cause.kind = .rackHold) b b'
  drive : { b'.drive with channels := [] } = { b.drive with channels := [] }
  size : b'.drive.channels.length = b.drive.channels.length
  frame : changesOnly [.drive, .conveyor, .pages, .pager, .line, .port] b b'

theorem CheckAct.trans {b c d : Block} (h : CheckAct b c) (g : CheckAct c d) : CheckAct b d :=
  ⟨h.pages.trans g.pages, g.drive.trans h.drive, g.size.trans h.size, changesOnly_trans h.frame g.frame⟩

theorem CheckAct.grows {b b' : Block} (h : CheckAct b b') : EventsGrow b b' := h.pages.onward.toEventsGrow

/-- A check through which channel `k` stands but for its want. -/
structure Spares (k : Nat) (b b' : Block) : Prop extends CheckAct b b' where
  channel : (channelAt k b').unwanted = (channelAt k b).unwanted

theorem Spares.trans {k : Nat} {b c d : Block} (h : Spares k b c) (g : Spares k c d) : Spares k b d :=
  ⟨h.toCheckAct.trans g.toCheckAct, g.channel.trans h.channel⟩

/-- What leaves the drive but for wants spares every channel. -/
theorem Spares.of_noWants {b b' : Block}
    (hpages : PageActs checkNews (fun _ => False) (fun e => e.cause.kind = .rackHold) b b')
    (hdrive : noWants b'.drive = noWants b.drive)
    (hframe : changesOnly [.drive, .conveyor, .pages, .pager, .line, .port] b b')
    (k : Nat) : Spares k b b' := by
  refine ⟨⟨hpages, congrArg (fun d : Drive => { d with channels := [] }) hdrive, ?_, hframe⟩,
    channelAt_of_noWants hdrive k⟩
  simpa using congrArg List.length (eq_of_noWants hdrive).2

theorem Spares.refl (k : Nat) (b : Block) : Spares k b b := .of_noWants (.refl b) rfl (changesOnly_refl _ b) k

theorem Spares.foldl {k : Nat} {f : Block → Nat → Block} {ks : List Nat} (h : ∀ j ∈ ks, ∀ b, Spares k b (f b j))
    (b : Block) : Spares k b (ks.foldl f b) := by
  induction ks generalizing b with
  | nil => exact .refl k b
  | cons j rest ih =>
    exact (h j List.mem_cons_self b).trans (ih (fun i hi => h i (List.mem_cons_of_mem _ hi)) _)

theorem offer_spares (e : EventBody) (k : Nat) (b : Block) : Spares k b (offer e b) :=
  .of_noWants (.of_pages (.of_notices (Notices.refl b).offer (by simp)) (by simp)) (by simp) (by simp [changesOnly_iff]) k

theorem raise_spares {kind : CauseKind} {n : Nat} (h : checkNews { kind, subject := n }) (k : Nat) (b : Block) :
    Spares k b (raise kind n b) := .of_noWants (raise_acts h b) (by simp) (by simp [changesOnly_iff]) k

theorem rinseHealthChanged_spares (r : Role) (k : Nat) (b : Block) : Spares k b (rinseHealthChanged r b) :=
  .of_noWants (rinseHealthChanged_acts (fun _ h => .inr h) (fun _ h => h) r b) (by simp)
    (changesOnly_mono (rinseHealthChanged_frame r b) (by simp)) k

theorem setChannel_act (k : Nat) (c : Channel) (b : Block) : CheckAct b (setChannel k c b) :=
  ⟨.of_pages (.of_notices (Notices.refl b).onDrive rfl) rfl, rfl, List.length_set, by simp [changesOnly_iff, setChannel]⟩

theorem setChannel_spares {j k : Nat} (h : j ≠ k) (c : Channel) (b : Block) : Spares j b (setChannel k c b) :=
  ⟨setChannel_act k c b, by rw [channelAt_setChannel_ne h]⟩

/-! ## A fault told (R80) -/

theorem elementFault_spares (k : Nat) (health : Health) (m j : Nat) (b : Block) : Spares j b (elementFault k health m b) :=
  ((raise_spares (.inl rfl) j b).trans (offer_spares _ j _)).trans (rinseHealthChanged_spares _ j _)

theorem elementFault_offers (k : Nat) (health : Health) (m : Nat) (b : Block) :
    offered (.channelHealth k health (some m)) b (elementFault k health m b) :=
  offered_mono (offered_of_grows (raise_spares (.inl rfl) k b).grows (offered_offer _ _))
    (rinseHealthChanged_spares _ k _).grows

/-- A raise once made stays made through checks, none of which clears a page of a fault. -/
theorem raiseMade_mono {c : Cause} {s b d : Block} (h : raiseMade c s b) (hc : c.kind ≠ .rackHold) (g : CheckAct b d) :
    raiseMade c s d :=
  h.imp (g.pages.stillHeld fun _ he hec => hc (hec ▸ he)) fun h => offered_mono h g.grows

theorem raiseMade_of_grows {c : Cause} {s b d : Block} (g : EventsGrow s b) (h : raiseMade c b d) : raiseMade c s d :=
  h.imp_right (offered_of_grows g)

theorem elementFault_raises (k : Nat) (health : Health) (m : Nat) (b : Block) :
    raiseMade { kind := .elementFault, subject := b.station.strapId * 8 + k } b (elementFault k health m b) := by
  have hraised : raiseMade { kind := .elementFault, subject := b.station.strapId * 8 + k } b
      (raise .elementFault (b.station.strapId * 8 + k) b) := (raise_taken _ _ b).imp_right fun h => h.2.2
  exact raiseMade_mono hraised (by simp)
    ((offer_spares _ k _).trans (rinseHealthChanged_spares _ k _)).toCheckAct

/-! ## The reading (R75 to R77) -/

/-- A channel with the load of its completed check (R75). -/
def Channel.loaded (m : Nat) (c : Channel) : Channel := { c with lastLoad := m, checked := true, starved := 0 }

/-- A channel tripped by a high reading (R77). -/
def Channel.tripped (m : Nat) (c : Channel) : Channel :=
  { c.loaded m with
    health := .tripped, onTicks := c.drivenTicks, cut := true, output := false, lowCount := 0, faultedNow := true }

/-- A channel opened by its third low reading in a row (R76). -/
def Channel.opened (m : Nat) (c : Channel) : Channel :=
  { c.loaded m with health := .opened, lowCount := 3, faultedNow := true }

/-- A channel whose reading was neither, with its low count after it; an UNVERIFIED one is OK again (R76, R77). -/
def Channel.passed (m low : Nat) (c : Channel) : Channel :=
  { c.loaded m with health := if c.health = .unverified then .ok else c.health, lowCount := low }

/-- The low count that a reading gives (R76). -/
def Channel.lowAfter (m : Nat) (lineLow : Bool) (c : Channel) : Nat :=
  if readsLow m c.rated then (if lineLow then c.lowCount else c.lowCount + 1) else 0

section
variable {k a m : Nat} {b : Block}

theorem completeCheck_high (hm : loadOf b.drive.lineVoltage a = m) (hhigh : 3 * (channelAt k b).rated < 2 * m) :
    completeCheck k a b = elementFault k .tripped m (setChannel k ((channelAt k b).tripped m) b) := by
  subst hm
  exact if_pos (decide_eq_true hhigh)

theorem completeCheck_third (hm : loadOf b.drive.lineVoltage a = m) (hhigh : 2 * m ≤ 3 * (channelAt k b).rated)
    (hlow : (channelAt k b).lowAfter m b.drive.lowLine = 3) :
    completeCheck k a b = elementFault k .opened m (setChannel k ((channelAt k b).opened m) b) := by
  subst hm
  exact (if_neg (by simpa [readsHigh] using hhigh)).trans (if_pos hlow)

theorem completeCheck_passes (hm : loadOf b.drive.lineVoltage a = m) (hhigh : 2 * m ≤ 3 * (channelAt k b).rated)
    (hlow : (channelAt k b).lowAfter m b.drive.lowLine ≠ 3) : completeCheck k a b =
      let told := setChannel k ((channelAt k b).passed m ((channelAt k b).lowAfter m b.drive.lowLine)) b
      if (channelAt k b).health = .unverified then offer (.channelHealth k .ok (some m)) told else told := by
  subst hm
  refine ((if_neg (by simpa [readsHigh] using hhigh)).trans (if_neg hlow)).trans ?_
  dsimp only [Channel.passed]
  split <;> rfl

/-- A completed check writes its channel's record, the load stored in it, and then spares every channel (R75). -/
theorem completeCheck_writes (hm : loadOf b.drive.lineVoltage a = m) : ∃ c : Channel,
    (c.lastLoad = m ∧ c.checked = true ∧ c.starved = 0 ∧ c.allotment = (channelAt k b).allotment) ∧
      ∀ j, Spares j (setChannel k c b) (completeCheck k a b) := by
  rcases Nat.lt_or_ge (3 * (channelAt k b).rated) (2 * m) with hhigh | hhigh
  · refine ⟨(channelAt k b).tripped m, ⟨rfl, rfl, rfl, rfl⟩, fun j => ?_⟩
    rw [completeCheck_high hm hhigh]
    exact elementFault_spares k _ m j _
  · by_cases hlow : (channelAt k b).lowAfter m b.drive.lowLine = 3
    · refine ⟨(channelAt k b).opened m, ⟨rfl, rfl, rfl, rfl⟩, fun j => ?_⟩
      rw [completeCheck_third hm hhigh hlow]
      exact elementFault_spares k _ m j _
    · refine ⟨(channelAt k b).passed m ((channelAt k b).lowAfter m b.drive.lowLine), ⟨rfl, rfl, rfl, rfl⟩,
        fun j => ?_⟩
      rw [completeCheck_passes hm hhigh hlow]
      dsimp only
      split
      · exact offer_spares _ j _
      · exact .refl j _

/-! ### What the part holds once the tick is over -/

variable {b' : Block}

/-- A channel's record as its check wrote it, through what spares it. -/
theorem Spares.written {c : Channel} (hk : k < b.drive.channels.length) (h : Spares k (setChannel k c b) b') :
    ∃ want : Want, channelAt k b' = { c with want := want } :=
  exists_want_of_unwanted (h.channel.trans (by rw [channelAt_setChannel_self hk]))

/-- The check of a channel stores the load of its sample (R75). -/
theorem check_stores (hk : k < b.drive.channels.length) (hm : loadOf b.drive.lineVoltage a = m)
    (h : Spares k (completeCheck k a b) b') : (channelAt k b').lastLoad = m ∧ (channelAt k b').checked = true ∧
      (channelAt k b').starved = 0 ∧ (channelAt k b').allotment = (channelAt k b).allotment := by
  obtain ⟨c, hstored, hspares⟩ := completeCheck_writes (k := k) hm
  obtain ⟨want, hchannel⟩ := ((hspares k).trans h).written hk
  rw [hchannel]
  exact hstored

/-- A fault told in a tick is offered and raised at its end (R80). -/
theorem fault_told {health : Health} {c : Channel} (h : Spares k (elementFault k health m (setChannel k c b)) b') :
    offered (.channelHealth k health (some m)) b b' ∧
      raiseMade { kind := .elementFault, subject := b.station.strapId * 8 + k } b b' := by
  have hwritten := (setChannel_act k c b).grows
  exact ⟨offered_mono (offered_of_grows hwritten (elementFault_offers k health m _)) h.grows,
    raiseMade_of_grows hwritten
      (raiseMade_mono (elementFault_raises k health m (setChannel k c b)) (by simp) h.toCheckAct)⟩

/-- A high reading trips the channel, off for the rest of the window (R77, R80). -/
theorem check_trips (hk : k < b.drive.channels.length) (hm : loadOf b.drive.lineVoltage a = m)
    (h : Spares k (completeCheck k a b) b') (hhigh : 3 * (channelAt k b).rated < 2 * m) :
    ((channelAt k b').health = .tripped ∧ (channelAt k b').output = false ∧ (channelAt k b').cut = true ∧
      (channelAt k b').onTicks = (channelAt k b').drivenTicks ∧ (channelAt k b').lowCount = 0) ∧
      offered (.channelHealth k .tripped (some m)) b b' ∧
      raiseMade { kind := .elementFault, subject := b.station.strapId * 8 + k } b b' := by
  rw [completeCheck_high hm hhigh] at h
  obtain ⟨want, hchannel⟩ := ((elementFault_spares k _ m k _).trans h).written hk
  rw [hchannel]
  exact ⟨⟨rfl, rfl, rfl, rfl, rfl⟩, fault_told h⟩

theorem lowAfter_of_low {c : Channel} (hlow : 4 * m < c.rated) : c.lowAfter m false = c.lowCount + 1 := by
  simp [Channel.lowAfter, readsLow, hlow]

/-- The third low reading in a row opens the channel (R76, R80). -/
theorem check_opens (hk : k < b.drive.channels.length) (hm : loadOf b.drive.lineVoltage a = m)
    (h : Spares k (completeCheck k a b) b') (hhigh : 2 * m ≤ 3 * (channelAt k b).rated)
    (hlow : 4 * m < (channelAt k b).rated) (hline : b.drive.lowLine = false) (htwo : (channelAt k b).lowCount = 2) :
    (channelAt k b').lowCount = 3 ∧ (channelAt k b').health = .opened ∧
      offered (.channelHealth k .opened (some m)) b b' ∧
      raiseMade { kind := .elementFault, subject := b.station.strapId * 8 + k } b b' := by
  rw [completeCheck_third hm hhigh (by rw [hline, lowAfter_of_low hlow, htwo])] at h
  obtain ⟨want, hchannel⟩ := ((elementFault_spares k _ m k _).trans h).written hk
  rw [hchannel]
  exact ⟨rfl, rfl, fault_told h⟩

/-- A reading that neither trips nor opens leaves its low count; an UNVERIFIED channel is OK again, with its event (R76,
R77). -/
theorem check_passes (hk : k < b.drive.channels.length) (hm : loadOf b.drive.lineVoltage a = m)
    (h : Spares k (completeCheck k a b) b') (hhigh : 2 * m ≤ 3 * (channelAt k b).rated)
    (hlow : (channelAt k b).lowAfter m b.drive.lowLine ≠ 3) :
    (channelAt k b').lowCount = (channelAt k b).lowAfter m b.drive.lowLine ∧
      (channelAt k b').health = (if (channelAt k b).health = .unverified then .ok else (channelAt k b).health) ∧
      ((channelAt k b).health = .unverified → offered (.channelHealth k .ok (some m)) b b') := by
  rw [completeCheck_passes hm hhigh hlow] at h
  dsimp only at h
  split at h
  · obtain ⟨want, hchannel⟩ := ((offer_spares _ k _).trans h).written hk
    rw [hchannel]
    exact ⟨rfl, rfl, fun _ => offered_mono (offered_of_grows (setChannel_act k _ b).grows (offered_offer _ _)) h.grows⟩
  · obtain ⟨want, hchannel⟩ := h.written hk
    rw [hchannel]
    exact ⟨rfl, rfl, fun hunverified => absurd hunverified ‹_›⟩

end

theorem checkChannel_spares {j k : Nat} (h : j ≠ k) (t : Nat) (ms : List Nat) (b : Block) :
    Spares j b (checkChannel t ms k b) := by
  unfold checkChannel
  dsimp only
  split
  · obtain ⟨c, _, hspares⟩ := completeCheck_writes (k := k) (a := ms.getD k 0) (b := b) rfl
    exact (setChannel_spares h c b).trans (hspares j)
  · exact .refl j b

end Sys2Proof.Machine
end

section
/-! PROOFS. The drive tick: line sampled, channels switched, checks made in turn (R67, R71, R73 to R77, R80). -/

namespace Sys2Proof.Machine

/-! ## The tick before its checks (R71, R73) -/

/-- The line goes low at a sample (R73). -/
def goesLow (milliVolts : Nat) (b : Block) : Bool := decide (voltsOf milliVolts < b.cfg.lowLine) && !b.drive.lowLine

/-- A channel after the sample of the line (R73). -/
def Channel.sampled (low : Bool) (c : Channel) : Channel := { c with lowCount := if low then 0 else c.lowCount }

/-- The part with the line sampled and the channels switched, before the checks of the tick (R71, R73). -/
def driven (milliVolts : Nat) (b : Block) : Block :=
  (sampleLine milliVolts b).onDrive fun d =>
    { d with channels := numberChannels (Channel.drive b.drive.ticksDriven) 0 d.channels,
             ticksDriven := b.drive.ticksDriven + 1 }

theorem tick_eq {b : Block} (hr : b.runs = true) (ht : b.drive.ticksDriven < 200) (milliVolts : Nat) (ms : List Nat) :
    tick milliVolts ms b =
      (List.range 8).foldl (fun acc k => checkChannel b.drive.ticksDriven ms k acc) (driven milliVolts b) :=
  if_pos ⟨hr, ht⟩

theorem sampleLine_drive (milliVolts : Nat) (b : Block) : (sampleLine milliVolts b).drive =
    { b.drive with
      lineVoltage := voltsOf milliVolts, lowLine := decide (voltsOf milliVolts < b.cfg.lowLine),
      channels := b.drive.channels.map (Channel.sampled (goesLow milliVolts b)) } := by
  have hchannels : (if goesLow milliVolts b then b.drive.channels.map (fun c => { c with lowCount := 0 })
      else b.drive.channels) = b.drive.channels.map (Channel.sampled (goesLow milliVolts b)) := by
    cases goesLow milliVolts b
    · exact (List.map_id _).symm
    · rfl
  rw [← hchannels]
  unfold sampleLine
  dsimp only
  split <;> simp [goesLow]

theorem driven_drive (milliVolts : Nat) (b : Block) : (driven milliVolts b).drive =
    { b.drive with
      lineVoltage := voltsOf milliVolts, lowLine := decide (voltsOf milliVolts < b.cfg.lowLine),
      channels := b.drive.channels.mapIdx fun k c =>
        (c.sampled (goesLow milliVolts b)).drive b.drive.ticksDriven k,
      ticksDriven := b.drive.ticksDriven + 1 } := by
  have hswitched : numberChannels (Channel.drive b.drive.ticksDriven) 0
      (b.drive.channels.map (Channel.sampled (goesLow milliVolts b))) =
      b.drive.channels.mapIdx fun k c => (c.sampled (goesLow milliVolts b)).drive b.drive.ticksDriven k := by
    rw [numberChannels_eq_mapIdx]
    exact List.ext_getElem? fun j => by simp [Function.comp_def]
  simp [driven, sampleLine_drive, hswitched]

theorem driven_channel {k : Nat} {b : Block} (h : k < b.drive.channels.length) (milliVolts : Nat) :
    channelAt k (driven milliVolts b) =
      ((channelAt k b).sampled (goesLow milliVolts b)).drive b.drive.ticksDriven k := by
  simp [channelAt, driven_drive, h]

theorem sampleLine_onward (milliVolts : Nat) (b : Block) : Onward b (sampleLine milliVolts b) := by
  unfold sampleLine
  dsimp only
  split
  · exact .of_notices (Notices.refl b).onDrive rfl
  · exact .of_notices (Notices.refl b).onDrive.offer (by simp)

theorem driven_onward (milliVolts : Nat) (b : Block) : Onward b (driven milliVolts b) :=
  (sampleLine_onward milliVolts b).trans (.of_notices (Notices.refl _).onDrive rfl)

theorem driven_frame (milliVolts : Nat) (b : Block) : changesOnly [.drive, .port] b (driven milliVolts b) := by
  unfold driven sampleLine
  dsimp only
  split <;> simp [changesOnly_iff]

/-- A change of low line is told (R73). -/
theorem driven_offers {milliVolts : Nat} {b : Block} (h : decide (voltsOf milliVolts < b.cfg.lowLine) ≠ b.drive.lowLine) :
    offered (.lineStatus (voltsOf milliVolts)) b (driven milliVolts b) := by
  have hsampled : offered (.lineStatus (voltsOf milliVolts)) b (sampleLine milliVolts b) := by
    unfold sampleLine
    dsimp only
    rw [if_neg h]
    exact offered_offer_of_port rfl rfl
  exact offered_mono hsampled (Notices.refl _).onDrive.toEventsGrow

/-! ## The checks within the tick (R74) -/

/-- The part as the check of channel `k` finds it in a tick: the line sampled, the channel switched, and the checks before
this one done; those after it spare the channel (R71, R73, R74). -/
structure AtCheck (k milliVolts : Nat) (ms : List Nat) (s d : Block) : Prop where
  onward : Onward s d
  volts : d.drive.lineVoltage = voltsOf milliVolts
  line : d.drive.lowLine = decide (voltsOf milliVolts < s.cfg.lowLine)
  size : d.drive.channels.length = s.drive.channels.length
  channel : k < s.drive.channels.length → ∃ want : Want, channelAt k d =
    { ((channelAt k s).sampled (goesLow milliVolts s)).drive s.drive.ticksDriven k with want := want }
  rest : Spares k (checkChannel s.drive.ticksDriven ms k d) (tick milliVolts ms s)

theorem Spares.atCheck {k milliVolts : Nat} {ms : List Nat} {s d : Block} (h : Spares k (driven milliVolts s) d)
    (hrest : Spares k (checkChannel s.drive.ticksDriven ms k d) (tick milliVolts ms s)) : AtCheck k milliVolts ms s d where
  onward := (driven_onward milliVolts s).trans h.pages.onward
  volts := (congrArg Drive.lineVoltage h.drive :).trans (congrArg Drive.lineVoltage (driven_drive milliVolts s))
  line := (congrArg Drive.lowLine h.drive :).trans (congrArg Drive.lowLine (driven_drive milliVolts s))
  size := h.size.trans (by simp [driven_drive])
  channel := fun hk => exists_want_of_unwanted (h.channel.trans (by rw [driven_channel hk]))
  rest := hrest

theorem tick_atCheck {k milliVolts : Nat} {ms : List Nat} {s : Block} (hr : s.runs = true) (ht : s.drive.ticksDriven < 200)
    (hk : k < 8) : ∃ d, AtCheck k milliVolts ms s d := by
  obtain ⟨pre, post, hsplit⟩ := List.append_of_mem (List.mem_range.2 hk)
  have hnodup := List.nodup_range (n := 8)
  rw [hsplit, List.nodup_middle, List.nodup_cons, List.mem_append, not_or] at hnodup
  obtain ⟨⟨hpre, hpost⟩, _⟩ := hnodup
  have hother {ks : List Nat} (h : k ∉ ks) (d : Block) :
      Spares k d (ks.foldl (fun acc k => checkChannel s.drive.ticksDriven ms k acc) d) :=
    .foldl (fun j hj d => checkChannel_spares (by rintro rfl; exact h hj) _ ms d) d
  refine ⟨_, (hother hpre _).atCheck ?_⟩
  rw [tick_eq hr ht, hsplit, List.foldl_append, List.foldl_cons]
  exact hother hpost _

/-- All the checks of a tick. -/
theorem tick_checks {milliVolts : Nat} {ms : List Nat} {b : Block} (hr : b.runs = true) (ht : b.drive.ticksDriven < 200) :
    CheckAct (driven milliVolts b) (tick milliVolts ms b) := by
  rw [tick_eq hr ht]
  refine (Spares.foldl (k := 8) (fun j hj d => checkChannel_spares ?_ _ ms d) _).toCheckAct
  have := List.mem_range.1 hj
  omega

theorem tick_frame {milliVolts : Nat} {ms : List Nat} {b : Block} (hr : b.runs = true) (ht : b.drive.ticksDriven < 200) :
    changesOnly [.drive, .conveyor, .pages, .pager, .line, .port] b (tick milliVolts ms b) :=
  changesOnly_trans (changesOnly_mono (driven_frame milliVolts b) (by simp)) (tick_checks hr ht).frame

/-- Line, window, draw and inputs after a tick (R67, R73). -/
theorem tick_drive {milliVolts : Nat} {ms : List Nat} {b : Block} (hr : b.runs = true) (ht : b.drive.ticksDriven < 200) :
    { (tick milliVolts ms b).drive with channels := [] } =
      { b.drive with
        lineVoltage := voltsOf milliVolts, lowLine := decide (voltsOf milliVolts < b.cfg.lowLine), channels := [],
        ticksDriven := b.drive.ticksDriven + 1 } := by
  rw [(tick_checks hr ht).drive, driven_drive]

theorem tick_line {milliVolts : Nat} {ms : List Nat} {b : Block} (hr : b.runs = true) (ht : b.drive.ticksDriven < 200) :
    (tick milliVolts ms b).drive.lineVoltage = voltsOf milliVolts ∧
      (tick milliVolts ms b).drive.lowLine = decide (voltsOf milliVolts < b.cfg.lowLine) :=
  ⟨(congrArg Drive.lineVoltage (tick_drive hr ht) :), (congrArg Drive.lowLine (tick_drive hr ht) :)⟩

/-- Settles O14: the line sampled and the channels switched, then the checks, which spare a channel not due. -/
theorem driveTickSwitchesChannels : Obligations.DriveTickSwitchesChannels := by
  intro s milliVolts ms hr ht
  refine completes_of (tick milliVolts ms) rfl ?_
  have hdrive := tick_drive (milliVolts := milliVolts) (ms := ms) hr ht
  obtain ⟨hvolts, hline⟩ := tick_line (milliVolts := milliVolts) (ms := ms) hr ht
  refine ⟨hvolts, by rw [hvolts]; exact hline, (congrArg Drive.ticksDriven hdrive :), (congrArg Drive.draw hdrive :),
    (congrArg Drive.inputs hdrive :), fun hchanged => ?_, fun k hk h8 hplanned => ?_, tick_frame hr ht⟩
  · rw [hline] at hchanged
    rw [hvolts]
    exact offered_mono (driven_offers hchanged) (tick_checks hr ht).grows
  · obtain ⟨d, hcheck⟩ := tick_atCheck (milliVolts := milliVolts) (ms := ms) hr ht h8
    obtain ⟨w, hfound⟩ := hcheck.channel hk
    have hskipped : checkChannel s.block.drive.ticksDriven ms k d = d := by
      refine if_neg fun hdue => hplanned ?_
      rw [hfound] at hdue
      exact hdue.1
    have hrest := hcheck.rest
    rw [hskipped] at hrest
    obtain ⟨want, hchannel⟩ := exists_want_of_unwanted hrest.channel
    rw [hchannel, hfound, hline]
    refine ⟨?_, rfl, ?_⟩
    · simp [Channel.drive, Channel.sampled, goesLow]
    · dsimp only [Channel.drive, Channel.sampled]
      split <;> rfl

/-- Settles O15: the channel's own check by its reading, between those of the other channels. -/
theorem checksTripAndOpen : Obligations.ChecksTripAndOpen := by
  intro s milliVolts ms k hr ht h8 hlength hplanned hhealthy
  refine completes_of (tick milliVolts ms) rfl ?_
  obtain ⟨hvolts, hline⟩ := tick_line (milliVolts := milliVolts) (ms := ms) hr ht
  obtain ⟨d, hcheck⟩ := tick_atCheck (milliVolts := milliVolts) (ms := ms) hr ht h8
  obtain ⟨w, hfound⟩ := hcheck.channel (by omega)
  have hdue : checkChannel s.block.drive.ticksDriven ms k d = completeCheck k (ms.getD k 0) d := by
    refine if_pos ?_
    rw [hfound]
    exact ⟨hplanned, hhealthy⟩
  have hafter := hcheck.rest
  rw [hdue] at hafter
  have hsize : k < d.drive.channels.length := by rw [hcheck.size, hlength]; exact h8
  have hstart := hcheck.onward.toEventsGrow
  have hstrap := hcheck.onward.strap
  rw [hvolts, hline]
  extract_lets c c' m
  have hload : loadOf d.drive.lineVoltage (ms.getD k 0) = m := by rw [hcheck.volts]; rfl
  have hrated : (channelAt k d).rated = c.rated := by rw [hfound]; rfl
  have hhealth : (channelAt k d).health = c.health := by rw [hfound]; rfl
  have hallotment : (channelAt k d).allotment = c.allotment := by rw [hfound]; rfl
  obtain ⟨hlast, hchecked, hstarved, hallotted⟩ := check_stores hsize hload hafter
  refine ⟨hlast, hchecked, hstarved, hallotted.trans hallotment, fun hhigh => ?_, fun hhigh hlow hnotLow => ?_,
    fun hhigh hordinary => ?_, tick_frame hr ht⟩
  · obtain ⟨⟨htripped, houtput, hcut, hticks, hcount⟩, hoffered, hraised⟩ :=
      check_trips hsize hload hafter (by rwa [hrated])
    rw [hstrap] at hraised
    exact ⟨htripped, houtput, hcut, hticks, hcount, offered_of_grows hstart hoffered, raiseMade_of_grows hstart hraised⟩
  · have hcount : (channelAt k d).lowCount = c.lowCount := by
      rw [hfound]
      simp [Channel.drive, Channel.sampled, goesLow, hnotLow, c]
    rw [← hrated] at hhigh hlow
    rw [← hcheck.line] at hnotLow
    by_cases htwo : c.lowCount = 2
    · obtain ⟨hthree, hopened, hoffered, hraised⟩ :=
        check_opens hsize hload hafter hhigh hlow hnotLow (hcount.trans htwo)
      rw [hstrap] at hraised
      exact ⟨by rw [hthree, htwo],
        fun _ => ⟨hopened, offered_of_grows hstart hoffered, raiseMade_of_grows hstart hraised⟩⟩
    · have hone : (channelAt k d).lowAfter m d.drive.lowLine = c.lowCount + 1 := by
        rw [hnotLow, lowAfter_of_low hlow, hcount]
      obtain ⟨hcounted, _⟩ := check_passes hsize hload hafter hhigh (by omega)
      exact ⟨hcounted.trans hone, fun h => absurd h htwo⟩
  · have hzero : (channelAt k d).lowAfter m d.drive.lowLine = 0 := if_neg (by simpa [readsLow, hrated] using hordinary)
    obtain ⟨hcounted, hpassed, hoffered⟩ := check_passes hsize hload hafter (by rwa [hrated]) (by omega)
    rw [hhealth] at hpassed hoffered
    refine ⟨hpassed.trans ?_, hcounted.trans hzero, fun h => offered_of_grows hstart (hoffered h)⟩
    have hfine : c.health = .ok ∨ c.health = .unverified := by simpa [Channel.healthy] using hhealthy
    obtain h | h := hfine <;> rw [h] <;> rfl

end Sys2Proof.Machine
end

section
/-! PROOFS. What each command leaves of the channels that tasks hold (R93 to R98, R103). -/

namespace Sys2Proof.Machine

/-! ## The channels a task holds (R93) -/

/-- A channel that a task holds is in its mask or in its pending edit's, and the task is live. -/
theorem holds_iff {k : Task} {j : Nat} : k.holds.getLsbD j = true ↔
    k.state.live = true ∧ (k.mask.getLsbD j = true ∨ ∃ e, k.edit = some e ∧ e.mask.getLsbD j = true) := by
  cases hlive : k.state.live <;> cases hedit : k.edit <;> simp [Task.holds, hlive, hedit]

theorem holdsAt_iff {t j : Nat} {b : Block} :
    (holdsAt t b).getLsbD j = true ↔ ∃ k, taskAt t b = some k ∧ k.holds.getLsbD j = true := by
  cases hat : taskAt t b <;> simp [holdsAt, hat]

theorem channelsOwned_iff {b : Block} : channelsOwned b = true ↔ ∀ t < 24, ∀ u < 24, ∀ j,
    (holdsAt t b).getLsbD j = true → (holdsAt u b).getLsbD j = true → t = u := by
  have hdisjoint (t u : Nat) : holdsAt t b &&& holdsAt u b = 0 ↔
      ∀ j, (holdsAt t b).getLsbD j = true → (holdsAt u b).getLsbD j = false := by
    refine ⟨fun h j ht => ?_, fun h => BitVec.eq_of_getLsbD_eq fun j _ => ?_⟩
    · simpa [ht] using congrArg (fun m : Mask8 => m.getLsbD j) h
    · cases ht : (holdsAt t b).getLsbD j <;> simp [ht, h j]
  simp only [channelsOwned, List.all_eq_true, List.mem_range, Bool.or_eq_true, decide_eq_true_eq, Config.taskEntries,
    hdisjoint]
  refine forall₂_congr fun t _ => forall₂_congr fun u _ => ⟨fun h j ht hu => ?_, fun h => ?_⟩
  · exact h.resolve_right fun hno => by simp [hno j ht] at hu
  · refine or_iff_not_imp_left.2 fun hne j ht => ?_
    cases hu : (holdsAt u b).getLsbD j
    · rfl
    · exact absurd (h j ht hu) hne

/-- No task holds a channel that it did not hold before. -/
def HoldsFewer (b b' : Block) : Prop := ∀ t j, (holdsAt t b').getLsbD j = true → (holdsAt t b).getLsbD j = true

theorem HoldsFewer.owned {b b' : Block} (h : HoldsFewer b b') (hb : channelsOwned b = true) : channelsOwned b' = true :=
  channelsOwned_iff.2 fun t ht u hu j htj huj => channelsOwned_iff.1 hb t ht u hu j (h t j htj) (h u j huj)

theorem HoldsFewer.refl (b : Block) : HoldsFewer b b := fun _ _ h => h

theorem HoldsFewer.trans {b c d : Block} (h : HoldsFewer b c) (g : HoldsFewer c d) : HoldsFewer b d :=
  fun t j hj => h t j (g t j hj)

theorem HoldsFewer.foldl {α : Type} {f : Block → α → Block} (h : ∀ b x, HoldsFewer b (f b x)) (xs : List α) (b : Block) :
    HoldsFewer b (xs.foldl f b) := by
  induction xs generalizing b with
  | nil => exact .refl b
  | cons x rest ih => exact (h b x).trans (ih _)

theorem taskAt_of_tasks {b b' : Block} (h : b'.plan.tasks = b.plan.tasks) (t : Nat) : taskAt t b' = taskAt t b := by
  rw [taskAt, h, taskAt]

theorem HoldsFewer.of_tasks {b b' : Block} (h : b'.plan.tasks = b.plan.tasks) : HoldsFewer b b' :=
  fun t j hj => by rwa [holdsAt, taskAt_of_tasks h] at hj

theorem HoldsFewer.of_plan {b b' : Block} (h : b'.plan = b.plan) : HoldsFewer b b' := .of_tasks (by rw [h])

theorem HoldsFewer.of_frame {ps : List Part} {b b' : Block} (h : changesOnly ps b b') (hp : .plan ∉ ps) : HoldsFewer b b' :=
  .of_plan (h .plan hp)

/-- A task rewritten that holds no channel it did not hold. -/
theorem setTask_holdsFewer {t : Nat} {k x : Task} {b : Block} (hat : taskAt t b = some k)
    (h : ∀ j, x.holds.getLsbD j = true → k.holds.getLsbD j = true) : HoldsFewer b (setTask t (some x) b) := by
  intro u j hj
  by_cases hu : u = t
  · subst hu
    rw [holdsAt_iff, taskAt_setTask hat] at hj
    obtain ⟨y, hy, hj⟩ := hj
    exact holdsAt_iff.2 ⟨k, hat, h j (Option.some.inj hy ▸ hj)⟩
  · rwa [holdsAt, taskAt_setTask_ne hu] at hj

/-- What a task holds while it is live (R93). -/
def Task.claims (k : Task) : Mask8 × Option Edit := (k.mask, k.edit)

theorem holds_of_claims {k x : Task} (hc : x.claims = k.claims) (hlive : k.state.live = true) {j : Nat}
    (h : x.holds.getLsbD j = true) : k.holds.getLsbD j = true := by
  obtain ⟨hmask, hedit⟩ : x.mask = k.mask ∧ x.edit = k.edit := Prod.mk.injEq .. ▸ hc
  rw [holds_iff, hmask, hedit] at h
  exact holds_iff.2 ⟨hlive, h.2⟩

theorem live_of_runs {x : TaskState} (h : x.runs = true) : x.live = true := by
  revert h
  cases x <;> decide

theorem holds_of_ended {k : Task} (h : k.state.live = false) (j : Nat) : k.holds.getLsbD j = false := by
  simp [Task.holds, h]

/-! ## Edits and task seconds (R96, R103) -/

/-- An edit that applies leaves the task its new mask, which it held (R95, R96). -/
theorem editedRecord_holds {k : Task} {e : Edit} {b : Block} (hedit : k.edit = some e) {j : Nat}
    (h : (editedRecord k e b).holds.getLsbD j = true) : k.holds.getLsbD j = true := by
  have hnone : (editedRecord k e b).edit = none := by
    unfold editedRecord reresolve
    repeat' split
    all_goals rfl
  obtain ⟨hlive, hmask | ⟨e', he', _⟩⟩ := holds_iff.1 h
  · rw [editedRecord_mask] at hmask
    refine holds_iff.2 ⟨?_, .inr ⟨e, hedit, hmask⟩⟩
    by_cases hruns : k.state.runs = true
    · exact live_of_runs hruns
    · rwa [editedRecord, if_neg fun hx => hruns hx.1] at hlive
  · rw [hnone] at he'
    cases he'

theorem applyEdit_holdsFewer (t : Nat) (b : Block) : HoldsFewer b (applyEdit t b) := by
  cases hat : taskAt t b with
  | none =>
    rw [applyEdit_of_none (by simp [hat])]
    exact .refl b
  | some k =>
    cases hedit : k.edit with
    | none =>
      rw [applyEdit_of_none (by simp [hat, hedit])]
      exact .refl b
    | some e =>
      rw [applyEdit_eq hat hedit]
      exact (setTask_holdsFewer hat fun j => editedRecord_holds hedit).trans
        (.of_plan (by rw [testPlates_plan, editReleases_plan]))

theorem advance_claims (v : TaskView) (n : Nat) (k : Task) : (Task.advance v n k).claims = k.claims := by
  induction n generalizing k with
  | zero => rfl
  | succ n ih =>
    rw [Task.advance]
    split
    · exact ih (k.nextStage v)
    · rfl

theorem ranTask_claims (k : Task) (d : Direct) (b : Block) : (ranTask k d b).claims = k.claims := by
  have htested (v : TaskView) (x : Task) : (plateTest v x b).1.claims = x.claims := by
    unfold plateTest
    split <;> rfl
  have hentered (v : TaskView) : (k.enterHold v).claims = k.claims := by
    unfold Task.enterHold
    split <;> rfl
  exact (htested _ _).trans ((advance_claims _ _ _).trans (hentered _))

theorem presentWants_plan (v : TaskView) (k : Task) (b : Block) : (presentWants v k b).plan = b.plan := by
  unfold presentWants
  exact foldl_keeps Block.plan _ _ fun b k => by simp

theorem setTask_tasks_of_plan {t : Nat} {b b' : Block} (h : b'.plan = b.plan) (x : Option Task) :
    (setTask t x b').plan.tasks = (setTask t x b).plan.tasks := by
  simp [setTask, h]

/-- The task table after a step that gives task `t` a record with the claims of `k`, or leaves the table. -/
def Reclaims (t : Nat) (k : Task) (b b' : Block) : Prop :=
  b'.plan.tasks = b.plan.tasks ∨ ∃ x : Task, x.claims = k.claims ∧ b'.plan.tasks = (setTask t (some x) b).plan.tasks

theorem Reclaims.holdsFewer {t : Nat} {k : Task} {b b' : Block} (h : Reclaims t k b b') (hat : taskAt t b = some k)
    (hlive : k.state.live = true) : HoldsFewer b b' := by
  obtain hsame | ⟨x, hclaims, htasks⟩ := h
  · exact .of_tasks hsame
  · exact (setTask_holdsFewer hat fun j => holds_of_claims hclaims hlive).trans (.of_tasks htasks)

theorem faultTask_reclaims {t : Nat} {k x : Task} (hc : x.claims = k.claims) (why : TaskFault) (b : Block) :
    Reclaims t k b (faultTask t x why b) :=
  .inr ⟨x.toFault why, hc, by rw [faultTask, releaseWants_plan]⟩

theorem testAndRun_reclaims {t : Nat} {k x : Task} (hc : x.claims = k.claims) (b : Block) :
    Reclaims t k b (testAndRun t x b) := by
  unfold testAndRun
  split
  · exact faultTask_reclaims hc _ b
  · split
    · rename_i d _
      have hplan : (presentWants (viewOf x d b) (ranTask x d b) (plateTest (viewOf x d b)
          (Task.advance (viewOf x d b) (d.stages.length + 1) (x.enterHold (viewOf x d b))) b).2).plan = b.plan := by
        rw [presentWants_plan, plateTest]
        split
        · dsimp only
          split <;> simp
        · rfl
      exact .inr ⟨_, by exact (ranTask_claims x d b).trans hc, setTask_tasks_of_plan (t := t) hplan _⟩
    · exact .inl rfl

theorem resolveTask_reclaims (t : Nat) (k : Task) (b : Block) : Reclaims t k b (resolveTask t k b) := by
  unfold resolveTask
  dsimp only
  split
  · exact faultTask_reclaims rfl _ b
  · split
    · exact faultTask_reclaims rfl _ b
    · exact testAndRun_reclaims rfl b

theorem taskWork_holdsFewer (t : Nat) (b : Block) : HoldsFewer b (taskWork t b) := by
  unfold taskWork
  split
  · rename_i k hat
    cases hs : k.state with
    | waiting => exact (resolveTask_reclaims t k b).holdsFewer hat (by rw [hs]; rfl)
    | heating | holding | finishing | ready => exact (testAndRun_reclaims rfl b).holdsFewer hat (by rw [hs]; rfl)
    | passed | faulted | cancelled => exact .refl b
  · exact .refl b

theorem taskSecond_holdsFewer (t : Nat) (b : Block) : HoldsFewer b (taskSecond t b) := by
  have hworked : HoldsFewer b (taskWork t (applyEdit t b)) := (applyEdit_holdsFewer t b).trans (taskWork_holdsFewer t _)
  unfold taskSecond
  split
  · split
    · dsimp only
      split
      · exact hworked.trans (.of_plan (taskEvent_plan _ _ _))
      · exact hworked
    · exact .refl b
  · exact .refl b

/-- The course changes that follow the task seconds leave the task table (R103). -/
theorem CourseAct.tasks {b b' : Block} (h : CourseAct b b') : b'.plan.tasks = b.plan.tasks := by
  have htasks := congrArg Plan.tasks h.plan
  exact htasks

theorem engineSecond_holdsFewer (b : Block) : HoldsFewer b (engineSecond b) := by
  have hran : HoldsFewer (fractioned b) (runTasks taskIndices (fractioned b)) :=
    .foldl (fun b t => taskSecond_holdsFewer t b) taskIndices _
  have hchanges : CourseAct (runTasks taskIndices (fractioned b))
      (taskIndices.foldl (fun acc t => handOn b.plan.tasks t acc) (runTasks taskIndices (fractioned b))) :=
    .foldl (fun b t => handOn_act _ t b) taskIndices _
  have hfraction : HoldsFewer b (fractioned b) := .of_tasks rfl
  rw [engineSecond_eq]
  exact (hfraction.trans hran).trans (.of_tasks hchanges.tasks)

theorem runSecond_holdsFewer (inputs : List SensorInput) (b : Block) : HoldsFewer b (runSecond inputs b) := by
  by_cases hheld : b.station.resetHeld = true
  · rw [runSecond, if_pos hheld]
    exact .refl b
  · have hfree : b.station.resetHeld = false := by simpa using hheld
    by_cases hworks : b.station.state.works = true
    · rw [runSecond_at_work hfree hworks]
      exact (((HoldsFewer.of_plan (secondRead_plan inputs b)).trans (engineSecond_holdsFewer _)).trans
        (.of_tasks (coursesSecond_act _).tasks)).trans (.of_plan (conveyorSecond_rests _).plan)
    · rw [runSecond_at_rest hfree (by simpa using hworks)]
      exact .of_tasks rfl

theorem editApplies_holdsFewer (t : Nat) (b : Block) : HoldsFewer b (editApplies t b) := by
  have hnote (x : TaskState) (d : Block) : (noteTask t x d).plan = d.plan := by
    unfold noteTask
    split
    · exact taskEvent_plan t x d
    · rfl
  unfold editApplies
  split
  · split
    · refine .trans (c := applyEdit t (b.onStation fun s => { s with clock := (s.clock + 1) % Config.clockModulus }))
        (.trans (.of_tasks rfl) (applyEdit_holdsFewer t _)) ?_
      exact .of_tasks ((courseChange_act _ _).tasks.trans (by rw [hnote]))
    · exact .refl b
  · exact .refl b

end Sys2Proof.Machine
end

section
/-! PROOFS. No command gives one channel to two tasks (R93 to R95). -/

namespace Sys2Proof.Machine

/-! ## The channel map (R93) -/

theorem taskAt_eq (t : Nat) (b : Block) : taskAt t b = (b.plan.tasks[t]?).join := by
  simp only [taskAt, List.getD_eq_getElem?_getD]
  cases b.plan.tasks[t]? <;> rfl

theorem taskAt_lt {t : Nat} {k : Task} {b : Block} (h : taskAt t b = some k) : t < b.plan.tasks.length := by
  by_contra hge
  rw [taskAt, List.getD_eq_default _ _ (Nat.le_of_not_lt hge)] at h
  cases h

theorem taskAt_getElem {t : Nat} {b : Block} (h : t < b.plan.tasks.length) : taskAt t b = b.plan.tasks[t] := by
  simp [taskAt, List.getD_eq_getElem?_getD, h]

theorem some_mem_tasks {k : Task} {b : Block} : some k ∈ b.plan.tasks ↔ ∃ t, taskAt t b = some k := by
  simp [List.mem_iff_getElem?, taskAt_eq, Option.join_eq_some_iff]

theorem holder_eq_none {j : Nat} {b : Block} : holder j b = none ↔ ∀ t, (holdsAt t b).getLsbD j = false := by
  simp only [holder, List.findIdx?_eq_none_iff]
  refine ⟨fun h t => ?_, fun h e he => ?_⟩
  · cases hat : taskAt t b with
    | none => simp [holdsAt, hat]
    | some k => simpa [holdsAt, hat] using h _ (some_mem_tasks.2 ⟨t, hat⟩)
  · cases e with
    | none => rfl
    | some k =>
      obtain ⟨t, hat⟩ := some_mem_tasks.1 he
      simpa [holdsAt, hat] using h t

theorem holds_of_holder {j t : Nat} {b : Block} (h : holder j b = some t) :
    (holdsAt t b).getLsbD j = true ∧ t < b.plan.tasks.length := by
  obtain ⟨hlt, hholds, _⟩ := List.findIdx?_eq_some_iff_getElem.1 h
  refine ⟨?_, hlt⟩
  rw [← taskAt_getElem hlt] at hholds
  cases hat : taskAt t b with
  | none => simp [hat] at hholds
  | some k => simpa [holdsAt, hat] using hholds

/-- While no channel is held twice, the channels of a mask that is not busy for a task are held by no other (R94, R95). -/
theorem free_of_not_busy {mask : Mask8} {self : Option Nat} {b : Block} (howned : channelsOwned b = true)
    (hself : ∀ t, self = some t → t < 24) (h : maskBusy mask self b = false) {u j : Nat} (hu : u < 24)
    (hne : some u ≠ self) (hj : mask.getLsbD j = true) : (holdsAt u b).getLsbD j = false := by
  have hfree := List.any_eq_false.1 h j (mem_members.2 hj)
  cases hholder : holder j b with
  | none => exact holder_eq_none.1 hholder u
  | some v =>
    have hv : some v = self := by simpa [hholder] using hfree
    by_contra hheld
    rw [Bool.not_eq_false] at hheld
    obtain rfl := channelsOwned_iff.1 howned u hu v (hself v hv.symm) j hheld (holds_of_holder hholder).1
    exact hne hv

/-- A task written that holds no channel of the others. -/
theorem setTask_owned {t : Nat} {x : Task} {b : Block} (hb : channelsOwned b = true)
    (h : ∀ u < 24, u ≠ t → ∀ j, x.holds.getLsbD j = true → (holdsAt u b).getLsbD j = false) :
    channelsOwned (setTask t (some x) b) = true := by
  have hself {j : Nat} (hj : (holdsAt t (setTask t (some x) b)).getLsbD j = true) : x.holds.getLsbD j = true := by
    obtain ⟨y, hy, hj⟩ := holdsAt_iff.1 hj
    obtain rfl := Option.some.inj (eq_of_taskAt_setTask hy)
    exact hj
  have hother {u : Nat} (hu : u ≠ t) : holdsAt u (setTask t (some x) b) = holdsAt u b := by
    rw [holdsAt, taskAt_setTask_ne hu, holdsAt]
  refine channelsOwned_iff.2 fun u hu v hv j huj hvj => ?_
  by_cases hut : u = t <;> by_cases hvt : v = t
  · exact hut.trans hvt.symm
  · subst hut
    rw [hother hvt, h v hv hvt j (hself huj)] at hvj
    cases hvj
  · subst hvt
    rw [hother hut, h u hu hut j (hself hvj)] at huj
    cases huj
  · rw [hother hut] at huj
    rw [hother hvt] at hvj
    exact channelsOwned_iff.1 hb u hu v hv j huj hvj

/-! ## The owners of the host's commands -/

/-- The owner of a command that it accepts gives no channel to two tasks. -/
def ownerOwns (own : Block → Answer) : Prop :=
  ∀ b b' data, own b = .ok (b', data) → channelsOwned b = true → channelsOwned b' = true

/-- An owner that gives no task a channel. -/
theorem ownerOwns_of_fewer {own : Block → Answer} (h : ∀ b b' data, own b = .ok (b', data) → HoldsFewer b b') :
    ownerOwns own := fun b b' data ho => (h b b' data ho).owned

theorem checked_clear {fails : List (Bool × Reason)} {accept : Answer} {r : Block × List Byte}
    (h : checked fails accept = .ok r) : ∀ f ∈ fails, f.1 = false := by
  cases hfind : fails.find? fun f => f.1 with
  | none => simpa using hfind
  | some f => simp [checked, hfind] at h

theorem transfer_owns {own : Block → Answer} (h : ownerOwns own) (code : Nat) (bad : Bool) (gate : StateGate) (dish : Bool)
    (b : Block) (hb : channelsOwned b = true) : channelsOwned (transfer code bad gate dish own b) = true := by
  unfold transfer
  split
  · cases hg : gates bad gate dish own (deliver b) with
    | error r =>
      simp only [conclude, hg]
      exact (HoldsFewer.of_plan rfl).owned hb
    | ok x =>
      obtain ⟨after, data⟩ := x
      have hown : own (deliver b) = .ok (after, data) := by
        unfold gates at hg
        split_ifs at hg
        exact hg
      simp only [conclude, hg]
      have hafter : channelsOwned after = true := h _ _ _ hown hb
      exact (HoldsFewer.of_plan (b := after) rfl).owned hafter
  · exact hb

theorem ownReadEvent_owns : ownerOwns ownReadEvent := ownerOwns_of_fewer fun b b' data h => by
  unfold ownReadEvent at h
  split at h <;> cases h <;> exact .of_plan rfl

theorem ownReadTable_owns (selector : Nat) : ownerOwns (ownReadTable selector) := ownerOwns_of_fewer fun b b' data h => by
  unfold ownReadTable at h
  split at h <;> cases h
  exact .refl b

theorem ownPostProfile_owns (i : Byte) (p : ProfileFields) : ownerOwns (ownPostProfile i p) :=
  ownerOwns_of_fewer fun b b' data h => by
    unfold ownPostProfile at h
    dsimp only at h
    split at h
    · cases h
    · cases checked_ok h
      exact .of_tasks rfl

theorem ownDeleteProfile_owns (i : Byte) : ownerOwns (ownDeleteProfile i) := ownerOwns_of_fewer fun b b' data h => by
  cases checked_ok h
  exact .of_tasks rfl

theorem ownPostCourse_owns (tag version : Byte) (offset : Word16) (lead : Option Word16) :
    ownerOwns (ownPostCourse tag version offset lead) := ownerOwns_of_fewer fun b b' data h => by
  unfold ownPostCourse at h
  dsimp only at h
  repeat' split at h
  all_goals cases h
  exact .of_tasks ((setCourse_act _ _ b).trans (courseChange_act _ _)).tasks

theorem ownSetLock_owns (tag : Byte) (lock : Bool) : ownerOwns (ownSetLock tag lock) :=
  ownerOwns_of_fewer fun b b' data h => by
    unfold ownSetLock at h
    split at h <;> cases h
    exact .of_tasks rfl

/-- A task whose course is deleted is freed (R92). -/
theorem freeTasks_holdsFewer (f : Option Task → Bool) {b b' : Block}
    (h : b'.plan.tasks = b.plan.tasks.map fun e => if f e then none else e) : HoldsFewer b b' := by
  intro t j hj
  obtain ⟨k, hk, hj⟩ := holdsAt_iff.1 hj
  rw [taskAt_eq, h, List.getElem?_map, Option.join_eq_some_iff, Option.map_eq_some_iff] at hk
  obtain ⟨e, he, hfreed⟩ := hk
  split at hfreed
  · cases hfreed
  · exact holdsAt_iff.2 ⟨k, by rw [taskAt_eq, he, hfreed]; rfl, hj⟩

theorem ownDeleteCourse_owns (tag : Byte) : ownerOwns (ownDeleteCourse tag) := ownerOwns_of_fewer fun b b' data h => by
  unfold ownDeleteCourse at h
  dsimp only at h
  repeat' split at h
  all_goals cases h
  exact freeTasks_holdsFewer _ (by simp only [markCourse_plan, resolved_plan]; rfl)

theorem ownShiftCourse_owns (tag : Byte) (offset : Word16) (hold : Byte) : ownerOwns (ownShiftCourse tag offset hold) :=
  ownerOwns_of_fewer fun b b' data h => by
    unfold ownShiftCourse at h
    split at h <;> cases h
    exact .of_tasks ((courseChange_act _ _).tasks.trans (by rw [queueShift_plan]; rfl))

/-- A task passed holds nothing (R93, R98). -/
theorem passTask_holdsFewer (i t : Nat) (b : Block) : HoldsFewer b (passTask i t b) := by
  unfold passTask
  split
  · rename_i k hat
    split
    · refine (setTask_holdsFewer (x := { k with state := .passed, edit := none }) hat fun j hj => ?_).trans
        (.of_plan (by rw [taskEvent_plan, releaseWants_plan]))
      rw [holds_of_ended rfl] at hj
      cases hj
    · exact .refl b
  · exact .refl b

theorem ownMarkPassed_owns (tag : Byte) : ownerOwns (ownMarkPassed tag) := ownerOwns_of_fewer fun b b' data h => by
  unfold ownMarkPassed at h
  split at h
  · cases h
  · rename_i i c _
    split at h
    · cases h
      exact .refl b
    · simp only [Except.ok.injEq, Prod.mk.injEq] at h
      rw [← h.1]
      have hcourse : HoldsFewer b (setCourse i (some { c with passed := true }) b) := .of_tasks rfl
      have hpassed : HoldsFewer (setCourse i (some { c with passed := true }) b) _ :=
        .foldl (f := fun acc t => passTask i t acc) (fun b t => passTask_holdsFewer i t b) taskIndices _
      exact (hcourse.trans hpassed).trans
        (.of_tasks ((courseChange_act i _).tasks.trans (congrArg Plan.tasks (testPlates_plan i _))))

theorem ownPostTask_owns (tag profile : Byte) (mask : Mask8) (sensor : Byte) (plates : Word16) :
    ownerOwns (ownPostTask tag profile mask sensor plates) := by
  intro b b' data h hb
  have hbusy : maskBusy mask none b = false := checked_clear h (maskBusy mask none b, .channelBusy) (by simp)
  replace h := checked_ok h
  split at h <;> cases h
  refine (HoldsFewer.of_tasks (courseChange_act _ _).tasks).owned (setTask_owned hb fun u hu _ j hj => ?_)
  refine free_of_not_busy hb (by simp) hbusy hu (by simp) ?_
  simpa [Task.holds, TaskState.live] using hj

theorem ownEditTask_owns (i profile : Byte) (mask : Mask8) (sensor : Byte) (plates : Word16) :
    ownerOwns (ownEditTask i profile mask sensor plates) := by
  intro b b' data h hb
  have hbusy : maskBusy mask (some i.toNat) b = false :=
    checked_clear h (maskBusy mask (some i.toNat) b, .channelBusy) (by simp)
  have hi : i.toNat < 24 := by
    have hfields := checked_clear h (_, .badValue) List.mem_cons_self
    have hle : i.toNat ≤ 23 := by simpa using (Bool.or_eq_false_iff.1 hfields).1
    omega
  replace h := checked_ok h
  split at h
  · rename_i k hat
    cases h
    refine setTask_owned hb fun u hu hne j hj => ?_
    obtain ⟨hlive, hmask | ⟨e, he, hmask⟩⟩ := holds_iff.1 hj
    · cases hheld : (holdsAt u b).getLsbD j with
      | false => rfl
      | true =>
        have hself : (holdsAt i.toNat b).getLsbD j = true := holdsAt_iff.2 ⟨k, hat, holds_iff.2 ⟨hlive, .inl hmask⟩⟩
        exact absurd (channelsOwned_iff.1 hb u hu _ hi j hheld hself) hne
    · cases he
      exact free_of_not_busy hb (fun t ht => Option.some.inj ht ▸ hi) hbusy hu (by simpa using hne) hmask
  · cases h

theorem ownCancelTask_owns (i : Byte) : ownerOwns (ownCancelTask i) := ownerOwns_of_fewer fun b b' data h => by
  replace h := checked_ok h
  split at h
  · rename_i k hat
    cases h
    refine (setTask_holdsFewer (x := { k with state := .cancelled, edit := none }) hat fun j hj => ?_).trans (.of_tasks ?_)
    · rw [holds_of_ended rfl] at hj
      cases hj
    · rw [testPlates_plan, (courseChange_act _ _).tasks, taskEvent_plan, releaseWants_plan]
  · cases h

theorem ownSetPlates_owns (i : Byte) (loaded : Word16) : ownerOwns (ownSetPlates i loaded) :=
  ownerOwns_of_fewer fun b b' data h => by
    replace h := checked_ok h
    split at h
    · rename_i k hat
      cases h
      exact (setTask_holdsFewer (x := { k with platesLoaded := loaded.toNat }) hat fun j hj => hj).trans
        (.of_plan (testPlates_plan _ _))
    · cases h

theorem ownRaiseStaffCall_owns (subject priority level : Byte) : ownerOwns (ownRaiseStaffCall subject priority level) :=
  ownerOwns_of_fewer fun b b' data h => by
    unfold ownRaiseStaffCall at h
    split at h <;> cases h
    exact .of_plan (by simp)

theorem ownClearStaffCall_owns (subject : Byte) : ownerOwns (ownClearStaffCall subject) :=
  ownerOwns_of_fewer fun b b' data h => by
    unfold ownClearStaffCall at h
    repeat' split at h
    all_goals cases h
    exact .of_plan (by simp)

theorem ownClearFault_owns (channel : Byte) : ownerOwns (ownClearFault channel) := ownerOwns_of_fewer fun b b' data h => by
  unfold ownClearFault at h
  dsimp only at h
  split at h <;> cases h
  split
  · exact .refl b
  · exact .of_frame (mendChannel_frame _ _ b) (by decide)

theorem ownRackLoaded_owns (kind plates : Byte) : ownerOwns (ownRackLoaded kind plates) :=
  ownerOwns_of_fewer fun b b' data h => by
    unfold ownRackLoaded at h
    repeat' split at h
    all_goals cases h
    exact .of_plan rfl

theorem dropUntracked_plan (b : Block) : (dropUntracked b).plan = b.plan := by
  unfold dropUntracked
  dsimp only
  split <;> simp

theorem removeHead_plan (r : Rack) (rest : List Rack) (b : Block) : (removeHead r rest b).plan = b.plan := by
  have hjam (d : Block) : (endJam d).plan = d.plan := by
    unfold endJam
    split <;> simp
  have hempty (d : Block) : (settleEmpty d).plan = d.plan := by
    unfold settleEmpty
    split <;> simp
  unfold removeHead
  dsimp only
  split <;> simp [hjam, hempty, dropUntracked_plan, appendRack]

theorem ownRackRemoved_owns (rack : RackField) : ownerOwns (ownRackRemoved rack) := ownerOwns_of_fewer fun b b' data h => by
  unfold ownRackRemoved removeUntracked removeNumbered at h
  repeat' split at h
  all_goals cases h
  · exact .of_plan (by rw [deriveConveyor_plan, dropUntracked_plan])
  · exact .of_plan (removeHead_plan _ _ b)

theorem ownManualAdvance_owns : ownerOwns ownManualAdvance := ownerOwns_of_fewer fun b b' data h => by
  unfold ownManualAdvance at h
  split at h <;> cases h
  exact .of_plan rfl

theorem ownRunRequest_owns (run : Bool) : ownerOwns (ownRunRequest run) :=
  ownerOwns_of_fewer fun b b' data h => by
    cases h
    exact .of_plan (by simp)

/-- Plan clear frees every task (R100). -/
theorem ownPlanClear_owns : ownerOwns ownPlanClear := by
  rintro b b' data ⟨⟩ _
  have hfree (t : Nat) : taskAt t (planClear b) = none := by
    rw [planClear_eq, taskAt_of_plan ((markCourse_plan _).trans ((resolveAll_work _ _).frame .plan (by decide)))]
    exact (planEmptied_plan b t).2.2
  exact channelsOwned_iff.2 fun t _ u _ j hj _ => by simp [holdsAt, hfree] at hj

end Sys2Proof.Machine
end

section
/-! PROOFS. No step gives one channel to two tasks (R93 to R95). -/

namespace Sys2Proof.Machine

/-! ## Commands that leave the plan -/

theorem checkSettings_plan (b : Block) : (checkSettings b).plan = b.plan := by
  unfold checkSettings
  repeat' split
  all_goals rfl

theorem loopbackDone_plan (passed : Bool) (inputs : List SensorInput) (b : Block) :
    (loopbackDone passed inputs b).plan = b.plan := by
  unfold loopbackDone
  split
  · split
    · exact enterListen_frame inputs b .plan (by decide)
    · rfl
  · rfl

theorem tick_plan (volts : Nat) (amps : List Nat) (b : Block) : (tick volts amps b).plan = b.plan := by
  by_cases h : b.runs ∧ b.drive.ticksDriven < Config.windowTicks
  · exact tick_frame h.1 h.2 .plan (by decide)
  · rw [tick, if_neg h]

theorem windowStart_plan (b : Block) : (windowStart b).plan = b.plan := by
  by_cases h : b.runs ∧ b.drive.ticksDriven = Config.windowTicks
  · exact windowStart_frame h.1 h.2 .plan (by decide)
  · rw [windowStart, if_neg h]

theorem whenRuns_plan {f : Block → Block} (h : ∀ b, (f b).plan = b.plan) (b : Block) : (whenRuns f b).plan = b.plan := by
  unfold whenRuns
  split
  · exact h b
  · rfl

theorem whenDish_plan {f : Block → Block} (h : ∀ b, (f b).plan = b.plan) (b : Block) : (whenDish f b).plan = b.plan := by
  unfold whenDish
  split
  · exact h b
  · rfl

theorem tenth_plan (b : Block) : (tenth b).plan = b.plan := by
  unfold tenth
  split <;> simp

theorem pulse_plan (b : Block) : (pulse b).plan = b.plan := by simp [pulse]

theorem rackEnters_plan (b : Block) : (rackEnters b).plan = b.plan := by
  unfold rackEnters
  dsimp only
  split <;> simp [appendRack]

theorem rackLeaves_plan (b : Block) : (rackLeaves b).plan = b.plan := by
  unfold rackLeaves endJam settleEmpty
  dsimp only
  repeat' split
  all_goals simp

theorem setRadio_plan (r : Radio) (b : Block) : (setRadio r b).plan = b.plan := by
  unfold setRadio
  split <;> simp

theorem radioStatus_plan (r : Radio) (b : Block) : (radioStatus r b).plan = b.plan := by
  unfold radioStatus
  split <;> simp [setRadio_plan]

theorem sendHead_plan (b : Block) : (sendHead b).plan = b.plan := by
  unfold sendHead
  repeat' split
  all_goals simp

theorem taken_plan (c : Option Cause) (g : Nat) (b : Block) : (taken c g b).plan = b.plan := by
  unfold taken
  split <;> simp

theorem sendExpired_plan (b : Block) : (sendExpired b).plan = b.plan := by
  unfold sendExpired
  repeat' split
  all_goals simp [setRadio_plan]

theorem radioAcks_plan (c : Option Cause) (g : Nat) (b : Block) : (radioAcks c g b).plan = b.plan := by
  have hone (c : Cause) (d : Block) : (clearIfOneShot c d).plan = d.plan :=
    (PageWork.refl d).clearIfOneShot.frame .plan (by decide)
  have hacked (i : Nat) (e : PageEntry) (d : Block) : (ackEntry i e d).plan = d.plan :=
    (PageWork.refl d).ackEntry.frame .plan (by decide)
  unfold radioAcks radioAck
  repeat' split
  all_goals simp [hone, hacked]

theorem beginCycle_plan (b : Block) : (beginCycle b).plan = b.plan := by
  unfold beginCycle
  split <;> rfl

theorem slotStart_plan (rest : Bool) (b : Block) : (slotStart rest b).plan = b.plan := by
  unfold slotStart
  dsimp only
  repeat' split
  all_goals rfl

theorem activitySeen_plan (b : Block) : (activitySeen b).plan = b.plan := by
  unfold activitySeen
  split <;> rfl

theorem complete_plan (b : Block) : (complete b).plan = b.plan := by
  unfold complete
  split <;> rfl

theorem collide_plan (b : Block) : (collide b).plan = b.plan := by
  unfold collide
  dsimp only
  repeat' split
  all_goals simp

theorem corrupt_plan (b : Block) : (corrupt b).plan = b.plan := by
  unfold corrupt
  split <;> rfl

theorem writeSettings_plan (block : List Byte) (b : Block) : (writeSettings block b).plan = b.plan := by
  unfold writeSettings
  dsimp only
  repeat' split
  all_goals rfl

theorem writeDone_plan (b : Block) : (writeDone b).plan = b.plan := by
  unfold writeDone
  split <;> rfl

/-! ## Rounds and frames, which move courses alone -/

theorem evalAllReady_tasks (b : Block) : (evalAllReady b).plan.tasks = b.plan.tasks := (evalAllReady_derives b).tasks

theorem losePeer_tasks (i : Nat) (b : Block) : (losePeer b i).plan.tasks = b.plan.tasks := by
  simp [losePeer, dropFromCourses, mapCourses]

theorem agePeers_tasks (b : Block) : (agePeers b).plan.tasks = b.plan.tasks := by
  rw [agePeers_eq]
  exact foldl_keeps (fun b => b.plan.tasks) losePeer _ fun b i => losePeer_tasks i b

theorem runRound_tasks (b : Block) : (runRound b).plan.tasks = b.plan.tasks := by
  have hpruned (d : Block) : (pruneParticipants d).plan.tasks = d.plan.tasks := by
    rw [pruneParticipants, evalAllReady_tasks]
    rfl
  unfold runRound
  split
  · simp [hpruned, agePeers_tasks]
  · rfl

theorem heardDemand_tasks (i x : Nat) (d : Demand) (b : Block) : (heardDemand i x d b).plan.tasks = b.plan.tasks := by
  unfold heardDemand judgeSignature
  dsimp only
  rw [evalAllReady_tasks]
  repeat' split
  all_goals simp

theorem heardCourse_tasks (s : Nat) (items : List CourseItem) (b : Block) :
    (heardCourse s items b).plan.tasks = b.plan.tasks := by
  have htaken (d : Block) : (items.foldl (takeCourseItem s) d).plan.tasks = d.plan.tasks := (takeItems_work s items d).tasks
  have hmapped (f : Course → Course) (d : Block) : (mapCourses f d).plan.tasks = d.plan.tasks := rfl
  simp only [heardCourse, evalAllReady_tasks, hmapped, htaken, Block.onCoord_plan]

theorem handle_tasks (i x : Nat) (r : Received) (b : Block) : (handle i x r b).plan.tasks = b.plan.tasks := by
  have hpages {d : Block} (h : PageWork b d) : d.plan.tasks = b.plan.tasks := congrArg Plan.tasks (h.frame .plan (by decide))
  cases r with
  | demand d => rw [handle, heardDemand_tasks]
  | course items => rw [handle, heardCourse_tasks]
  | shift f => exact (heardShift_work f b).tasks
  | raise f => exact hpages (PageWork.refl b).heardRaise
  | ack c g => exact hpages (PageWork.refl b).heardAck
  | clear c g => exact hpages (PageWork.refl b).heardClear

theorem receive_tasks (source sequence : Byte) (form : Option FrameForm) (body : List Byte) (b : Block) :
    (receive source sequence form body b).plan.tasks = b.plan.tasks := by
  have haccepted (d : Block) : (acceptFrame source.toNat sequence.toNat form body d).plan.tasks = d.plan.tasks := by
    unfold acceptFrame withdraw
    repeat' split
    · exact handle_tasks _ _ _ _
    all_goals rfl
  unfold receive
  repeat' split
  · rw [corrupt_plan]
  · simp only [setPosition, duplicate]
    split <;> simp [enterLocal]
  · exact haccepted _
  · rfl

/-! ## The step -/

theorem enterInit_owned (r : EntryReason) (straps : Nat) (b : Block) : channelsOwned (enterInit r straps b) = true :=
  channelsOwned_iff.2 fun t _ u _ j hj _ => by
    have hfree : taskAt t (enterInit r straps b) = none := getD_replicate 24 t none
    simp [holdsAt, hfree] at hj

/-- Every command leaves each channel to one task. -/
theorem exec_owned (c : Instr) (s t : State) (h : exec c s = .next t) (hs : channelsOwned s.block = true) :
    channelsOwned t.block = true := by
  have of {f : Block → Block} (hf : channelsOwned (f s.block) = true) (h : onBlock f s = .next t) :
      channelsOwned t.block = true := by
    cases h
    exact hf
  have fewer {f : Block → Block} (hf : HoldsFewer s.block (f s.block)) (h : onBlock f s = .next t) :
      channelsOwned t.block = true := of (hf.owned hs) h
  have plan {f : Block → Block} (hf : (f s.block).plan = s.block.plan) (h : onBlock f s = .next t) :
      channelsOwned t.block = true := fewer (.of_plan hf) h
  have frame {source sequence : Byte} {form : Option FrameForm} {body : List Byte}
      (h : onBlock (receive source sequence form body) s = .next t) : channelsOwned t.block = true :=
    fewer (.of_tasks (receive_tasks source sequence form body s.block)) h
  have owner {own : Block → Answer} (ho : ownerOwns own) {code : Nat} {bad : Bool} {gate : StateGate} {dish : Bool}
      (h : onBlock (transfer code bad gate dish own) s = .next t) : channelsOwned t.block = true :=
    of (transfer_owns ho code bad gate dish s.block hs) h
  have reads {own : Block → Answer} (ho : ∀ b b' data, own b = .ok (b', data) → b'.plan = b.plan) : ownerOwns own :=
    ownerOwns_of_fewer fun b b' data h => .of_plan (ho b b' data h)
  cases c with
  | powerOn straps => exact of (enterInit_owned _ _ _) h
  | resetPinHeld => exact plan rfl h
  | resetPinReleased straps =>
    exact of (f := releaseReset straps.toNat)
      ((HoldsFewer.of_plan rfl).owned (enterInit_owned .resetPin straps.toNat s.block)) h
  | settingsCheck => exact plan (checkSettings_plan _) h
  | loopbackTestDone passed inputs => exact plan (loopbackDone_plan _ _ _) h
  | round => exact fewer (.of_tasks (runRound_tasks _)) h
  | driveTick volts amps => exact plan (tick_plan _ _ _) h
  | burstWindowStart => exact plan (windowStart_plan _) h
  | second inputs => exact fewer (runSecond_holdsFewer _ _) h
  | holdTimeout => exact plan (whenDish_plan (fun b => (timeoutHold_rests b).plan) _) h
  | taskEditApply task =>
    refine fewer ?_ h
    unfold whenRuns
    split
    · exact editApplies_holdsFewer _ _
    · exact .refl _
  | ackTimerExpiry entry => exact plan (whenRuns_plan (fun b => (expireAck_rests _ b).plan) _) h
  | clearRetry entry => exact plan (whenRuns_plan (fun b => (retryClear_rests _ b).plan) _) h
  | manualAdvanceTimeout => exact plan (whenDish_plan (fun b => (timeoutAdvance_rests b).plan) _) h
  | dwellTenth => exact plan (whenDish_plan tenth_plan _) h
  | encoderPulse => exact plan (whenDish_plan pulse_plan _) h
  | entrySensor => exact plan (whenDish_plan rackEnters_plan _) h
  | exitSensor => exact plan (whenDish_plan rackLeaves_plan _) h
  | radioStatusRecord ready => exact plan (radioStatus_plan _ _) h
  | radioStatusTimeout => exact plan (radioStatus_plan _ _) h
  | sendRecord => exact plan (sendHead_plan _) h
  | takenRecord kind subject generation => exact plan (taken_plan _ _ _) h
  | sendTimeout => exact plan (sendExpired_plan _) h
  | radioAckRecord kind subject generation => exact plan (radioAcks_plan _ _ _) h
  | badRadioRecord => exact plan rfl h
  | gapEnd => exact plan (beginCycle_plan _) h
  | slotStart lineAtRest => exact plan (slotStart_plan _ _) h
  | lineActivitySeen => exact plan (activitySeen_plan _) h
  | transmissionComplete => exact plan (complete_plan _) h
  | collision => exact plan (collide_plan _) h
  | corruptFrame cause => exact plan (corrupt_plan _) h
  | unknownFrame source kind sequence body => exact frame h
  | demandFrame source sequence body => exact frame h
  | courseFrame source sequence body => exact frame h
  | shiftFrame source sequence body => exact frame h
  | pageRaiseFrame source sequence body => exact frame h
  | pageAckFrame source sequence body => exact frame h
  | pageClearFrame source sequence body => exact frame h
  | noneTransfer =>
    refine plan (f := emptyTransfer) ?_ h
    unfold emptyTransfer
    split <;> rfl
  | transferCutShort => exact plan rfl h
  | unknownCommand code => exact owner (reads (by rintro b b' data ⟨⟩; rfl)) h
  | readStatus => exact owner (reads (by rintro b b' data ⟨⟩; rfl)) h
  | readEvent => exact owner ownReadEvent_owns h
  | readTable selector => exact owner (ownReadTable_owns _) h
  | readCounters => exact owner (reads (by rintro b b' data ⟨⟩; rfl)) h
  | readAndClearCounters => exact owner (reads (by rintro b b' data ⟨⟩; rfl)) h
  | postProfile index content => exact owner (ownPostProfile_owns _ _) h
  | deleteProfile index => exact owner (ownDeleteProfile_owns _) h
  | postCourse tag version offset lead => exact owner (ownPostCourse_owns _ _ _ _) h
  | deleteCourse tag => exact owner (ownDeleteCourse_owns _) h
  | lockCourse tag => exact owner (ownSetLock_owns _ _) h
  | unlockCourse tag => exact owner (ownSetLock_owns _ _) h
  | shiftCourse tag offset hold => exact owner (ownShiftCourse_owns _ _ _) h
  | markPassed tag => exact owner (ownMarkPassed_owns _) h
  | postTask tag profile mask sensor plates => exact owner (ownPostTask_owns _ _ _ _ _) h
  | editTask index profile mask sensor plates => exact owner (ownEditTask_owns _ _ _ _ _) h
  | cancelTask index => exact owner (ownCancelTask_owns _) h
  | setPlates index loaded => exact owner (ownSetPlates_owns _ _) h
  | raiseStaffCall subject priority level => exact owner (ownRaiseStaffCall_owns _ _ _) h
  | clearStaffCall subject => exact owner (ownClearStaffCall_owns _) h
  | clearFault channel => exact owner (ownClearFault_owns _) h
  | rackLoaded kind plates => exact owner (ownRackLoaded_owns _ _) h
  | rackRemoved rack => exact owner (ownRackRemoved_owns _) h
  | manualAdvance => exact owner ownManualAdvance_owns h
  | conveyorStart => exact owner (ownRunRequest_owns _) h
  | conveyorStop => exact owner (ownRunRequest_owns _) h
  | resetTallies => exact owner (reads (by rintro b b' data ⟨⟩; rfl)) h
  | writeSettings block => exact plan (writeSettings_plan _ _) h
  | settingsWriteDone => exact plan (writeDone_plan _) h
  | planClear => exact owner ownPlanClear_owns h
  | restart straps =>
    refine of ?_ h
    unfold restartPart
    split
    · exact (HoldsFewer.of_plan rfl).owned (enterInit_owned .restart straps.toNat (deliver s.block))
    · exact hs
  | lineSeenActiveWhileSeeking => exact plan rfl h

/-- Settles O52: each command that gives a task channels finds them free, and the others give none. -/
theorem channelsStayOwned : Obligations.ChannelsStayOwned := by
  intro s s' hs h
  unfold step at h
  split at h
  · cases h
    exact hs
  · rename_i c rest _
    exact exec_owned c { s with pending := rest } s' h hs

end Sys2Proof.Machine
end

section
/-! PROOFS. Commands answered by the first of their checks that fails (R86), and the commands on profiles (R88, R91). -/

namespace Sys2Proof.Machine

/-! ## Checks in order (R86) -/

/-- The checks that an owner runs are the stated ones: each fails where its condition holds, with the same reason. -/
abbrev Decides (fails : List (Bool × Reason)) (props : List (Prop × Reason)) : Prop :=
  List.Forall₂ (fun f p => (f.1 = true ↔ p.1) ∧ f.2 = p.2) fails props

/-- The reason of the first stated check that fails is the owner's refusal; where none fails it accepts. -/
theorem checked_of_firstReason {fails : List (Bool × Reason)} {props : List (Prop × Reason)} (h : Decides fails props)
    {why : Option Reason} (hwhy : firstReason props why) (accept : Answer) :
    checked fails accept = why.elim accept Except.error := by
  induction h with
  | nil =>
    cases hwhy
    rfl
  | @cons f p fails props hfp _ ih =>
    obtain ⟨hfails, hreason⟩ := hfp
    obtain ⟨hp, rfl⟩ | ⟨hp, hrest⟩ := hwhy
    · simp [checked, hfails.2 hp, hreason]
    · have hf : f.1 = false := Bool.eq_false_iff.2 fun hf => hp (hfails.1 hf)
      rw [← ih hrest]
      simp [checked, hf]

/-- Checks of a list in two parts: the first part refuses, or it passes and the second decides. -/
theorem firstReason_append {ps qs : List (Prop × Reason)} {why : Option Reason} (h : firstReason (ps ++ qs) why) :
    (firstReason ps why ∧ why ≠ none) ∨ (firstReason ps none ∧ firstReason qs why) := by
  induction ps with
  | nil => exact .inr ⟨rfl, h⟩
  | cons p ps ih =>
    obtain ⟨hp, hwhy⟩ | ⟨hp, hrest⟩ := h
    · exact .inl ⟨.inl ⟨hp, hwhy⟩, by simp [hwhy]⟩
    · obtain ⟨hfirst, hwhy⟩ | ⟨hpass, hsecond⟩ := ih hrest
      · exact .inl ⟨.inr ⟨hp, hfirst⟩, hwhy⟩
      · exact .inr ⟨.inr ⟨hp, hpass⟩, hsecond⟩

theorem not_of_firstReason_none {ps : List (Prop × Reason)} (h : firstReason ps none) : ∀ p ∈ ps, ¬p.1 := by
  induction ps with
  | nil => simp
  | cons p ps ih =>
    obtain ⟨_, hnone⟩ | ⟨hp, hrest⟩ := h
    · cases hnone
    · exact List.forall_mem_cons.2 ⟨hp, ih hrest⟩

/-- A command that its owner refuses once the gates are passed. -/
theorem completes_refusal {c : Instr} {s : State} {code : Nat} {own : Block → Answer} {r : Reason}
    (hc : exec c s = onBlock (transfer code false .working false own) s) (hp : s.block.portAnswers = true)
    (hw : s.block.station.state.works = true) (ho : own (deliver s.block) = .error r) :
    completes c s fun b => refusedWith code r s.block b :=
  completes_refused hc hp (by simpa [gates, StateGate.passes, hw] using ho)

/-- A command that passes the gates is refused with its owner's reason, or leaves what the owner accepted. -/
theorem completes_answers {c : Instr} {s : State} {code : Nat} {own : Block → Answer} {why : Option Reason} {P : Block → Prop}
    (hc : exec c s = onBlock (transfer code false .working false own) s) (hp : s.block.portAnswers = true)
    (hw : s.block.station.state.works = true) (hrefused : ∀ r, why = some r → own (deliver s.block) = .error r)
    (haccepted : why = none → ∃ after data, own (deliver s.block) = .ok (after, data) ∧
      P (answer { code := code, number := s.block.port.commandNumber, refused := none, data := data } (numbered8 after))) :
    completes c s fun b => answers code why s.block b (P b) := by
  cases why with
  | none =>
    obtain ⟨after, data, ho, hP⟩ := haccepted rfl
    exact completes_accepted hc hp hw ho ⟨by simp, fun _ => hP⟩
  | some r =>
    obtain ⟨t, hstep, hpending, hrefusal⟩ := completes_refusal hc hp hw (hrefused r rfl)
    exact ⟨t, hstep, hpending, fun reason h => Option.some.inj h ▸ hrefusal, by simp⟩

/-- A command whose owner runs the stated checks alone. -/
theorem completes_checked {c : Instr} {s : State} {code : Nat} {own : Block → Answer} {why : Option Reason} {P : Block → Prop}
    {fails : List (Bool × Reason)} {props : List (Prop × Reason)} {accept : Answer}
    (hc : exec c s = onBlock (transfer code false .working false own) s) (hp : s.block.portAnswers = true)
    (hw : s.block.station.state.works = true) (ho : own (deliver s.block) = checked fails accept) (hd : Decides fails props)
    (hwhy : firstReason props why)
    (haccepted : firstReason props none → ∃ after data, accept = .ok (after, data) ∧
      P (answer { code := code, number := s.block.port.commandNumber, refused := none, data := data } (numbered8 after))) :
    completes c s fun b => answers code why s.block b (P b) := by
  rw [checked_of_firstReason hd hwhy] at ho
  refine completes_answers hc hp hw (fun r hr => ?_) fun hr => ?_
  · rw [ho, hr, Option.elim_some]
  · subst hr
    rw [ho]
    exact haccepted hwhy

/-- An owner that leaves the port leaves its events and counters. -/
theorem eventsStand_of_port {s after : Block} (h : after.port = (deliver s).port) (r : Response) :
    eventsStand s (answer r (numbered8 after)) := by
  simp [eventsStand, answer, numbered8, h]

/-! ## Profiles (R88, R91) -/

theorem profileLocked_iff {i : Nat} {b : Block} : profileLocked i b = true ↔ lockedProfile i b := by
  simp only [profileLocked, lockedProfile, List.any_eq_true, Option.any_eq_true, Bool.and_eq_true, Bool.or_eq_true,
    decide_eq_true_eq]
  constructor
  · rintro ⟨_, hmem, k, rfl, hnames, c, hc, hlock⟩
    obtain ⟨t, hk⟩ := some_mem_tasks.1 hmem
    exact ⟨t, k, c, hk, hnames, hc, hlock⟩
  · rintro ⟨t, k, c, hk, hnames, hc, hlock⟩
    exact ⟨some k, some_mem_tasks.2 ⟨t, hk⟩, k, rfl, hnames, c, hc, hlock⟩

theorem inUse_pos_iff {i : Nat} {b : Block} :
    0 < inUse i b ↔ ∃ t k, taskAt t b = some k ∧ k.state.runs = true ∧ k.resolved = some i := by
  simp only [inUse, List.length_pos_iff_exists_mem, List.mem_filter, List.mem_filterMap, id_eq, exists_eq_right,
    Bool.and_eq_true, decide_eq_true_eq, some_mem_tasks]
  exact ⟨fun ⟨k, ⟨t, hk⟩, hruns⟩ => ⟨t, k, hk, hruns⟩, fun ⟨t, k, hk, hruns⟩ => ⟨k, ⟨t, hk⟩, hruns⟩⟩

theorem profileInUse_iff {i : Nat} {b : Block} : profileInUse i b = true ↔ usedProfile i b := by
  unfold profileInUse usedProfile
  split
  · rename_i d hd
    simp [hd, inUse_pos_iff]
  · rename_i hno
    simp only [Bool.false_eq_true, false_iff, not_and]
    rintro ⟨d, hd⟩
    exact absurd hd (hno d)

theorem ownPostProfile_decides {index : Byte} {content : ProfileFields} {p : Profile} (h : profileOf content = some p)
    (b : Block) :
    Decides [(decide (31 < index.toNat), .badValue), (profileLocked index.toNat b, .locked),
      (profileInUse index.toNat b, .inUse)] (postProfileChecks index content b) :=
  .cons ⟨by simp [h], rfl⟩ (.cons ⟨profileLocked_iff, rfl⟩ (.cons ⟨profileInUse_iff, rfl⟩ .nil))

theorem ownDeleteProfile_decides (index : Byte) (b : Block) :
    Decides [(decide (31 < index.toNat), .badValue), (decide (profileAt index.toNat b = .free), .badRef),
      (profileLocked index.toNat b, .locked), (profileInUse index.toNat b, .inUse)] (deleteProfileChecks index b) :=
  .cons ⟨by simp, rfl⟩ (.cons ⟨by simp, rfl⟩ (.cons ⟨profileLocked_iff, rfl⟩ (.cons ⟨profileInUse_iff, rfl⟩ .nil)))

/-- What the answer to a command leaves where its owner wrote one entry of the profile table. -/
theorem setProfile_answered (i code : Nat) (p : Profile) (data : List Byte) (s : Block) :
    let b := answer { code := code, number := s.port.commandNumber, refused := none, data := data }
      (numbered8 (setProfile i p (deliver s)))
    answeredWith code none data s b ∧ eventsStand s b ∧
      b.plan = { s.plan with profiles := s.plan.profiles.set i p } ∧ changesOnly [.plan, .port] s b := by
  have hframe : changesOnly [.plan, .port] (deliver s) (setProfile i p (deliver s)) := by
    simp [changesOnly_iff, setProfile]
  exact ⟨answeredWith_of rfl rfl, eventsStand_of_port rfl _, rfl, answered_frame (by decide) hframe _⟩

/-- Settles O38: both commands run the stated checks and write one entry of the profile table. -/
theorem profilesReplacedAndFreed : Obligations.ProfilesReplacedAndFreed := by
  intro s index why hp hw
  refine ⟨fun content hwhy => ?_, fun hwhy => ?_⟩
  · cases hcontent : profileOf content with
    | none =>
      have hbad : why = some .badValue := by
        obtain ⟨_, hbad⟩ | ⟨hgood, _⟩ := hwhy
        · exact hbad
        · exact absurd (.inr hcontent) hgood
      refine completes_answers (own := ownPostProfile index content) rfl hp hw (fun r hr => ?_) fun hnone => ?_
      · cases hbad.symm.trans hr
        simp [ownPostProfile, hcontent]
      · cases hbad.symm.trans hnone
    | some p =>
      refine completes_checked (own := ownPostProfile index content)
        (accept := .ok (setProfile index.toNat p (deliver s.block), [index])) rfl hp hw ?_
        (ownPostProfile_decides hcontent (deliver s.block)) hwhy fun _ => ?_
      · simp only [ownPostProfile, hcontent]
      · exact ⟨_, _, rfl, p, rfl, setProfile_answered index.toNat 6 p [index] s.block⟩
  · exact completes_checked (own := ownDeleteProfile index) rfl hp hw rfl (ownDeleteProfile_decides index (deliver s.block))
      hwhy fun _ => ⟨_, _, rfl, setProfile_answered index.toNat 7 .free [index] s.block⟩

end Sys2Proof.Machine
end

section
/-! PROOFS. A pending edit applies (R96, R103, R104, R107, R115). -/

namespace Sys2Proof.Machine

/-! ## What the parts of a task's change leave -/

theorem setTask_frame (t : Nat) (k : Option Task) (b : Block) : changesOnly [.plan] b (setTask t k b) := by
  simp [changesOnly_iff, setTask]

theorem releaseWants_frame (m : Mask8) (b : Block) : changesOnly [.drive] b (releaseWants m b) := by
  unfold releaseWants
  induction members m generalizing b with
  | nil => exact changesOnly_refl _ b
  | cons k rest ih =>
    exact changesOnly_trans (by simp [changesOnly_iff]) (ih _)

theorem taskEvent_frame (t : Nat) (x : TaskState) (b : Block) : changesOnly [.port] b (taskEvent t x b) := by
  unfold taskEvent
  split
  · simp [changesOnly_iff]
  · exact changesOnly_refl _ b

theorem noteTask_frame (t : Nat) (x : TaskState) (b : Block) : changesOnly [.port] b (noteTask t x b) := by
  unfold noteTask
  split
  · exact taskEvent_frame t x b
  · exact changesOnly_refl _ b

theorem testPlates_work (i : Nat) (b : Block) : PageWork b (testPlates i b) := by
  unfold testPlates
  split
  · split
    · exact resolve_work _ b
    · exact .refl b
  · exact .refl b

/-- The event of a task names the state before and what the task then shows (R104). -/
theorem taskEvent_offers {t : Nat} {k : Task} {b : Block} (hat : taskAt t b = some k) (x : TaskState) :
    offered (.taskState t ((courseAt k.course b).elim 0 fun c => c.tag) x k.state k.fault k.stageIndex) b (taskEvent t x b) := by
  unfold taskEvent
  rw [hat]
  exact offered_offer _ b

theorem noteTask_offers {t : Nat} {k : Task} {b : Block} (hat : taskAt t b = some k) {x : TaskState} (hx : k.state ≠ x) :
    offered (.taskState t ((courseAt k.course b).elim 0 fun c => c.tag) x k.state k.fault k.stageIndex) b (noteTask t x b) := by
  have hleft : leftState t x b = true := by simp [leftState, hat, hx]
  rw [noteTask, if_pos hleft]
  exact taskEvent_offers hat x

/-- A course reads the same where the plan but for its tasks stands. -/
theorem courseAt_of_courses {b b' : Block} (h : b'.plan.courses = b.plan.courses) (i : Nat) : courseAt i b' = courseAt i b := by
  rw [courseAt, h, courseAt]

theorem TaskAct.courses {t : Nat} {spared : Nat → Prop} {b b' : Block} (h : TaskAct t spared b b') (i : Nat) :
    courseAt i b' = courseAt i b := by
  have hcourses := congrArg Plan.courses h.plan
  exact courseAt_of_courses hcourses i

theorem TaskAct.length {t : Nat} {spared : Nat → Prop} {b b' : Block} (h : TaskAct t spared b b') :
    b'.drive.channels.length = b.drive.channels.length := by
  have hlength := congrArg (fun d : Drive => d.channels.length) h.drive
  simp only [noWants, List.length_map] at hlength
  exact hlength

/-! ## The edit (R96) -/

/-- The part in the second that the edit opens (log 23). -/
def ahead (b : Block) : Block := b.onStation fun s => { s with clock := (s.clock + 1) % Config.clockModulus }

/-- The part with the edit applied and told, and the course derived, at that second. -/
def editDone (t : Nat) (k : Task) (b : Block) : Block := courseChange k.course (noteTask t k.state (applyEdit t (ahead b)))

theorem editApplies_eq {t : Nat} {k : Task} {b : Block} (hat : taskAt t b = some k) (hedit : k.edit.isSome = true)
    (hsecond : k.state.hasSecond = true) :
    editApplies t b = (editDone t k b).onStation fun s => { s with clock := b.now } := by
  rw [editApplies, hat]
  exact if_pos ⟨hedit, hsecond⟩

theorem editApplies_of_noSecond {t : Nat} {k : Task} {b : Block} (hat : taskAt t b = some k)
    (hsecond : k.state.hasSecond = false) : editApplies t b = b := by
  rw [editApplies, hat]
  simp [hsecond]

theorem hasSecond_iff {x : TaskState} : x.hasSecond = true ↔ x = .waiting ∨ x.runs = true := by
  cases x <;> decide

section
variable {t : Nat} {k : Task} {e : Edit} {b : Block}

theorem taskAt_applyEdit (hat : taskAt t b = some k) (hedit : k.edit = some e) :
    taskAt t (applyEdit t b) = some (editedRecord k e b) := by
  rw [applyEdit_eq hat hedit, taskAt_of_plan (testPlates_plan _ _), taskAt_of_plan (editReleases_plan _ _ _ _),
    taskAt_setTask hat]

theorem taskAt_editDone (u : Nat) : taskAt u (editDone t k b) = taskAt u (applyEdit t (ahead b)) := by
  have hnoted : (noteTask t k.state (applyEdit t (ahead b))).plan = (applyEdit t (ahead b)).plan :=
    noteTask_frame _ _ _ .plan (by decide)
  exact (taskAt_of_tasks (courseChange_act _ _).tasks u).trans (taskAt_of_plan hnoted u)

theorem channelAt_editDone (i : Nat) : channelAt i (editDone t k b) = channelAt i (applyEdit t (ahead b)) := by
  have hnoted : (noteTask t k.state (applyEdit t (ahead b))).drive = (applyEdit t (ahead b)).drive :=
    noteTask_frame _ _ _ .drive (by decide)
  have hdone : (editDone t k b).drive = (applyEdit t (ahead b)).drive := (courseChange_act _ _).drive.trans hnoted
  rw [channelAt, hdone, channelAt]

/-- A channel that the edit sets free wants 0. -/
theorem applyEdit_frees (hat : taskAt t b = some k) (hedit : k.edit = some e) {i : Nat} (hi : i < b.drive.channels.length)
    (hfree : (k.mask.getLsbD i = true ∧ e.mask.getLsbD i = false) ∨
      ((editedRecord k e b).state = .faulted ∧ e.mask.getLsbD i = true)) :
    (channelAt i (applyEdit t b)).want = {} := by
  rw [applyEdit_eq hat hedit]
  set x := editedRecord k e b
  refine (testPlates_act (t := t) (spared := fun _ => True) k.course _).wants i trivial ?_
  have hlength : (releaseWants (k.mask &&& ~~~ e.mask) (setTask t (some x) b)).drive.channels.length =
      b.drive.channels.length := (releaseWants_act (t := t) (spared := fun _ => True) _ _).length
  unfold editReleases
  obtain ⟨hk, he⟩ | ⟨hfaulted, he⟩ := hfree
  · have hgiven : (k.mask &&& ~~~ e.mask).getLsbD i = true := by
      have hlt := BitVec.lt_of_getLsbD hk
      rw [BitVec.getLsbD_and, BitVec.getLsbD_not, hk, he]
      simp [hlt]
    have hwant := releaseWants_want hgiven (b := setTask t (some x) b) hi
    dsimp only
    split
    · exact (releaseWants_act (t := t) (spared := fun _ => True) e.mask _).wants i trivial hwant
    · exact hwant
  · simp only [if_pos hfaulted]
    exact releaseWants_want he (hlength ▸ hi)

theorem editDone_offers (hat : taskAt t b = some k) (hedit : k.edit = some e)
    (hstate : (editedRecord k e (ahead b)).state ≠ k.state) :
    let x := editedRecord k e (ahead b)
    offeredAt ((b.station.clock + 1) % 4294967296)
      (.taskState t ((courseAt k.course b).elim 0 fun c => c.tag) k.state x.state x.fault x.stageIndex) b (editDone t k b) := by
  intro x
  have happlied := taskAt_applyEdit (b := ahead b) hat hedit
  have hact := applyEdit_act (t := t) (spared := fun _ => True) (ahead b)
  have hcourse : courseAt x.course (applyEdit t (ahead b)) = courseAt k.course b := by
    rw [hact.courses]
    have hsame : x.course = k.course := by
      show (editedRecord k e (ahead b)).course = k.course
      unfold editedRecord reresolve
      repeat' split
      all_goals rfl
    rw [hsame]
    rfl
  have htold := noteTask_offers happlied hstate
  rw [hcourse] at htold
  have hdone := offered_mono (offered_of_grows hact.toEventsGrow htold) (courseChange_act k.course _).toEventsGrow
  have hclock : (editDone t k b).station.clock = (b.station.clock + 1) % 4294967296 := by
    have hstation : (editDone t k b).station = (ahead b).station := calc
      _ = (noteTask t k.state (applyEdit t (ahead b))).station := courseChange_station _ _
      _ = (applyEdit t (ahead b)).station := noteTask_frame _ _ _ .station (by decide)
      _ = (ahead b).station := (applyEdit_station_share t (ahead b)).1
    rw [hstation]
    rfl
  exact hclock ▸ hdone

theorem offeredAt_of_port {second : Nat} {x : EventBody} {c d : Block} (h : offeredAt second x b c) (hport : d.port = c.port) :
    offeredAt second x b d := by
  rwa [offeredAt, hport]

theorem applyEdit_frame (hat : taskAt t b = some k) (hedit : k.edit = some e) :
    changesOnly [.drive, .plan, .line, .pages, .pager, .port] b (applyEdit t b) := by
  rw [applyEdit_eq hat hedit]
  set x := editedRecord k e b
  have hreleased (d : Block) : changesOnly [.drive] d (editReleases k e x d) := by
    unfold editReleases
    dsimp only
    split
    · exact changesOnly_trans (releaseWants_frame _ d) (releaseWants_frame _ _)
    · exact releaseWants_frame _ d
  exact changesOnly_trans (changesOnly_mono (setTask_frame t _ b) (by decide))
    (changesOnly_trans (changesOnly_mono (hreleased _) (by decide)) (changesOnly_mono (testPlates_work _ _).frame (by decide)))

theorem editApplies_frame (hat : taskAt t b = some k) (hedit : k.edit = some e) (hsecond : k.state.hasSecond = true) :
    changesOnly [.drive, .plan, .line, .pages, .pager, .port] b (editApplies t b) := by
  have hstation : (editApplies t b).station = b.station := (editApplies_station_share t b).1
  have hahead : changesOnly [.station, .drive, .plan, .line, .pages, .pager, .port] b (ahead b) := by
    simp [changesOnly_iff, ahead]
  have happlied : changesOnly [.drive, .plan, .line, .pages, .pager, .port] (ahead b) (applyEdit t (ahead b)) :=
    applyEdit_frame hat hedit
  have hdone : changesOnly [.station, .drive, .plan, .line, .pages, .pager, .port] b (editDone t k b) :=
    changesOnly_trans (changesOnly_trans hahead (changesOnly_mono happlied (by decide)))
      (changesOnly_trans (changesOnly_mono (noteTask_frame t k.state _) (by decide))
        (changesOnly_mono (courseChange_derives k.course _).frame (by decide)))
  have hback : changesOnly [.station] (editDone t k b) (editApplies t b) := by
    rw [editApplies_eq hat (by simp [hedit]) hsecond]
    simp [changesOnly_iff]
  intro p hp
  by_cases hps : p = .station
  · subst hps
    exact hstation
  · exact changesOnly_trans hdone (changesOnly_mono hback (by decide)) p (by simpa [hps] using hp)

end

/-! ## The record of an edited task (R96, R107, R115) -/

theorem editedRecord_same {k : Task} {e : Edit} {b : Block}
    (h : k.state = .waiting ∨ e.profile = k.profile ∨ ∃ r, k.resolved = some r ∧ resolveProfile e.profile b = some r) :
    editedRecord k e b = withEdit k e := by
  unfold editedRecord
  split_ifs with hruns
  · obtain hwaiting | hprofile | ⟨r, hresolved, hfound⟩ := h
    · rw [hwaiting] at hruns
      cases hruns.1
    · exact absurd hprofile.symm hruns.2
    · have hkept : (k.edited e).resolved = some r := hresolved
      rw [hfound, reresolve, if_pos hkept]
      rfl
  · rfl

theorem editedRecord_restarts {k : Task} {e : Edit} {b : Block} {r : Nat} (hruns : k.state.runs = true)
    (hprofile : e.profile ≠ k.profile) (hfound : resolveProfile e.profile b = some r) (hother : k.resolved ≠ some r) :
    editedRecord k e b = { withEdit k e with
      resolved := some r, state := .heating, stageIndex := 0, stageStart := b.now,
      urgency := { k.urgency with plateTest := false } } := by
  have hleft : (k.edited e).resolved ≠ some r := hother
  rw [editedRecord, if_pos ⟨hruns, hprofile.symm⟩, hfound, reresolve, if_neg hleft]
  rfl

theorem editedRecord_faults {k : Task} {e : Edit} {b : Block} (hruns : k.state.runs = true)
    (hprofile : e.profile ≠ k.profile) (hlost : resolveProfile e.profile b = none) :
    editedRecord k e b = faultedFor .badProfile { withEdit k e with resolved := none } := by
  rw [editedRecord, if_pos ⟨hruns, hprofile.symm⟩, hlost]
  rfl

/-- Settles O19: the edit applies at the second it opens, is told there, and the clock is where it was. -/
theorem pendingEditsApply : Obligations.PendingEditsApply := by
  refine ⟨fun s t k e hr hat hedit hstate => ?_, fun s t k hat hended => ?_⟩
  · have hsecond : k.state.hasSecond = true := hasSecond_iff.2 hstate
    refine completes_of (whenRuns (editApplies t)) rfl ?_
    rw [whenRuns, if_pos hr]
    have heq := editApplies_eq (b := s.block) hat (by simp [hedit]) hsecond
    set x := editedRecord k e (ahead s.block) with hx
    have htask (u : Nat) : taskAt u (editApplies t s.block) = taskAt u (applyEdit t (ahead s.block)) := by
      rw [heq]
      exact taskAt_editDone u
    have hrecord : taskAt t (editApplies t s.block) = some x := (htask t).trans (taskAt_applyEdit hat hedit)
    have hwants {i : Nat} (hi : i < s.block.drive.channels.length)
        (hfree : (k.mask.getLsbD i = true ∧ e.mask.getLsbD i = false) ∨ (x.state = .faulted ∧ e.mask.getLsbD i = true)) :
        (channelAt i (editApplies t s.block)).want = {} := by
      rw [heq]
      exact (congrArg Channel.want (channelAt_editDone i)).trans (applyEdit_frees (b := ahead s.block) hat hedit hi hfree)
    refine ⟨fun hsame => ?_, fun r hruns hprofile hfound hother => ?_, fun hruns hprofile hlost => ?_,
      fun i hi hk he => hwants hi (.inl ⟨hk, he⟩), fun u hu => ?_, fun y hy hmoved => ?_, editApplies_frame hat hedit hsecond⟩
    · rw [hrecord, hx, editedRecord_same (b := ahead s.block) hsame]
    · rw [hrecord, hx, editedRecord_restarts (b := ahead s.block) hruns hprofile hfound hother]
      rfl
    · have hfaulted : x = faultedFor .badProfile { withEdit k e with resolved := none } :=
        editedRecord_faults hruns hprofile hlost
      exact ⟨hrecord.trans (congrArg some hfaulted), fun i hi he => hwants hi (.inr ⟨by rw [hfaulted]; rfl, he⟩)⟩
    · exact (htask u).trans ((applyEdit_act (spared := fun _ => True) (ahead s.block)).others u hu)
    · have hxy : x = y := Option.some.inj (hrecord.symm.trans hy)
      rw [← hxy] at hmoved ⊢
      have hport : (editApplies t s.block).port = (editDone t k s.block).port := by rw [heq, Block.onStation_port]
      exact offeredAt_of_port (editDone_offers hat hedit hmoved) hport
  · have hsecond : k.state.hasSecond = false := by
      obtain h | h | h := hended <;> rw [h] <;> rfl
    refine completes_of (whenRuns (editApplies t)) rfl ?_
    rw [whenRuns, editApplies_of_noSecond hat hsecond, ite_self]

end Sys2Proof.Machine
end

section
/-! PROOFS. POST TASK, EDIT TASK and SET PLATES (R86, R91, R93 to R95, R99). -/

namespace Sys2Proof.Machine

/-! ## Pages reported resolved (R154) -/

/-- Acts on the pages that raise none. -/
def RaisesNone : Block → Block → Prop := PageActs (fun _ => False) (fun _ => False) (fun _ => True)

theorem raisesNone_of_pages {b b' : Block} (h : Onward b b') (hp : b'.pages = b.pages) : RaisesNone b b' :=
  PageActs.of_pages h hp

theorem raisesNone_resolve (c : Cause) (b : Block) : RaisesNone b (resolve c b) := resolve_acts (fun _ _ => trivial) b

theorem RaisesNone.trans {b c d : Block} (h : RaisesNone b c) (g : RaisesNone c d) : RaisesNone b d := PageActs.trans h g

theorem raisesNone_setTask (t : Nat) (k : Option Task) (b : Block) : RaisesNone b (setTask t k b) :=
  raisesNone_of_pages ⟨.of_port rfl rfl, List.prefix_refl _, rfl, rfl⟩ rfl

/-- A cause reported resolved among acts that raise no page (R154). -/
theorem resolveMade_of_raisesNone {c : Cause} {s b d : Block} (h : RaisesNone s b) (g : RaisesNone (resolve c b) d) :
    resolveMade c s d := by
  intro i e hat ho ht hw _
  obtain ⟨hslot, rfl, hfirst⟩ := locatePage_eq_some.1 hat
  have hresolved := (h.followed (fun h => h) (.start hslot ho hw)).resolve hfirst
  exact (g.followed (fun h => h) hresolved).clearTaken ho ht

/-! ## The answer to an accepted command -/

theorem answeredWith_of_held {code : Nat} {data : List Byte} {s after : Block} (h : after.held = (deliver s).held) :
    answeredWith code none data s
      (answer { code := code, number := s.port.commandNumber, refused := none, data := data } (numbered8 after)) := by
  obtain ⟨_, hdelivered, hnumber⟩ : _ ∧ _ ∧ _ := by simpa only [Block.held, Prod.mk.injEq] using h
  exact answeredWith_of hdelivered hnumber

/-- An event offered after the delivery was offered by the command. -/
theorem offered_of_deliver {e : EventBody} {s b : Block} (h : offered e (deliver s) b) (r : Response) :
    offered e s (answer r (numbered8 b)) := by
  have hoffered : offered e s b := by rwa [offered, offeredAt, deliver_port] at h
  exact offered_answer hoffered r

theorem taskAt_answer (t : Nat) (r : Response) (b : Block) : taskAt t (answer r (numbered8 b)) = taskAt t b := rfl

theorem courseAt_answer (i : Nat) (r : Response) (b : Block) : courseAt i (answer r (numbered8 b)) = courseAt i b := rfl

theorem channelAt_answer (j : Nat) (r : Response) (b : Block) : channelAt j (answer r (numbered8 b)) = channelAt j b := rfl

/-! ## The checks of the task commands (R91, R93 to R95) -/

theorem maskOk_iff {mask : Mask8} {b : Block} : maskOk mask b = true ↔
    mask ≠ 0 ∧ ∀ j, mask.getLsbD j = true → (channelAt j b).fitted = true ∧ (channelAt j b).role = .heat := by
  simp [maskOk, channelAt, mem_members]

theorem taskFieldsBad_iff {profile : Byte} {mask : Mask8} {sensor : Byte} {plates : Word16} {b : Block} :
    taskFieldsBad profile mask sensor plates b = true ↔ fieldsBad profile mask sensor plates b := by
  have hmask : (!maskOk mask b) = true ↔ mask = 0 ∨
      ∃ j, mask.getLsbD j = true ∧ ¬((channelAt j b).fitted = true ∧ (channelAt j b).role = .heat) := by
    rw [Bool.not_eq_true', Bool.eq_false_iff, Ne, maskOk_iff, not_and_or, not_not]
    simp only [not_forall, exists_prop]
  simp only [taskFieldsBad, fieldsBad, Bool.or_eq_true, decide_eq_true_eq, hmask, or_assoc]

theorem platesElsewhere_iff {plates : Word16} {b : Block} :
    (decide (0 < plates.toNat) && decide (b.cfg.kind ≠ .warmer)) = true ↔ platesElsewhere plates b := by
  simp [platesElsewhere]

/-- The channels of a mask are asked of one holder each, which is the only one where no channel is held twice. -/
theorem maskBusy_iff {mask : Mask8} {self : Option Nat} {b : Block}
    (hself : self ≠ none → b.plan.tasks.length = 24 ∧ channelsOwned b = true) :
    maskBusy mask self b = true ↔ heldByOther mask self b := by
  simp only [maskBusy, List.any_eq_true, mem_members, Option.any_eq_true, decide_eq_true_eq]
  constructor
  · rintro ⟨j, hj, t, hholder, hne⟩
    obtain ⟨x, hx, hheld⟩ := holdsAt_iff.1 (holds_of_holder hholder).1
    exact ⟨j, t, x, hj, hx, hheld, hne⟩
  · rintro ⟨j, u, x, hj, hx, hheld, hne⟩
    have hu : (holdsAt u b).getLsbD j = true := holdsAt_iff.2 ⟨x, hx, hheld⟩
    cases hholder : holder j b with
    | none => simp [holder_eq_none.1 hholder u] at hu
    | some v =>
      refine ⟨j, hj, v, hholder, fun hv => hne ?_⟩
      obtain ⟨hlength, howned⟩ := hself (by simp [← hv])
      obtain ⟨hv', hvlt⟩ := holds_of_holder hholder
      rw [← hv, channelsOwned_iff.1 howned u (hlength ▸ taskAt_lt hx) v (hlength ▸ hvlt) j hu hv']

theorem taskPlace_eq_none {b : Block} :
    taskPlace b = none ↔ ∀ e ∈ b.plan.tasks, ∃ k, e = some k ∧ k.state ≠ .cancelled := by
  simp only [taskPlace, Option.or_eq_none_iff, List.findIdx?_eq_none_iff]
  constructor
  · rintro ⟨hfull, hno⟩ e he
    cases e with
    | none => cases hfull _ he
    | some k => exact ⟨k, rfl, by simpa using hno _ he⟩
  · intro h
    refine ⟨fun e he => ?_, fun e he => ?_⟩
    all_goals
      obtain ⟨k, rfl, hk⟩ := h e he
      simp [hk]

theorem taskPlace_lt {t : Nat} {b : Block} (h : taskPlace b = some t) : t < b.plan.tasks.length := by
  rw [taskPlace, Option.or_eq_some_iff] at h
  obtain h | ⟨_, h⟩ := h
  all_goals exact (List.findIdx?_eq_some_iff_findIdx_eq.1 h).1

theorem taskLocked_iff {t : Nat} {b : Block} : (taskAt t b).any (fun x => taskLocked x b) = true ↔ courseLocked t b := by
  simp only [taskLocked, courseLocked, Option.any_eq_true]
  exact ⟨fun ⟨k, hk, c, hc, hlock⟩ => ⟨k, c, hk, hc, hlock⟩, fun ⟨k, c, hk, hc, hlock⟩ => ⟨k, hk, c, hc, hlock⟩⟩

/-- The plates are in place for every live task of the course (R99). -/
theorem plateCondition_iff {i : Nat} {b : Block} : plateCondition i b = true ↔
    ∀ u x, taskAt u b = some x → x.course = i → x.state.live = true → x.platesRequired ≤ x.platesLoaded := by
  simp only [plateCondition, List.all_eq_true, List.mem_filter, List.mem_filterMap, id_eq, exists_eq_right, Bool.and_eq_true,
    decide_eq_true_eq, some_mem_tasks]
  exact ⟨fun h u x hx hc hl => h x ⟨⟨u, hx⟩, hc, hl⟩, fun h x ⟨⟨u, hx⟩, hc, hl⟩ => h u x hx hc hl⟩

/-! ## POST TASK (R94) -/

/-- The task that POST TASK makes (R94). -/
def postedTask (i : Nat) (profile : Byte) (mask : Mask8) (sensor : Byte) (plates : Word16) : Task :=
  { course := i, profile := profile.toNat, mask, sensor := sensor.toNat, platesRequired := plates.toNat }

theorem taskAt_setTask_lt {t : Nat} {b : Block} (h : t < b.plan.tasks.length) (x : Option Task) :
    taskAt t (setTask t x b) = x := by
  simp [taskAt, setTask, List.getD_eq_getElem?_getD, h]

section
variable {tag profile : Byte} {mask : Mask8} {sensor : Byte} {plates : Word16} {b : Block} {why : Option Reason}

/-- The checks of POST TASK but the last, which the entry it takes decides (R94). -/
theorem ownPostTask_decides (tag profile : Byte) (mask : Mask8) (sensor : Byte) (plates : Word16) (b : Block) :
    Decides
      [(taskFieldsBad profile mask sensor plates b, .badValue),
        (decide (0 < plates.toNat) && decide (b.cfg.kind ≠ .warmer), .wrongKind), ((locateCourse tag.toNat b).isNone, .badRef),
        ((locateCourse tag.toNat b).any fun x => x.2.lock, .locked),
        ((locateCourse tag.toNat b).any fun x => x.2.passed, .wrongState), (maskBusy mask none b, .channelBusy)]
      ((postTaskChecks tag profile mask sensor plates b).take 6) :=
  .cons ⟨taskFieldsBad_iff, rfl⟩ (.cons ⟨platesElsewhere_iff, rfl⟩ (.cons ⟨by simp, rfl⟩
    (.cons ⟨by simp [Option.any_eq_true], rfl⟩ (.cons ⟨by simp [Option.any_eq_true], rfl⟩
      (.cons ⟨maskBusy_iff (by simp), rfl⟩ .nil)))))

/-- POST TASK refuses with its first failing check, or makes the task in the entry the table gives (R94). -/
theorem ownPostTask_answers (h : firstReason (postTaskChecks tag profile mask sensor plates b) why) :
    (∀ r, why = some r → ownPostTask tag profile mask sensor plates b = .error r) ∧
      (why = none → ∃ i c t, locateCourse tag.toNat b = some (i, c) ∧ taskPlace b = some t ∧
        ownPostTask tag profile mask sensor plates b =
          .ok (courseChange i (setTask t (some (postedTask i profile mask sensor plates)) b), [byteOf t])) := by
  have hdecides := ownPostTask_decides tag profile mask sensor plates b
  rw [← List.take_append_drop 6 (postTaskChecks tag profile mask sensor plates b)] at h
  obtain ⟨hfirst, hwhy⟩ | ⟨hpass, hlast⟩ := firstReason_append h
  · refine ⟨fun r hr => ?_, fun hnone => absurd hnone hwhy⟩
    rw [ownPostTask, checked_of_firstReason hdecides hfirst, hr, Option.elim_some]
  · rw [ownPostTask, checked_of_firstReason hdecides hpass, Option.elim_none]
    have hheld : locateCourse tag.toNat b ≠ none :=
      not_of_firstReason_none hpass (_, .badRef) (List.mem_cons_of_mem _ (List.mem_cons_of_mem _ List.mem_cons_self))
    obtain ⟨⟨i, c⟩, hlocated⟩ := Option.ne_none_iff_exists'.1 hheld
    rw [hlocated]
    obtain ⟨hfull, rfl⟩ | ⟨hroom, rfl⟩ := hlast
    · rw [taskPlace_eq_none.2 hfull]
      simp
    · obtain ⟨t, ht⟩ := Option.ne_none_iff_exists'.1 (mt taskPlace_eq_none.1 hroom)
      rw [ht]
      exact ⟨by simp, fun _ => ⟨i, c, t, rfl, rfl, rfl⟩⟩

end

/-! ## EDIT TASK and SET PLATES (R95, R99) -/

theorem ownEditTask_decides {index : Byte} (profile : Byte) (mask : Mask8) (sensor : Byte) (plates : Word16) {b : Block}
    (howned : channelsOwned b = true) (hsized : b.plan.tasks.length = 24) :
    Decides
      [(decide (23 < index.toNat) || taskFieldsBad profile mask sensor plates b, .badValue),
        (decide (0 < plates.toNat) && decide (b.cfg.kind ≠ .warmer), .wrongKind), ((namedTask index b).isNone, .badRef),
        ((namedTask index b).any fun x => taskLocked x b, .locked),
        ((namedTask index b).any fun x =>
          decide (x.state = .passed) || decide (x.state = .faulted) || decide (x.state = .cancelled), .wrongState),
        (maskBusy mask (some index.toNat) b, .channelBusy)]
      (editTaskChecks index profile mask sensor plates b) :=
  .cons ⟨by simp [taskFieldsBad_iff], rfl⟩ (.cons ⟨platesElsewhere_iff, rfl⟩ (.cons ⟨by simp [namedTask], rfl⟩
    (.cons ⟨taskLocked_iff, rfl⟩ (.cons ⟨by simp [namedTask, Option.any_eq_true, or_assoc], rfl⟩
      (.cons ⟨maskBusy_iff fun _ => ⟨hsized, howned⟩, rfl⟩ .nil)))))

theorem ownSetPlates_decides (index : Byte) (loaded : Word16) (b : Block) :
    Decides
      [(decide (23 < index.toNat) || decide (999 < loaded.toNat), .badValue), (decide (b.cfg.kind ≠ .warmer), .wrongKind),
        ((namedTask index b).isNone, .badRef), ((namedTask index b).any fun x => decide (x.state = .cancelled), .wrongState)]
      (setPlatesChecks index loaded b) :=
  .cons ⟨by simp, rfl⟩ (.cons ⟨by simp, rfl⟩ (.cons ⟨by simp [namedTask], rfl⟩
    (.cons ⟨by simp [namedTask, Option.any_eq_true], rfl⟩ .nil)))

/-- The plates loaded written into a task (R99). -/
def platesWritten (t : Nat) (k : Task) (loaded : Nat) (b : Block) : Block :=
  setTask t (some { k with platesLoaded := loaded }) b

/-- The plates written, and the condition of the course tested (R99). -/
def platesSet (t : Nat) (k : Task) (loaded : Nat) (b : Block) : Block := testPlates k.course (platesWritten t k loaded b)

section
variable {t loaded : Nat} {k : Task} {b : Block}

theorem platesSet_plan : (platesSet t k loaded b).plan = (platesWritten t k loaded b).plan :=
  testPlates_plan _ _

theorem platesSet_frame : changesOnly [.plan, .line, .pages, .pager, .port] b (platesSet t k loaded b) :=
  changesOnly_trans (changesOnly_mono (setTask_frame t _ b) (by decide))
    (changesOnly_mono (testPlates_work _ _).frame (by decide))

theorem testPlates_ready {i : Nat} {c : Course} (hkind : b.cfg.kind = .warmer) (hat : courseAt i b = some c)
    (hready : plateCondition i b = true) : testPlates i b = resolved .platesShort c.tag b := by
  rw [testPlates, hat]
  exact if_pos ⟨hkind, hready⟩

theorem testPlates_short {i : Nat} (hshort : plateCondition i b = false) : testPlates i b = b := by
  unfold testPlates
  split
  · exact if_neg fun h => by simp [hshort] at h
  · rfl

theorem platesSet_resolves {c : Course} (hkind : b.cfg.kind = .warmer) (hat : courseAt k.course b = some c)
    (hready : plateCondition k.course (platesWritten t k loaded b) = true) :
    resolveMade { kind := .platesShort, subject := c.tag } b (platesSet t k loaded b) := by
  have hcourse : courseAt k.course (platesWritten t k loaded b) = some c := hat
  rw [platesSet, testPlates_ready (b := platesWritten t k loaded b) hkind hcourse hready]
  exact resolveMade_of_raisesNone (raisesNone_setTask t _ b) (PageActs.refl _)

/-- The condition tested is that of the tasks as they then stand. -/
theorem platesSet_ready {i : Nat} : plateCondition i (platesWritten t k loaded b) = true ↔
    ∀ u x, taskAt u (platesSet t k loaded b) = some x → x.course = i → x.state.live = true →
      x.platesRequired ≤ x.platesLoaded := by
  simp only [plateCondition_iff, taskAt_of_plan platesSet_plan]

end

/-- Settles O41: the owners run the stated checks and write one task. -/
theorem tasksArePostedEditedAndLoaded : Obligations.TasksArePostedEditedAndLoaded := by
  refine ⟨fun s tag profile mask sensor plates why hp hw hwhy => ?_,
    fun s index profile mask sensor plates why hp hw howned hsized hwhy => ?_, fun s index loaded why hp hw hwhy => ?_⟩
  · obtain ⟨hrefused, haccepted⟩ := ownPostTask_answers (b := deliver s.block) hwhy
    refine completes_answers rfl hp hw hrefused fun hnone => ?_
    obtain ⟨i, c, t, hlocated, hplace, hown⟩ := haccepted hnone
    have hchange := courseChange_derives i (setTask t (some (postedTask i profile mask sensor plates)) (deliver s.block))
    have htask (u : Nat) := taskAt_of_tasks hchange.tasks u
    refine ⟨_, _, hown, i, c, t, hlocated, hplace, answeredWith_of_held ?_, ?_, fun u hu => ?_, ?_⟩
    · simp [setTask]
    · rw [taskAt_answer, htask]
      exact taskAt_setTask_lt (taskPlace_lt hplace) _
    · rw [taskAt_answer, htask]
      exact taskAt_setTask_ne hu _ _
    · exact answered_frame (by decide)
        (changesOnly_trans (changesOnly_mono (setTask_frame t _ _) (by decide)) hchange.frame) _
  · have hlength : s.block.plan.tasks.length = 24 := by
      simp only [tablesSized, Bool.and_eq_true, decide_eq_true_eq] at hsized
      obtain ⟨⟨⟨⟨_, hlength⟩, _⟩, _⟩, _⟩ := hsized
      exact hlength
    refine completes_checked (own := ownEditTask index profile mask sensor plates) rfl hp hw rfl
      (ownEditTask_decides profile mask sensor plates (b := deliver s.block) howned hlength) hwhy fun hpass => ?_
    have hused := not_of_firstReason_none hpass (_, .badRef) (List.mem_cons_of_mem _ (List.mem_cons_of_mem _ List.mem_cons_self))
    obtain ⟨k, hat⟩ := Option.ne_none_iff_exists'.1 hused
    have hnamed : namedTask index (deliver s.block) = some k := hat
    rw [hnamed]
    refine ⟨_, _, rfl, k, hat, answeredWith_of rfl rfl, eventsStand_of_port rfl _, rfl, answered_frame (by decide) ?_ _⟩
    exact changesOnly_mono (setTask_frame _ _ _) (by decide)
  · refine completes_checked (own := ownSetPlates index loaded) rfl hp hw rfl
      (ownSetPlates_decides index loaded (deliver s.block)) hwhy fun hpass => ?_
    have hused := not_of_firstReason_none hpass (_, .badRef) (List.mem_cons_of_mem _ (List.mem_cons_of_mem _ List.mem_cons_self))
    have hkind := not_not.1 (not_of_firstReason_none hpass (_, .wrongKind) (List.mem_cons_of_mem _ List.mem_cons_self))
    obtain ⟨k, hat⟩ := Option.ne_none_iff_exists'.1 hused
    have hnamed : namedTask index (deliver s.block) = some k := hat
    rw [hnamed]
    have hheld : (platesSet index.toNat k loaded.toNat (deliver s.block)).held = (deliver s.block).held := by
      simp [platesSet, platesWritten, setTask]
    have hready := platesSet_ready (t := index.toNat) (k := k) (loaded := loaded.toNat) (b := deliver s.block) (i := k.course)
    refine ⟨platesSet index.toNat k loaded.toNat (deliver s.block), [], rfl, k, hat, answeredWith_of_held hheld,
      platesSet_plan, ⟨fun c hc hall => ?_, fun hnot => ?_⟩, answered_frame (by decide) platesSet_frame _⟩
    · exact platesSet_resolves (b := deliver s.block) hkind hc (hready.2 hall)
    · have hshort : plateCondition k.course (platesWritten index.toNat k loaded.toNat (deliver s.block)) = false :=
        Bool.eq_false_iff.2 fun h => hnot (hready.1 h)
      rw [platesSet, testPlates_short hshort]
      exact ⟨rfl, rfl⟩

end Sys2Proof.Machine
end

section
/-! PROOFS. CANCEL TASK and MARK PASSED (R97, R98, R104, R120). -/

namespace Sys2Proof.Machine

/-! ## What a course change makes of the course (R120, R128, R129) -/

/-- A course with its state and late due derived (R120, R129). -/
def Course.derived (c : Course) (tasks : List Task) (now : Nat) : Course :=
  let state := courseStateOf c tasks now
  let due := lateDueOf c state now
  { c with state, lateDue := due, lateSince := if due ∧ c.lateDue = false then now else c.lateSince }

section
variable {i : Nat} {c : Course} {b : Block}

theorem courseAt_storeCourseState (hat : courseAt i b = some c) (new : CourseState) :
    courseAt i (storeCourseState i new b) = some { c with state := new } := by
  rw [storeCourseState, hat]
  dsimp only
  split_ifs with hsame
  · rw [hat, hsame]
  · rw [courseAt_of_plan (resolved_plan _ _ _), courseAt_of_plan (offer_plan _ _), courseAt_setCourse_self hat]
  · rw [courseAt_of_plan (offer_plan _ _), courseAt_setCourse_self hat]

theorem courseAt_storeLateDue (hat : courseAt i b = some c) (due : Bool) :
    courseAt i (storeLateDue i due b) =
      some { c with lateDue := due, lateSince := if due ∧ c.lateDue = false then b.now else c.lateSince } := by
  rw [storeLateDue, hat]
  dsimp only
  split_ifs
  · rw [courseAt_of_plan (raise_plan _ _ _), courseAt_setCourse_self hat]
  · rw [courseAt_setCourse_self hat]

theorem courseAt_deriveCourse (hat : courseAt i b = some c) :
    courseAt i (deriveCourse i b) = some (c.derived (courseTasks i b) b.now) := by
  rw [deriveCourse, hat]
  dsimp only
  rw [courseAt_storeLateDue (courseAt_storeCourseState hat _)]
  have hnow (new : CourseState) : (storeCourseState i new b).now = b.now := (storeCourseState_derives i new b).clock
  rw [hnow]
  rfl

theorem courseAt_evalReady (hat : courseAt i b = some c) :
    courseAt i (evalReady i b) = some { c with allReady := allReadyOf c b } := by
  rw [evalReady, hat]
  dsimp only
  split_ifs
  · rw [courseAt_of_plan (raise_plan _ _ _), courseAt_setCourse_self hat]
  · rw [courseAt_setCourse_self hat]

/-- A course after a course change: derived, its all-ready evaluated (R121). -/
theorem courseAt_courseChange (hat : courseAt i b = some c) :
    courseAt i (courseChange i b) = some { c.derived (courseTasks i b) b.now with
      allReady := allReadyOf (c.derived (courseTasks i b) b.now) (deriveCourse i b) } := by
  rw [courseChange, courseAt_of_plan (markCourse_plan _), courseAt_evalReady (courseAt_deriveCourse hat)]

/-- A state that differs from the one held is told (R120). -/
theorem storeCourseState_offers (hat : courseAt i b = some c) {new : CourseState} (hnew : new ≠ c.state) :
    offered (.courseState c.tag c.state new c.version) b (storeCourseState i new b) := by
  have htold := offered_offer_of_port (e := .courseState c.tag c.state new c.version) (s := b)
    (b := setCourse i (some { c with state := new }) b) rfl rfl
  rw [storeCourseState, hat]
  dsimp only
  rw [if_neg hnew]
  split_ifs
  · exact offered_mono htold (resolved_work _ _ _).toEventsGrow
  · exact htold

theorem courseChange_offers (hat : courseAt i b = some c) (hnew : courseStateOf c (courseTasks i b) b.now ≠ c.state) :
    offered (.courseState c.tag c.state (courseStateOf c (courseTasks i b) b.now) c.version) b (courseChange i b) := by
  have hderived : deriveCourse i b = storeLateDue i (lateDueOf c (courseStateOf c (courseTasks i b) b.now) b.now)
      (storeCourseState i (courseStateOf c (courseTasks i b) b.now) b) := by
    rw [deriveCourse, hat]
  rw [courseChange, hderived]
  refine offered_mono (storeCourseState_offers hat hnew) ?_
  exact ((storeLateDue_derives i _ _).toEventsGrow.trans (evalReady_derives i _).toEventsGrow).trans
    (markCourse_derives _).toEventsGrow

end

/-! ## A task that ends (R97, R98) -/

/-- A task that leaves the live states: its edit dropped, its channels wanting 0, the change told (R97, R98, R104). -/
def taskEnded (t : Nat) (k : Task) (last : TaskState) (b : Block) : Block :=
  taskEvent t k.state (releaseWants k.holds (setTask t (some { k with state := last, edit := none }) b))

section
variable {t : Nat} {k : Task} {last : TaskState} {b : Block}

theorem taskEnded_act (spared : Nat → Prop) : TaskAct t spared b (taskEnded t k last b) :=
  ((setTask_act _ b).trans (releaseWants_act _ _)).trans (taskEvent_act _ _)

theorem taskEnded_frame : changesOnly [.plan, .drive, .port] b (taskEnded t k last b) :=
  changesOnly_trans (changesOnly_mono (setTask_frame t _ b) (by decide))
    (changesOnly_trans (changesOnly_mono (releaseWants_frame _ _) (by decide))
      (changesOnly_mono (taskEvent_frame _ _ _) (by decide)))

theorem taskAt_taskEnded (hat : taskAt t b = some k) :
    taskAt t (taskEnded t k last b) = some { k with state := last, edit := none } := by
  rw [taskEnded, taskAt_of_plan (taskEvent_plan _ _ _), taskAt_of_plan (releaseWants_plan _ _), taskAt_setTask hat]

theorem taskEnded_wants {j : Nat} (hj : j < b.drive.channels.length) (hheld : k.holds.getLsbD j = true) :
    (channelAt j (taskEnded t k last b)).want = {} := by
  have hwant := releaseWants_want hheld (b := setTask t (some { k with state := last, edit := none }) b) hj
  exact (taskEvent_act (t := t) (spared := fun _ => True) _ _).wants j trivial hwant

theorem taskEnded_offers (hat : taskAt t b = some k) :
    offered (.taskState t ((courseAt k.course b).elim 0 fun c => c.tag) k.state last k.fault k.stageIndex) b
      (taskEnded t k last b) := by
  set d := releaseWants k.holds (setTask t (some { k with state := last, edit := none }) b) with hd
  have hrecord : taskAt t d = some { k with state := last, edit := none } := by
    rw [hd, taskAt_of_plan (releaseWants_plan _ _), taskAt_setTask hat]
  have hact : TaskAct t (fun _ => True) b d := (setTask_act _ b).trans (releaseWants_act _ _)
  have htold := taskEvent_offers hrecord k.state
  rw [hact.courses] at htold
  exact offered_of_grows hact.toEventsGrow htold

end

/-! ## CANCEL TASK (R97) -/

theorem not_live_iff {x : TaskState} : (!x.live) = true ↔ x = .passed ∨ x = .cancelled := by cases x <;> decide

theorem ownCancelTask_decides (index : Byte) (b : Block) :
    Decides
      [(decide (23 < index.toNat), .badValue), ((namedTask index b).isNone, .badRef),
        ((namedTask index b).any fun x => taskLocked x b, .locked), ((namedTask index b).any fun x => !x.state.live, .wrongState)]
      (cancelTaskChecks index b) :=
  .cons ⟨by simp, rfl⟩ (.cons ⟨by simp [namedTask], rfl⟩ (.cons ⟨taskLocked_iff, rfl⟩
    (.cons ⟨by simp only [namedTask, Option.any_eq_true, not_live_iff], rfl⟩ .nil)))

/-- The part after CANCEL TASK of a live task (R97). -/
def taskCancelled (t : Nat) (k : Task) (b : Block) : Block :=
  testPlates k.course (courseChange k.course (taskEnded t k .cancelled b))

section
variable {t : Nat} {k : Task} {b : Block}

theorem taskAt_taskCancelled (u : Nat) : taskAt u (taskCancelled t k b) = taskAt u (taskEnded t k .cancelled b) := by
  rw [taskCancelled, taskAt_of_plan (testPlates_plan _ _), taskAt_of_tasks (courseChange_act _ _).tasks]

theorem taskCancelled_grows : EventsGrow (taskEnded t k .cancelled b) (taskCancelled t k b) :=
  (courseChange_act _ _).toEventsGrow.trans (testPlates_work _ _).toEventsGrow

theorem channelAt_taskCancelled (j : Nat) :
    channelAt j (taskCancelled t k b) = channelAt j (taskEnded t k .cancelled b) := by
  have htested : (taskCancelled t k b).drive = (courseChange k.course (taskEnded t k .cancelled b)).drive :=
    (testPlates_work _ _).frame .drive (by decide)
  rw [channelAt, htested, courseChange_drive, channelAt]

theorem taskCancelled_frame : changesOnly [.plan, .drive, .line, .pages, .pager, .port] b (taskCancelled t k b) :=
  changesOnly_trans (changesOnly_mono taskEnded_frame (by decide))
    (changesOnly_trans (changesOnly_mono (courseChange_derives _ _).frame (by decide))
      (changesOnly_mono (testPlates_work _ _).frame (by decide)))

end

/-! ## MARK PASSED (R98) -/

/-- Acts beside task `t`: it and the courses stand, events joined the queue, and a channel that wants 0 goes on wanting 0. -/
structure Beside (t : Nat) (b b' : Block) : Prop extends EventsGrow b b' where
  task : taskAt t b' = taskAt t b
  courses : ∀ i, courseAt i b' = courseAt i b
  channels : b'.drive.channels.length = b.drive.channels.length
  wants : ∀ j, (channelAt j b).want = {} → (channelAt j b').want = {}

theorem Beside.refl (t : Nat) (b : Block) : Beside t b b := ⟨.refl b, rfl, fun _ => rfl, rfl, fun _ h => h⟩

theorem Beside.trans {t : Nat} {b c d : Block} (h : Beside t b c) (g : Beside t c d) : Beside t b d :=
  ⟨h.toEventsGrow.trans g.toEventsGrow, g.task.trans h.task, fun i => (g.courses i).trans (h.courses i),
    g.channels.trans h.channels, fun j hw => g.wants j (h.wants j hw)⟩

theorem TaskAct.beside {t u : Nat} {b b' : Block} (h : TaskAct u (fun _ => True) b b') (hne : t ≠ u) : Beside t b b' :=
  ⟨h.toEventsGrow, h.others t hne, h.courses, h.length, fun j hw => h.wants j trivial hw⟩

theorem passTask_ends {i t : Nat} {k : Task} {b : Block} (hat : taskAt t b = some k) (hc : k.course = i)
    (hlive : k.state.live = true) : passTask i t b = taskEnded t k .passed b := by
  rw [passTask, hat]
  exact if_pos ⟨hc, hlive⟩

theorem passTask_idle {i t : Nat} {b : Block} (h : ∀ k, taskAt t b = some k → ¬(k.course = i ∧ k.state.live = true)) :
    passTask i t b = b := by
  unfold passTask
  split
  · rename_i k hat
    exact if_neg (h k hat)
  · rfl

theorem passTask_cases (i t : Nat) (b : Block) : (∃ k, passTask i t b = taskEnded t k .passed b) ∨ passTask i t b = b := by
  by_cases h : ∃ k, taskAt t b = some k ∧ k.course = i ∧ k.state.live = true
  · obtain ⟨k, hat, hc, hlive⟩ := h
    exact .inl ⟨k, passTask_ends hat hc hlive⟩
  · exact .inr (passTask_idle fun k hat hk => h ⟨k, hat, hk⟩)

theorem passTask_act (i t : Nat) (b : Block) : TaskAct t (fun _ => True) b (passTask i t b) := by
  obtain ⟨k, h⟩ | h := passTask_cases i t b <;> rw [h]
  · exact taskEnded_act _
  · exact .refl b

theorem passTask_frame (i t : Nat) (b : Block) : changesOnly [.plan, .drive, .port] b (passTask i t b) := by
  obtain ⟨k, h⟩ | h := passTask_cases i t b <;> rw [h]
  · exact taskEnded_frame
  · exact changesOnly_refl _ b

/-- The tasks of a list of entries passed, in its order (R98). -/
def tasksPassed (i : Nat) (ts : List Nat) (b : Block) : Block := ts.foldl (fun acc t => passTask i t acc) b

theorem tasksPassed_beside {i t : Nat} {ts : List Nat} (h : t ∉ ts) (b : Block) : Beside t b (tasksPassed i ts b) := by
  induction ts generalizing b with
  | nil => exact .refl t b
  | cons u rest ih =>
    obtain ⟨hne, hrest⟩ : t ≠ u ∧ t ∉ rest := by simpa using h
    exact ((passTask_act i u b).beside hne).trans (ih hrest _)

theorem tasksPassed_frame (i : Nat) (ts : List Nat) (b : Block) :
    changesOnly [.plan, .drive, .port] b (tasksPassed i ts b) := by
  induction ts generalizing b with
  | nil => exact changesOnly_refl _ b
  | cons u rest ih => exact changesOnly_trans (passTask_frame i u b) (ih _)

/-- One task among those passed: its own turn, with the others beside it. -/
theorem tasksPassed_split {i t : Nat} {ts : List Nat} (hnodup : ts.Nodup) (ht : t ∈ ts) (b : Block) :
    ∃ d, Beside t b d ∧ Beside t (passTask i t d) (tasksPassed i ts b) := by
  obtain ⟨pre, post, rfl⟩ := List.append_of_mem ht
  obtain ⟨_, hpost, hdisjoint⟩ := List.nodup_append.1 hnodup
  have hpre : t ∉ pre := fun h => hdisjoint t h t List.mem_cons_self rfl
  refine ⟨tasksPassed i pre b, tasksPassed_beside hpre b, ?_⟩
  have hsplit : tasksPassed i (pre ++ t :: post) b = tasksPassed i post (passTask i t (tasksPassed i pre b)) := by
    simp only [tasksPassed, List.foldl_append, List.foldl_cons]
  rw [hsplit]
  exact tasksPassed_beside (List.nodup_cons.1 hpost).1 _

/-- What passing the tasks of a course makes of one task in the list (R98, R104). -/
theorem tasksPassed_task {i t : Nat} {k : Task} {ts : List Nat} {b : Block} (hnodup : ts.Nodup) (ht : t ∈ ts)
    (hat : taskAt t b = some k) :
    taskAt t (tasksPassed i ts b) =
      some (if k.course = i ∧ k.state.live = true then { k with state := .passed, edit := none } else k) := by
  obtain ⟨d, hbefore, hafter⟩ := tasksPassed_split (i := i) hnodup ht b
  have hd : taskAt t d = some k := hbefore.task.trans hat
  rw [hafter.task]
  split_ifs with h
  · rw [passTask_ends hd h.1 h.2, taskAt_taskEnded hd]
  · have hidle : ∀ x, taskAt t d = some x → ¬(x.course = i ∧ x.state.live = true) := by simpa [hd] using h
    rw [passTask_idle hidle, hd]

section
variable {i t : Nat} {k : Task} {ts : List Nat} {b : Block}

theorem tasksPassed_offers (hnodup : ts.Nodup) (ht : t ∈ ts) (hat : taskAt t b = some k) (hc : k.course = i)
    (hlive : k.state.live = true) :
    offered (.taskState t ((courseAt i b).elim 0 fun c => c.tag) k.state .passed k.fault k.stageIndex) b
      (tasksPassed i ts b) := by
  obtain ⟨d, hbefore, hafter⟩ := tasksPassed_split (i := i) hnodup ht b
  have hd : taskAt t d = some k := hbefore.task.trans hat
  rw [passTask_ends hd hc hlive] at hafter
  have htold := taskEnded_offers (last := .passed) hd
  rw [hbefore.courses, hc] at htold
  exact offered_mono (offered_of_grows hbefore.toEventsGrow htold) hafter.toEventsGrow

theorem tasksPassed_wants (hnodup : ts.Nodup) (ht : t ∈ ts) (hat : taskAt t b = some k) (hc : k.course = i) {j : Nat}
    (hj : j < b.drive.channels.length) (hheld : k.holds.getLsbD j = true) :
    (channelAt j (tasksPassed i ts b)).want = {} := by
  obtain ⟨d, hbefore, hafter⟩ := tasksPassed_split (i := i) hnodup ht b
  have hd : taskAt t d = some k := hbefore.task.trans hat
  have hlive := (holds_iff.1 hheld).1
  rw [passTask_ends hd hc hlive] at hafter
  exact hafter.wants j (taskEnded_wants (hbefore.channels ▸ hj) hheld)

theorem tasksPassed_courses (i j : Nat) (ts : List Nat) (b : Block) :
    courseAt j (tasksPassed i ts b) = courseAt j b := by
  induction ts generalizing b with
  | nil => rfl
  | cons u rest ih => exact (ih _).trans ((passTask_act i u b).courses j)

end

/-- The passed flag of a course set (R98). -/
def flagSet (i : Nat) (c : Course) (b : Block) : Block := setCourse i (some { c with passed := true }) b

/-- The part with the course's flag set and its tasks passed, before the course change (R98). -/
def flagPassed (i : Nat) (c : Course) (b : Block) : Block :=
  testPlates i (tasksPassed i taskIndices (flagSet i c b))

/-- The part after MARK PASSED of a course not yet passed (R98). -/
def coursePassed (i : Nat) (c : Course) (b : Block) : Block := courseChange i (flagPassed i c b)

section
variable {i t : Nat} {c : Course} {k : Task} {b : Block}

theorem mem_taskIndices : t ∈ taskIndices ↔ t < 24 := List.mem_range

theorem taskIndices_nodup : taskIndices.Nodup := List.nodup_range

theorem courseAt_flagSet (hcourse : courseAt i b = some c) : courseAt i (flagSet i c b) = some { c with passed := true } :=
  courseAt_setCourse_self hcourse

theorem flagPassed_plan : (flagPassed i c b).plan = (tasksPassed i taskIndices (flagSet i c b)).plan :=
  testPlates_plan _ _

theorem taskAt_coursePassed (ht : t < 24) (hat : taskAt t b = some k) :
    taskAt t (coursePassed i c b) =
      some (if k.course = i ∧ k.state.live = true then { k with state := .passed, edit := none } else k) := by
  rw [coursePassed, taskAt_of_tasks (courseChange_act _ _).tasks, taskAt_of_plan flagPassed_plan]
  exact tasksPassed_task taskIndices_nodup (mem_taskIndices.2 ht) hat

theorem coursePassed_grows : EventsGrow (tasksPassed i taskIndices (flagSet i c b)) (coursePassed i c b) :=
  (testPlates_work _ _).toEventsGrow.trans (courseChange_act _ _).toEventsGrow

theorem coursePassed_tells (hcourse : courseAt i b = some c) (ht : t < 24) (hat : taskAt t b = some k) (hc : k.course = i)
    (hlive : k.state.live = true) :
    offered (.taskState t c.tag k.state .passed k.fault k.stageIndex) b (coursePassed i c b) := by
  have htold := tasksPassed_offers (b := flagSet i c b) taskIndices_nodup (mem_taskIndices.2 ht) hat hc hlive
  rw [courseAt_flagSet hcourse] at htold
  exact offered_mono htold coursePassed_grows

theorem coursePassed_wants (ht : t < 24) (hat : taskAt t b = some k) (hc : k.course = i) {j : Nat}
    (hj : j < b.drive.channels.length) (hheld : k.holds.getLsbD j = true) : (channelAt j (coursePassed i c b)).want = {} := by
  have hdrive : (coursePassed i c b).drive = (tasksPassed i taskIndices (flagSet i c b)).drive :=
    (courseChange_drive _ _).trans ((testPlates_work _ _).frame .drive (by decide))
  rw [channelAt, hdrive]
  exact tasksPassed_wants (b := flagSet i c b) taskIndices_nodup (mem_taskIndices.2 ht) hat hc hj hheld

theorem courseAt_flagPassed (hcourse : courseAt i b = some c) :
    courseAt i (flagPassed i c b) = some { c with passed := true } := by
  rw [courseAt_of_plan flagPassed_plan, tasksPassed_courses, courseAt_flagSet hcourse]

theorem courseStateOf_passed (h : c.passed = true) (tasks : List Task) (now : Nat) : courseStateOf c tasks now = .passed :=
  if_pos h

theorem courseAt_coursePassed (hcourse : courseAt i b = some c) :
    ∃ c', courseAt i (coursePassed i c b) = some c' ∧ c'.passed = true ∧ c'.state = .passed ∧ c'.version = c.version :=
  ⟨_, courseAt_courseChange (courseAt_flagPassed hcourse), rfl,
    courseStateOf_passed (c := { c with passed := true }) rfl (courseTasks i (flagPassed i c b)) (flagPassed i c b).now, rfl⟩

theorem coursePassed_offers (hcourse : courseAt i b = some c) (hstate : c.state ≠ .passed) :
    offered (.courseState c.tag c.state .passed c.version) b (coursePassed i c b) := by
  have hgrows : EventsGrow b (flagPassed i c b) := by
    have hpassed (ts : List Nat) (d : Block) : EventsGrow d (tasksPassed i ts d) :=
      .foldl (fun d u => (passTask_act i u d).toEventsGrow) ts d
    exact ((setCourse_work i _ b).toEventsGrow.trans (hpassed _ _)).trans (testPlates_work _ _).toEventsGrow
  have htold := courseChange_offers (courseAt_flagPassed hcourse)
    (by rw [courseStateOf_passed rfl]; exact hstate.symm)
  rw [courseStateOf_passed rfl] at htold
  exact offered_of_grows hgrows htold

theorem coursePassed_frame : changesOnly [.plan, .drive, .line, .pages, .pager, .port] b (coursePassed i c b) :=
  changesOnly_trans (changesOnly_mono (setCourse_work i _ b).frame (by decide))
    (changesOnly_trans (changesOnly_mono (tasksPassed_frame _ _ _) (by decide))
      (changesOnly_trans (changesOnly_mono (testPlates_work _ _).frame (by decide))
        (changesOnly_mono (courseChange_derives _ _).frame (by decide))))

end

/-- CANCEL TASK of a live task, read through its answer. -/
theorem cancelTask_accepted {s : Block} {t : Nat} {k : Task} (hat : taskAt t s = some k) :
    let b := answer { code := 16, number := s.port.commandNumber, refused := none, data := [] }
      (numbered8 (taskCancelled t k (deliver s)))
    answeredWith 16 none [] s b ∧ taskAt t b = some { k with state := .cancelled, edit := none } ∧
      (∀ u, u ≠ t → taskAt u b = taskAt u s) ∧
      (∀ i, i < s.drive.channels.length → k.holds.getLsbD i = true → (channelAt i b).want = {}) ∧
      offered (.taskState t ((courseAt k.course s).elim 0 fun c => c.tag) k.state .cancelled k.fault k.stageIndex) s b ∧
      changesOnly [.plan, .drive, .line, .pages, .pager, .port] s b := by
  have hheld : (taskCancelled t k (deliver s)).held = (deliver s).held := by simp [taskCancelled, taskEnded, setTask]
  have htold : offered (.taskState t ((courseAt k.course s).elim 0 fun c => c.tag) k.state .cancelled k.fault k.stageIndex)
      (deliver s) (taskCancelled t k (deliver s)) :=
    offered_mono (taskEnded_offers (b := deliver s) hat) taskCancelled_grows
  refine ⟨answeredWith_of_held hheld, ?_, fun u hu => ?_, fun j hj hholds => ?_, offered_of_deliver htold _,
    answered_frame (by decide) taskCancelled_frame _⟩
  · rw [taskAt_answer, taskAt_taskCancelled, taskAt_taskEnded (b := deliver s) hat]
  · rw [taskAt_answer, taskAt_taskCancelled, (taskEnded_act fun _ => True).others u hu]
    rfl
  · rw [channelAt_answer, channelAt_taskCancelled, taskEnded_wants (b := deliver s) hj hholds]

theorem coursePassed_held (i : Nat) (c : Course) (b : Block) : (coursePassed i c b).held = b.held := by
  have hpassed (ts : List Nat) (d : Block) : (tasksPassed i ts d).held = d.held := held_foldl _ _ fun d u => by simp
  simp [coursePassed, flagPassed, hpassed, flagSet, setCourse]

/-- Settles O42: each task that ends is written, told and its channels released, and the course is derived after it. -/
theorem tasksEndAndReleaseChannels : Obligations.TasksEndAndReleaseChannels := by
  refine ⟨fun s index why hp hw hwhy => ?_, fun s tag i c hp hw hlocated => ⟨fun hnot => ?_, fun hpassed => ?_⟩⟩
  · refine completes_checked (own := ownCancelTask index) rfl hp hw rfl (ownCancelTask_decides index (deliver s.block)) hwhy
      fun hpass => ?_
    have hused := not_of_firstReason_none hpass (_, .badRef) (List.mem_cons_of_mem _ List.mem_cons_self)
    obtain ⟨k, hat⟩ := Option.ne_none_iff_exists'.1 hused
    have hnamed : namedTask index (deliver s.block) = some k := hat
    rw [hnamed]
    exact ⟨taskCancelled index.toNat k (deliver s.block), [], rfl, k, hat, cancelTask_accepted hat⟩
  · have hcourse : courseAt i (deliver s.block) = some c := (locateCourse_eq_some.1 hlocated).1
    have hfound : locateCourse tag.toNat (deliver s.block) = some (i, c) := hlocated
    refine completes_accepted rfl hp hw (own := ownMarkPassed tag) (after := coursePassed i c (deliver s.block)) (data := []) ?_
      ⟨answeredWith_of_held (coursePassed_held _ _ _), ?_, fun hstate => ?_, fun t k ht hat => ⟨?_, fun hc hlive => ?_⟩,
        fun t k j ht hat hc hj hholds => ?_, answered_frame (by decide) coursePassed_frame _⟩
    · rw [ownMarkPassed, hfound]
      simp only [hnot]
      rfl
    · rw [courseAt_answer]
      exact courseAt_coursePassed hcourse
    · exact offered_of_deliver (coursePassed_offers hcourse hstate) _
    · rw [taskAt_answer]
      exact taskAt_coursePassed (b := deliver s.block) ht hat
    · exact offered_of_deliver (coursePassed_tells hcourse ht hat hc hlive) _
    · rw [channelAt_answer]
      exact coursePassed_wants (b := deliver s.block) ht hat hc hj hholds
  · have hfound : locateCourse tag.toNat (deliver s.block) = some (i, c) := hlocated
    refine completes_accepted rfl hp hw (own := ownMarkPassed tag) (after := deliver s.block) (data := []) ?_
      ⟨answeredWith_of rfl rfl, eventsStand_of_port rfl _, answered_frame (by decide) (changesOnly_refl _ _) _⟩
    rw [ownMarkPassed, hfound]
    simp only [hpassed, if_true]

end Sys2Proof.Machine
end

section
/-! PROOFS. POST COURSE, LOCK COURSE, UNLOCK COURSE and DELETE COURSE (R90 to R92, R121, R130). -/

namespace Sys2Proof.Machine

/-! ## The course change of a command (R121) -/

theorem takes_of_station {s b : Block} (hs : b.station = s.station) (hw : s.station.state.works = true)
    (hlocal : s.station.state ≠ .localOnly) : b.lineTakes = true :=
  takes_of_works (hs ▸ hw) (hs ▸ hlocal)

theorem courseChange_slot {i : Nat} {s b : Block} (hs : b.station = s.station) (hw : s.station.state.works = true)
    (hlocal : s.station.state ≠ .localOnly) : (courseChange i b).line.courseSlot = true := by
  refine markCourse_slot (takes_of_station ?_ hw hlocal)
  rw [evalReady_station, deriveCourse_station, hs]

theorem raisesNone_markCourse (b : Block) : RaisesNone b (markCourse b) := by
  have htakes : (markCourse b).lineTakes = b.lineTakes := by rw [Block.lineTakes, markCourse_station, Block.lineTakes]
  exact raisesNone_of_pages ⟨(markCourse_work b).toEventsGrow, (markCourse_work b).frames, htakes, by rw [markCourse_station]⟩
    (by simp)

/-! ## POST COURSE (R90) -/

theorem freeCourse_eq_none {b : Block} : freeCourse b = none ↔ ∀ e ∈ b.plan.courses, e ≠ none := by
  simp [freeCourse, Option.ne_none_iff_isSome]

theorem freeCourse_lt {i : Nat} {b : Block} (h : freeCourse b = some i) : i < b.plan.courses.length :=
  (List.findIdx?_eq_some_iff_findIdx_eq.1 h).1

theorem courseAt_setCourse_lt {i : Nat} {x : Option Course} {b : Block} (h : i < b.plan.courses.length) :
    courseAt i (setCourse i x b) = x := by
  rw [courseAt_eq]
  simp [setCourse, h]

theorem courseIndex_isSome_iff {tag : Nat} {b : Block} : (courseIndex tag b).isSome = true ↔ locateCourse tag b ≠ none := by
  rw [Option.isSome_iff_ne_none, Ne, Ne, not_iff_not]
  exact ⟨fun h => by simp [locateCourse, h], courseIndex_of_none⟩

theorem margin_iff {lead : Option Word16} :
    900 < (lead.map BitVec.toNat).getD 60 ↔ ∃ m, lead = some m ∧ 900 < m.toNat := by
  cases lead <;> simp

/-- The course that POST COURSE makes (R90). -/
def postedCourse (tag version : Byte) (offset : Word16) (lead : Option Word16) (b : Block) : Course :=
  { tag := tag.toNat, version := version.toNat, passTime := b.now + offset.toNat,
    leadMargin := (lead.map BitVec.toNat).getD 60 }

/-- A course without tasks, not passed, EMPTY as it is and neither late nor all-ready, stands through a course change. -/
theorem courseAt_courseChange_empty {i : Nat} {c : Course} {b : Block} (hat : courseAt i b = some c) (hnone : courseTasks i b = [])
    (hstate : c.passed = false ∧ c.state = .empty) (hrest : c.lateDue = false ∧ c.allReady = false) :
    courseAt i (courseChange i b) = some c := by
  obtain ⟨hpassed, hempty⟩ := hstate
  obtain ⟨hlate, hready⟩ := hrest
  have hderived : c.derived [] b.now = c := by
    cases c
    cases hpassed
    cases hempty
    cases hlate
    rfl
  have hnotReady (d : Block) : allReadyOf c d = false := by simp [allReadyOf, hempty]
  rw [courseAt_courseChange hat, hnone, hderived, hnotReady, ← hready]

/-- The part after POST COURSE (R90, R121). -/
def coursePosted (i : Nat) (c : Course) (b : Block) : Block := courseChange i (setCourse i (some c) b)

theorem ownPostCourse_accepts {tag version : Byte} {offset : Word16} {lead : Option Word16} {i : Nat} {b : Block}
    (htag : courseIndex tag.toNat b = none) (hfree : freeCourse b = some i) (hlead : ∀ m, lead = some m → m.toNat ≤ 900) :
    ownPostCourse tag version offset lead b =
      .ok (coursePosted i (postedCourse tag version offset lead b) b, [byteOf i]) := by
  have hgood : ¬(900 < (lead.map BitVec.toNat).getD 60 ∨ (courseIndex tag.toNat b).isSome = true) := by
    rintro (hmargin | hheld)
    · obtain ⟨m, hm, hlarge⟩ := margin_iff.1 hmargin
      exact absurd (hlead m hm) (by omega)
    · simp [htag] at hheld
  rw [ownPostCourse]
  dsimp only
  rw [if_neg hgood, hfree]
  rfl

theorem ownPostCourse_refuses {tag version : Byte} {offset : Word16} {lead : Option Word16} {why : Reason} {b : Block}
    (h : firstReason [((∃ m, lead = some m ∧ 900 < m.toNat) ∨ locateCourse tag.toNat b ≠ none, .badValue),
      (∀ e ∈ b.plan.courses, e ≠ none, .tableFull)] (some why)) :
    ownPostCourse tag version offset lead b = .error why := by
  have hbad : (900 < (lead.map BitVec.toNat).getD 60 ∨ (courseIndex tag.toNat b).isSome = true) ↔
      ((∃ m, lead = some m ∧ 900 < m.toNat) ∨ locateCourse tag.toNat b ≠ none) := by
    rw [margin_iff, courseIndex_isSome_iff]
  rw [ownPostCourse]
  dsimp only
  obtain ⟨hfails, ⟨⟩⟩ | ⟨hgood, ⟨hfull, ⟨⟩⟩ | ⟨_, ⟨⟩⟩⟩ := h
  · exact if_pos (hbad.2 hfails)
  · rw [if_neg (mt hbad.1 hgood), freeCourse_eq_none.2 hfull]

theorem coursePosted_frame {i : Nat} {c : Course} {b : Block} :
    changesOnly [.plan, .line, .pages, .pager, .port] b (coursePosted i c b) :=
  changesOnly_trans (setCourse_work i _ b).frame (courseChange_derives i _).frame

/-! ## LOCK COURSE and UNLOCK COURSE (R91) -/

/-- What the answer to a command leaves where its owner wrote one entry of the course table alone. -/
theorem setCourse_answered (i code : Nat) (x : Option Course) (s : Block) :
    let b := answer { code := code, number := s.port.commandNumber, refused := none, data := [] }
      (numbered8 (setCourse i x (deliver s)))
    answeredWith code none [] s b ∧ eventsStand s b ∧ b.plan = { s.plan with courses := s.plan.courses.set i x } ∧
      changesOnly [.plan, .port] s b := by
  have hframe : changesOnly [.plan, .port] (deliver s) (setCourse i x (deliver s)) := by simp [changesOnly_iff, setCourse]
  exact ⟨answeredWith_of rfl rfl, eventsStand_of_port rfl _, rfl, answered_frame (by decide) hframe _⟩

theorem ownSetLock_accepts {tag : Byte} {i : Nat} {c : Course} {b : Block} (h : locateCourse tag.toNat b = some (i, c))
    (lock : Bool) : ownSetLock tag lock b = .ok (setCourse i (some { c with lock }) b, []) := by
  rw [ownSetLock, h]

/-! ## DELETE COURSE (R92) -/

/-- The part with a course and its tasks freed (R92). -/
def courseFreed (i : Nat) (b : Block) : Block :=
  b.onPlan fun p => { p with
    courses := p.courses.set i none,
    tasks := p.tasks.map fun e => if e.any fun t => t.course = i then none else e }

/-- The part after DELETE COURSE (R92, R121, R130). -/
def courseDeleted (i tag : Nat) (b : Block) : Block :=
  markCourse (resolved .courseLate tag (resolved .platesShort tag (courseFreed i b)))

theorem ownDeleteCourse_accepts {tag : Byte} {i : Nat} {c : Course} {b : Block}
    (h : locateCourse tag.toNat b = some (i, c)) (hstate : c.state = .empty ∨ c.state = .passed) :
    ownDeleteCourse tag b = .ok (courseDeleted i c.tag b, []) := by
  rw [ownDeleteCourse, h]
  exact if_pos hstate

theorem ownDeleteCourse_refuses {tag : Byte} {i : Nat} {c : Course} {b : Block}
    (h : locateCourse tag.toNat b = some (i, c)) (hstate : ¬(c.state = .empty ∨ c.state = .passed)) :
    ownDeleteCourse tag b = .error .wrongState := by
  rw [ownDeleteCourse, h]
  exact if_neg hstate

theorem courseDeleted_plan (i tag : Nat) (b : Block) : (courseDeleted i tag b).plan = (courseFreed i b).plan := by
  simp [courseDeleted]

theorem courseDeleted_held (i tag : Nat) (b : Block) : (courseDeleted i tag b).held = b.held := by
  simp [courseDeleted, courseFreed]

theorem courseDeleted_frame (i tag : Nat) (b : Block) :
    changesOnly [.plan, .line, .pages, .pager, .port] b (courseDeleted i tag b) := by
  have hfreed : changesOnly [.plan, .line, .pages, .pager, .port] b (courseFreed i b) := by
    simp [changesOnly_iff, courseFreed]
  exact changesOnly_trans hfreed
    (((resolved_work _ _ _).trans (resolved_work _ _ _)).trans (markCourse_work _)).frame

theorem raisesNone_courseFreed (i : Nat) (b : Block) : RaisesNone b (courseFreed i b) :=
  raisesNone_of_pages ⟨.of_port rfl rfl, List.prefix_refl _, rfl, rfl⟩ rfl

theorem courseDeleted_resolves (i tag : Nat) (b : Block) :
    resolveMade { kind := .platesShort, subject := tag } b (courseDeleted i tag b) ∧
      resolveMade { kind := .courseLate, subject := tag } b (courseDeleted i tag b) := by
  have hfreed := raisesNone_courseFreed i b
  have hshort := raisesNone_resolve { kind := .platesShort, subject := tag } (courseFreed i b)
  have hlate := raisesNone_resolve { kind := .courseLate, subject := tag } (resolved .platesShort tag (courseFreed i b))
  have hmarked := raisesNone_markCourse (resolved .courseLate tag (resolved .platesShort tag (courseFreed i b)))
  exact ⟨resolveMade_of_raisesNone hfreed (hlate.trans hmarked), resolveMade_of_raisesNone (hfreed.trans hshort) hmarked⟩

/-- Settles O39: each owner looks the tag up and writes one entry of the course table, which a course change or the reports
of a deletion leave. -/
theorem coursesArePostedLockedAndDeleted : Obligations.CoursesArePostedLockedAndDeleted := by
  refine ⟨fun s tag version offset lead i hp hw htag hfree hlead hnone => ?_, fun s tag version offset lead why hp hw hwhy => ?_,
    fun s tag hp hw => ⟨fun i c hlocated => ⟨?_, ?_, fun hstate => ?_, fun hempty hpassed => ?_⟩, fun hlost => ?_⟩⟩
  · set c := postedCourse tag version offset lead (deliver s.block)
    have hchange := courseChange_derives i (setCourse i (some c) (deliver s.block))
    have hwritten : courseAt i (setCourse i (some c) (deliver s.block)) = some c := courseAt_setCourse_lt (freeCourse_lt hfree)
    have hheld : (coursePosted i c (deliver s.block)).held = (deliver s.block).held :=
      hchange.held.trans (setCourse_work i _ _).held
    refine completes_accepted rfl hp hw (own := ownPostCourse tag version offset lead)
      (ownPostCourse_accepts (b := deliver s.block) htag hfree hlead)
      ⟨answeredWith_of_held hheld, ?_, fun hlocal => ?_, hchange.tasks, hchange.profiles,
        answered_frame (by decide) coursePosted_frame _⟩
    · rw [courseAt_answer]
      exact courseAt_courseChange_empty hwritten hnone ⟨rfl, rfl⟩ ⟨rfl, rfl⟩
    · exact courseChange_slot (s := s.block) (b := setCourse i (some c) (deliver s.block)) rfl hw hlocal
  · exact completes_refusal (own := ownPostCourse tag version offset lead) rfl hp hw
      (ownPostCourse_refuses (b := deliver s.block) hwhy)
  · exact completes_accepted rfl hp hw (own := ownSetLock tag true) (ownSetLock_accepts (b := deliver s.block) hlocated true)
      (setCourse_answered i 10 _ s.block)
  · exact completes_accepted rfl hp hw (own := ownSetLock tag false)
      (ownSetLock_accepts (b := deliver s.block) hlocated false) (setCourse_answered i 11 _ s.block)
  · obtain ⟨hshort, hlate⟩ := courseDeleted_resolves i c.tag (deliver s.block)
    refine completes_accepted rfl hp hw (own := ownDeleteCourse tag)
      (ownDeleteCourse_accepts (b := deliver s.block) hlocated hstate)
      ⟨answeredWith_of_held (courseDeleted_held _ _ _), courseDeleted_plan i c.tag (deliver s.block), hshort, hlate,
        fun hlocal => ?_, answered_frame (by decide) (courseDeleted_frame _ _ _) _⟩
    refine markCourse_slot (takes_of_station (s := s.block) ?_ hw hlocal)
    rw [resolved_station, resolved_station]
    rfl
  · exact completes_refusal (own := ownDeleteCourse tag) rfl hp hw
      (ownDeleteCourse_refuses (b := deliver s.block) hlocated fun h => h.elim hempty hpassed)
  · have hnot : locateCourse tag.toNat (deliver s.block) = none := hlost
    simp only [List.forall_mem_cons]
    refine ⟨?_, ?_, ?_, ?_, by simp⟩
    · exact completes_refusal (own := ownDeleteCourse tag) rfl hp hw (by rw [ownDeleteCourse, hnot])
    · exact completes_refusal (own := ownSetLock tag true) rfl hp hw (by rw [ownSetLock, hnot])
    · exact completes_refusal (own := ownSetLock tag false) rfl hp hw (by rw [ownSetLock, hnot])
    · exact completes_refusal (own := ownMarkPassed tag) rfl hp hw (by rw [ownMarkPassed, hnot])

end Sys2Proof.Machine
end

section
/-! PROOFS. The stages of a profile: the HOLD stage, the state of a stage, the estimates (R87, R106, R108, R111). -/

namespace Sys2Proof.Machine

/-! ## The HOLD stage and the state of a stage (R87, R108) -/

section
variable {d : Direct} {i : Nat}

theorem holdIndex_isSome (d : Direct) : d.holdIndex.isSome = hasHold d := List.findIdx?_isSome

/-- A HOLD stands among the first stages exactly where the first HOLD does. -/
theorem holdBefore_iff : holdBefore d i = true ↔ ∃ h, d.holdIndex = some h ∧ h < i := by
  rw [holdBefore, ← List.findIdx?_isSome, List.findIdx?_take]
  unfold Direct.holdIndex
  cases List.findIdx? (fun x : Stage => decide (x.kind = .hold)) d.stages <;> simp [Option.guard]

/-- The first HOLD stage, by its index. -/
theorem holdIndex_eq_some {h : Nat} (hh : d.holdIndex = some h) :
    ∃ hlt : h < d.stages.length, d.stages[h].kind = .hold ∧ ∀ j (hj : j < h), d.stages[j].kind ≠ .hold := by
  obtain ⟨hlt, hhold, hfirst⟩ := List.findIdx?_eq_some_iff_getElem.1 hh
  exact ⟨hlt, by simpa using hhold, fun j hj => by simpa using hfirst j hj⟩

theorem kind_of_holdIndex_eq_none (hh : d.holdIndex = none) (h : i < d.stages.length) : d.stages[i].kind ≠ .hold := by
  simpa using List.findIdx?_eq_none_iff.1 hh d.stages[i] (List.getElem_mem h)

theorem stagePlace_eq (h : i < d.stages.length) : stagePlace d i =
    if holdBefore d i then .finishing else if d.stages[i].kind = .hold then .holding else .heating := by
  rw [stagePlace, List.getElem?_eq_getElem h]
  simp [holdBefore]

theorem kind_of_heating (h : i < d.stages.length) (hplace : stagePlace d i = .heating) : d.stages[i].kind ≠ .hold := by
  intro hhold
  rw [stagePlace_eq h, if_pos hhold] at hplace
  split at hplace <;> cases hplace

theorem kind_of_holding (h : i < d.stages.length) (hplace : stagePlace d i = .holding) : d.stages[i].kind = .hold := by
  by_contra hkind
  rw [stagePlace_eq h, if_neg hkind] at hplace
  split at hplace <;> cases hplace

theorem holdBefore_of_finishing (h : i < d.stages.length) (hplace : stagePlace d i = .finishing) : holdBefore d i = true := by
  by_contra hbefore
  rw [stagePlace_eq h, if_neg hbefore] at hplace
  split at hplace <;> cases hplace

theorem stagePlace_cases (d : Direct) (i : Nat) :
    stagePlace d i = .heating ∨ stagePlace d i = .holding ∨ stagePlace d i = .finishing := by
  unfold stagePlace
  split_ifs <;> simp

/-- The state that goes with a stage is its place before, at or after HOLD (R108). -/
theorem stateAt_eq_stagePlace (h : i < d.stages.length) : d.stateAt i = stagePlace d i := by
  rw [Direct.stateAt, if_neg (Nat.not_le.2 h), stagePlace_eq h]
  cases hh : d.holdIndex with
  | none =>
    have hbefore : ¬holdBefore d i = true := by simp [holdBefore_iff, hh]
    rw [if_neg hbefore, if_neg (kind_of_holdIndex_eq_none hh h)]
  | some n =>
    obtain ⟨hlt, hhold, hfirst⟩ := holdIndex_eq_some hh
    have hbefore : holdBefore d i = true ↔ n < i := by simp [holdBefore_iff, hh]
    dsimp only
    obtain hi | rfl | hi := Nat.lt_trichotomy i n
    · rw [if_pos hi, if_neg (mt hbefore.1 (by omega)), if_neg (hfirst i hi)]
    · rw [if_neg (Nat.lt_irrefl i), if_pos rfl, if_neg (by simp [hbefore]), if_pos hhold]
    · rw [if_neg (by omega), if_neg (by omega), if_pos (hbefore.2 hi)]

/-- With one HOLD at the most, a stage of that kind has none before it (R87). -/
theorem holdBefore_of_hold (hone : (d.stages.filter fun x => decide (x.kind = .hold)).length ≤ 1) (h : i < d.stages.length)
    (hhold : d.stages[i].kind = .hold) : holdBefore d i = false := by
  rw [← List.take_append_drop i d.stages, List.filter_append, List.length_append, List.drop_eq_getElem_cons h,
    List.filter_cons_of_pos (by simpa using hhold), List.length_cons] at hone
  have hnone : (d.stages.take i).filter (fun x => decide (x.kind = .hold)) = [] := List.length_eq_zero_iff.1 (by omega)
  rw [holdBefore, List.any_eq_false]
  exact List.filter_eq_nil_iff.1 hnone

theorem hasHold_of_holdBefore (h : holdBefore d i = true) : d.holdIndex.isSome = true := by
  obtain ⟨n, hn, _⟩ := holdBefore_iff.1 h
  simp [hn]

end

/-! ## Estimates (R106, R111) -/

theorem runningEstimate_eq (phi reading elapsed : Nat) (x : Stage) :
    x.runningEstimate phi reading elapsed = runningTime phi reading elapsed x := by
  unfold Stage.runningEstimate runningTime
  cases x.kind <;> rfl

theorem freshEstimate_eq {d : Direct} {n : Nat} (phi : Nat) (h : n + 1 < d.stages.length) :
    d.stages[n + 1].freshEstimate phi d.stages[n].setpoint = aheadTime phi d (n + 1) := by
  unfold Stage.freshEstimate aheadTime
  rw [List.getElem?_eq_getElem h, Nat.add_sub_cancel, List.getElem?_eq_getElem (by omega)]
  cases hk : d.stages[n + 1].kind <;> simp [hk, rampEstimate]

/-- The stages after stage `n` up to stage `stop`, none of them started (R106). -/
theorem laterEstimates_eq {d : Direct} {n : Nat} (phi stop : Nat) (h : n < d.stages.length) :
    laterEstimates phi d.stages[n].setpoint ((d.stages.take stop).drop (n + 1)) =
      ∑ j ∈ Finset.Ico (n + 1) (min stop d.stages.length), aheadTime phi d j := by
  induction hk : d.stages.length - n generalizing n with
  | zero => omega
  | succ k ih =>
    by_cases hn : n + 1 < min stop d.stages.length
    · have hlength : n + 1 < (d.stages.take stop).length := by simpa using hn
      have hstage : (d.stages.take stop)[n + 1] = d.stages[n + 1] := List.getElem_take
      rw [List.drop_eq_getElem_cons hlength, hstage, laterEstimates, freshEstimate_eq phi (by omega), ih (by omega) (by omega),
        Finset.sum_eq_sum_Ico_succ_bot hn]
    · rw [List.drop_eq_nil_of_le (by simpa using Nat.not_lt.1 hn), laterEstimates, Finset.Ico_eq_empty (by omega),
        Finset.sum_empty]

/-- A sum over the stages that a test takes, where it takes an interval. -/
theorem sum_filter_range {p : Nat → Bool} {n stop length : Nat} (h : ∀ j < length, p j = true ↔ n ≤ j ∧ j < stop)
    (f : Nat → Nat) :
    (((List.range length).filter p).map f).sum = ∑ j ∈ Finset.Ico n (min stop length), f j := by
  rw [← List.sum_toFinset f (List.nodup_range.filter p)]
  refine Finset.sum_congr (Finset.ext fun j => ?_) fun _ _ => rfl
  simp only [List.mem_toFinset, List.mem_filter, List.mem_range, Finset.mem_Ico, lt_min_iff]
  exact ⟨fun ⟨hj, hp⟩ => by have := (h j hj).1 hp; omega, fun ⟨hn, hs, hj⟩ => ⟨hj, (h j hj).2 ⟨hn, hs⟩⟩⟩

/-- The finish run: the stages after HOLD (R106). -/
theorem finishRunEstimate_eq (phi : Nat) (d : Direct) : finishRunEstimate phi d = finishRun phi d := by
  unfold finishRunEstimate finishRun
  cases hh : d.holdIndex with
  | none =>
    have hnone : (List.range d.stages.length).filter (holdBefore d) = [] :=
      List.filter_eq_nil_iff.2 fun j _ => by simp [holdBefore_iff, hh]
    rw [hnone]
    rfl
  | some n =>
    obtain ⟨hlt, _⟩ := holdIndex_eq_some hh
    have hafter : ∀ j < d.stages.length, holdBefore d j = true ↔ n + 1 ≤ j ∧ j < d.stages.length :=
      fun j hj => by
      simp only [holdBefore_iff, hh, Option.some.injEq, exists_eq_left']
      omega
    have hrun := laterEstimates_eq phi d.stages.length hlt
    rw [List.take_length] at hrun
    rw [sum_filter_range hafter]
    dsimp only
    rw [List.getD_eq_getElem _ _ hlt, hrun]

end Sys2Proof.Machine
end

section
/-! PROOFS. The stages advance, and the urgency judged after them (R106 to R112). -/

namespace Sys2Proof.Machine

/-! ## The stages advance (R107 to R110) -/

/-- The second at which stage `j` of a task begins: the start of the one it stands in, this second for a later one (R108). -/
def Task.begins (v : TaskView) (k : Task) (j : Nat) : Nat := if j = k.stageIndex then k.stageStart else v.now

/-- A task stands in a stage of its profile, in the state that goes with it (R108). -/
structure Task.InStage (d : Direct) (k : Task) : Prop where
  stage : k.stageIndex < d.stages.length
  state : k.state = stagePlace d k.stageIndex

/-- Where a second takes a task: to the first stage that is not over, or to READY after the last (R108 to R110). -/
inductive Landed (v : TaskView) (k k' : Task) : Prop
  | stands (j : Nat) (from_ : k.stageIndex ≤ j) (stage : j < v.profile.stages.length)
      (passed : ∀ m, k.stageIndex ≤ m → m < j → stageOver v m (k.begins v m) = true)
      (runs : stageOver v j (k.begins v j) = false)
      (eq : k' = { k with state := stagePlace v.profile j, stageIndex := j, stageStart := k.begins v j })
  | readies (last : Nat) (stage : last + 1 = v.profile.stages.length)
      (passed : ∀ m, k.stageIndex ≤ m → m < v.profile.stages.length → stageOver v m (k.begins v m) = true)
      (eq : k' = { k with state := .ready, stageIndex := last, stageStart := k.begins v last })

section
variable {v : TaskView} {k k' : Task}

theorem begins_self : k.begins v k.stageIndex = k.stageStart := if_pos rfl

/-- The test of the stage being run is that of the stage (R108, R109). -/
theorem stageEnds_eq (hone : (v.profile.stages.filter fun x => decide (x.kind = .hold)).length ≤ 1)
    (h : k.InStage v.profile) : k.stageEnds v = stageOver v k.stageIndex k.stageStart := by
  have hstage := h.stage
  rw [Task.stageEnds, stageOver, h.state, stagePlace_eq hstage, List.getElem?_eq_getElem hstage]
  cases hkind : v.profile.stages[k.stageIndex].kind with
  | hold =>
    rw [holdBefore_of_hold hone hstage hkind, if_neg Bool.false_ne_true, if_pos rfl]
    dsimp only
    rw [hkind, finishRunEstimate_eq]
    dsimp only
    congr 1
    rw [decide_eq_decide]
    omega
  | ramp | soak =>
    cases holdBefore v.profile k.stageIndex <;> simp [hkind]

/-- The task as its next stage begins (R108). -/
def Task.inNext (v : TaskView) (k : Task) : Task :=
  { k with state := stagePlace v.profile (k.stageIndex + 1), stageIndex := k.stageIndex + 1, stageStart := v.now }

theorem nextStage_of_lt (h : k.stageIndex + 1 < v.profile.stages.length) : k.nextStage v = k.inNext v := by
  simp [Task.nextStage, Task.inNext, h, stateAt_eq_stagePlace h]

theorem nextStage_of_last (h : k.stageIndex + 1 = v.profile.stages.length) : k.nextStage v = { k with state := .ready } := by
  simp [Task.nextStage, h, Direct.stateAt]

/-- A READY task has no stage to end (R110). -/
theorem advance_ready (h : k.state = .ready) (n : Nat) : Task.advance v n k = k := by
  cases n with
  | zero => rfl
  | succ n => simp [Task.advance, Task.stageEnds, h]

/-- From a stage that is over, a task lands where the next one takes it. -/
theorem Landed.of_next (hnext : k.stageIndex + 1 < v.profile.stages.length)
    (hover : stageOver v k.stageIndex k.stageStart = true)
    (h : Landed v (k.inNext v) k') : Landed v k k' := by
  have hbegins : ∀ j, k.stageIndex + 1 ≤ j → (k.inNext v).begins v j = k.begins v j := fun j hj => by
    rw [Task.begins, Task.begins, if_neg (show j ≠ k.stageIndex by omega)]
    exact ite_self _
  have hfirst : ∀ {stop}, (∀ m, k.stageIndex + 1 ≤ m → m < stop → stageOver v m (k.begins v m) = true) →
      ∀ m, k.stageIndex ≤ m → m < stop → stageOver v m (k.begins v m) = true := fun hlater m hm hlt => by
    obtain rfl | hm := Nat.eq_or_lt_of_le hm
    · rw [begins_self, hover]
    · exact hlater m hm hlt
  cases h with
  | stands j from_ stage passed runs eq =>
    have hfrom : k.stageIndex + 1 ≤ j := from_
    rw [hbegins j hfrom] at runs eq
    exact .stands j (by omega) stage (hfirst fun m hm hlt => hbegins m hm ▸ passed m hm hlt) runs eq
  | readies last stage passed eq =>
    rw [hbegins last (by omega)] at eq
    exact .readies last stage (hfirst fun m hm hlt => hbegins m hm ▸ passed m hm hlt) eq

/-- The stages advance as far as one is over; as many steps as the profile has stages are enough (R108, R109). -/
theorem advance_lands (hone : (v.profile.stages.filter fun x => decide (x.kind = .hold)).length ≤ 1)
    (h : k.InStage v.profile) {n : Nat} (hn : v.profile.stages.length < n + k.stageIndex) :
    Landed v k (Task.advance v n k) := by
  have hstage := h.stage
  induction n generalizing k with
  | zero => omega
  | succ n ih =>
    rw [Task.advance, stageEnds_eq hone h]
    split
    · rename_i hover
      by_cases hnext : k.stageIndex + 1 < v.profile.stages.length
      · rw [nextStage_of_lt hnext]
        exact .of_next hnext hover (ih (k := k.inNext v) ⟨hnext, rfl⟩ (by dsimp only [Task.inNext]; omega) hnext)
      · rw [nextStage_of_last (by omega), advance_ready rfl]
        refine .readies k.stageIndex (by omega) (fun m hm hlt => ?_) (by rw [begins_self])
        obtain rfl : m = k.stageIndex := by omega
        rwa [begins_self]
    · rename_i hover
      refine .stands k.stageIndex le_rfl hstage (fun m hm hlt => by omega) ?_ (by rw [begins_self, ← h.state])
      rw [begins_self]
      exact Bool.not_eq_true _ ▸ hover

/-- The steps before the advance put a task in a run state into the stage it is in (R87, R107). -/
theorem enterHold_eq (hstage : k.stageIndex < v.profile.stages.length)
    (hs : k.state = stagePlace v.profile k.stageIndex ∨
      (k.state = .heating ∧ stagePlace v.profile k.stageIndex = .holding)) :
    k.enterHold v = { k with state := stagePlace v.profile k.stageIndex } := by
  unfold Task.enterHold
  rw [List.getElem?_eq_getElem hstage]
  obtain hs | ⟨hheating, hholding⟩ := hs
  · rw [if_neg, ← hs]
    rintro ⟨hheating, hhold⟩
    exact kind_of_heating hstage (hs.symm.trans hheating) (by simpa using hhold)
  · rw [hholding, if_pos ⟨hheating, by simp [kind_of_holding hstage hholding]⟩]

theorem enterHold_ready (h : k.state = .ready) : k.enterHold v = k := by
  simp [Task.enterHold, h]

/-! ## Urgency after the stages (R106, R111, R112) -/

theorem setpoint_eq : k.setpoint v = if k.state = .ready then v.profile.ready
    else (v.profile.stages.getD k.stageIndex { kind := .hold, setpoint := 0, arg := 0 }).setpoint := by
  rw [Task.setpoint, List.getD_eq_getElem?_getD]
  cases v.profile.stages[k.stageIndex]? <;> rfl

/-- Before HOLD a stage of a HEATING task has the HOLD stage ahead of it (R108). -/
theorem lt_holdIndex {d : Direct} {i n : Nat} (h : i < d.stages.length) (hheating : stagePlace d i = .heating)
    (hn : d.holdIndex = some n) : i < n := by
  rw [← stateAt_eq_stagePlace h, Direct.stateAt, if_neg (Nat.not_le.2 h), hn] at hheating
  by_contra hge
  dsimp only at hheating
  rw [if_neg hge] at hheating
  split at hheating <;> cases hheating

/-- The estimate of the stage being run and those up to stage `stop` (R111). -/
theorem runEstimate_eq {stop : Nat} (h : k.stageIndex < v.profile.stages.length) (hstop : k.stageIndex < stop)
    (hlater : ∀ j < v.profile.stages.length,
      (!(decide (k.state = .heating) && holdBefore v.profile (j + 1))) = true ↔ j < stop) :
    runEstimate v.phi v.reading (v.now - k.stageStart) v.profile k.stageIndex stop = stagesLeft v k := by
  have htest : ∀ j < v.profile.stages.length, (decide (k.stageIndex < j) &&
      !(decide (k.state = .heating) && holdBefore v.profile (j + 1))) = true ↔ k.stageIndex + 1 ≤ j ∧ j < stop :=
    fun j hj => by rw [Bool.and_eq_true, hlater j hj, decide_eq_true_eq, Nat.succ_le_iff]
  have hlength : k.stageIndex < (v.profile.stages.take stop).length := by simpa using ⟨hstop, h⟩
  have hstage : (v.profile.stages.take stop)[k.stageIndex] = v.profile.stages[k.stageIndex] := List.getElem_take
  rw [runEstimate, List.drop_eq_getElem_cons hlength, hstage]
  dsimp only
  rw [laterEstimates_eq v.phi stop h, runningEstimate_eq, stagesLeft, sum_filter_range htest, List.getElem?_eq_getElem h,
    Option.elim_some]

theorem runEstimate_heating (h : k.InStage v.profile) (hs : k.state = .heating) :
    runEstimate v.phi v.reading (v.now - k.stageStart) v.profile k.stageIndex
      (v.profile.holdIndex.getD v.profile.stages.length) = stagesLeft v k := by
  cases hh : v.profile.holdIndex with
  | none => exact runEstimate_eq h.stage h.stage fun j hj => by simp [Bool.eq_false_iff, holdBefore_iff, hh, hj]
  | some n =>
    refine runEstimate_eq h.stage (lt_holdIndex h.stage (h.state.symm.trans hs) hh) fun j hj => ?_
    simp [hs, Bool.eq_false_iff, holdBefore_iff, hh]

theorem runEstimate_finishing (h : k.InStage v.profile) (hs : k.state = .finishing) :
    runEstimate v.phi v.reading (v.now - k.stageStart) v.profile k.stageIndex v.profile.stages.length = stagesLeft v k :=
  runEstimate_eq h.stage h.stage fun j hj => by simp [hs, hj]

/-- Estimates, deadline, slack and class follow where a task stands (R106, R111, R112). -/
theorem judged_judgedAt (h : k.InStage v.profile ∨ k.state = .ready) : judgedAt v (k.judged v) := by
  have hleft : stagesLeft v (k.judged v) = stagesLeft v k := rfl
  have hclass : ∀ x : Int, (if x < 0 then 3 else if x ≤ 120 then 2 else if x ≤ 600 then 1 else 0) = classOf x := fun _ => rfl
  simp only [judgedAt, hleft, hclass, ← finishRunEstimate_eq, ← holdIndex_isSome]
  obtain h | hs := h
  · have hs := stagePlace_cases v.profile k.stageIndex
    rw [← h.state] at hs
    obtain hs | hs | hs := hs
    · have hestimate := runEstimate_heating h hs
      cases hh : v.profile.holdIndex with
      | none =>
        rw [hh, Option.getD_none] at hestimate
        simp [Task.judged, hs, hh, setpoint_eq, hestimate]
      | some n =>
        rw [hh, Option.getD_some] at hestimate
        simp [Task.judged, TaskView.finishStart, hs, hh, setpoint_eq, hestimate]
    · simp [Task.judged, TaskView.finishStart, hs, setpoint_eq]
    · simp [Task.judged, hs, setpoint_eq, runEstimate_finishing h hs]
  · simp [Task.judged, hs, setpoint_eq]

end

end Sys2Proof.Machine
end

section
/-! PROOFS. What the seconds of other tasks and the end of a second leave: channels that they do not hold, pages that they
do not resolve (R93, R99, R113, R117). -/

namespace Sys2Proof.Machine

/-! ## Parts of a second that leave channels and pages -/

/-- A part of a second that leaves the channels `spared` and clears no page but those `gone`. -/
structure Untouched (spared : Nat → Prop) (gone : PageEntry → Prop) (b b' : Block) : Prop where
  pages : PageActs (fun _ => True) (fun _ => False) gone b b'
  channels : ∀ j, spared j → channelAt j b' = channelAt j b

section
variable {spared : Nat → Prop} {gone : PageEntry → Prop} {b c d : Block} {u : Nat}

theorem Untouched.refl (b : Block) : Untouched spared gone b b := ⟨.refl b, fun _ _ => rfl⟩

theorem Untouched.trans (h : Untouched spared gone b c) (g : Untouched spared gone c d) : Untouched spared gone b d :=
  ⟨h.pages.trans g.pages, fun j hj => (g.channels j hj).trans (h.channels j hj)⟩

theorem Untouched.of_drive (h : PageActs (fun _ => True) (fun _ => False) gone b c) (hd : c.drive = b.drive) :
    Untouched spared gone b c := ⟨h, fun j _ => by rw [channelAt, hd, channelAt]⟩

theorem Untouched.foldl {α : Type} {f : Block → α → Block} {xs : List α} (h : ∀ b, ∀ x ∈ xs, Untouched spared gone b (f b x))
    (b : Block) : Untouched spared gone b (xs.foldl f b) := by
  induction xs generalizing b with
  | nil => exact .refl b
  | cons x rest ih =>
    exact (h b x List.mem_cons_self).trans (ih (fun b y hy => h b y (List.mem_cons_of_mem _ hy)) _)

theorem raise_untouched (k : CauseKind) (n : Nat) (b : Block) : Untouched spared gone b (raise k n b) :=
  .of_drive (raise_acts trivial b) (by simp)

theorem setTask_untouched (t : Nat) (k : Option Task) (b : Block) : Untouched spared gone b (setTask t k b) :=
  .of_drive (.of_pages (.of_notices (Notices.refl b).onPlan rfl) rfl) rfl

theorem taskEvent_untouched (t : Nat) (x : TaskState) (b : Block) : Untouched spared gone b (taskEvent t x b) := by
  unfold taskEvent
  split
  · exact .of_drive (.of_pages (.of_notices (Notices.refl b).offer (by simp)) (by simp)) (by simp)
  · exact .refl b

/-- A want written into a channel, read back there and at another. -/
theorem channelAt_writeWant (w : Channel → Want) (i j : Nat) (b : Block) :
    channelAt j (b.onDrive fun d =>
      { d with channels := d.channels.set i { d.channels.getD i {} with want := w (d.channels.getD i {}) } }) =
      if i = j ∧ j < b.drive.channels.length then { channelAt j b with want := w (channelAt j b) } else channelAt j b := by
  refine (channelAt_set i j { channelAt i b with want := w (channelAt i b) } b).trans ?_
  split
  · rename_i hij
    rw [hij.1]
  · rfl

/-- A want written into a channel that is not spared. -/
theorem writeWant_untouched {i : Nat} (h : ¬spared i) (w : Channel → Want) (b : Block) :
    Untouched spared gone b (b.onDrive fun d =>
      { d with channels := d.channels.set i { d.channels.getD i {} with want := w (d.channels.getD i {}) } }) := by
  refine ⟨.of_pages (.of_notices (Notices.refl b).onDrive rfl) rfl, fun j hj => ?_⟩
  have hne : ¬(i = j ∧ j < b.drive.channels.length) := fun hij => h (hij.1 ▸ hj)
  rw [channelAt_writeWant, if_neg hne]

theorem releaseWants_untouched {m : Mask8} (h : ∀ j, spared j → m.getLsbD j = false) (b : Block) :
    Untouched spared gone b (releaseWants m b) :=
  .foldl (fun b i hi => writeWant_untouched (fun hs => by simp [mem_members, h i hs] at hi) (fun _ => {}) b) b

theorem presentWants_untouched {k : Task} (h : ∀ j, spared j → k.mask.getLsbD j = false) (v : TaskView) (b : Block) :
    Untouched spared gone b (presentWants v k b) :=
  .foldl (fun b i hi => writeWant_untouched (fun hs => by simp [mem_members, h i hs] at hi) (k.wantOf v) b) b

theorem plateTest_untouched (v : TaskView) (k : Task) (b : Block) : Untouched spared gone b (plateTest v k b).2 := by
  unfold plateTest
  repeat' split
  · exact raise_untouched _ _ b
  · exact .refl b
  · exact .refl b

/-! ## The second of a task (R103) -/

section
variable {k : Task} (hk : ∀ j, spared j → k.mask.getLsbD j = false)
include hk

theorem faultTask_untouched (t : Nat) (why : TaskFault) (b : Block) : Untouched spared gone b (faultTask t k why b) :=
  (setTask_untouched t _ b).trans (releaseWants_untouched hk _)

theorem runTask_untouched (hr : k.state.runs = true) (t : Nat) (d : Direct) (b : Block) :
    Untouched spared gone b (runTask t k d b) := by
  have hmask := (ranTask_record hr d b).1
  exact ((plateTest_untouched _ _ b).trans (presentWants_untouched (k := ranTask k d b) (by rwa [hmask]) _ _)).trans
    (setTask_untouched t _ _)

theorem testAndRun_untouched (hr : k.state.runs = true) (t : Nat) (b : Block) :
    Untouched spared gone b (testAndRun t k b) := by
  unfold testAndRun
  repeat' split
  · exact faultTask_untouched hk t _ b
  · exact runTask_untouched hk hr t _ b
  · exact .refl b

theorem resolveTask_untouched (t : Nat) (b : Block) : Untouched spared gone b (resolveTask t k b) := by
  unfold resolveTask
  cases resolveProfile k.profile b with
  | none => exact faultTask_untouched (k := { k with resolved := none }) hk t _ b
  | some r =>
    dsimp only
    cases faultTest { k with resolved := some r } b with
    | some why => exact faultTask_untouched (k := { k with resolved := some r }) hk t why b
    | none => exact testAndRun_untouched (k := Task.startAt { k with resolved := some r } r b.now) hk rfl t b

theorem taskWork_untouched (hat : taskAt u b = some k) : Untouched spared gone b (taskWork u b) := by
  unfold taskWork
  rw [hat]
  dsimp only
  cases hs : k.state with
  | waiting => exact resolveTask_untouched hk u b
  | heating | holding | finishing | ready => exact testAndRun_untouched hk (by rw [hs]; rfl) u b
  | passed | faulted | cancelled => exact .refl b

end

theorem editReleases_untouched {k : Task} {e : Edit} (hk : ∀ j, spared j → k.mask.getLsbD j = false)
    (he : ∀ j, spared j → e.mask.getLsbD j = false) (x : Task) (b : Block) :
    Untouched spared gone b (editReleases k e x b) := by
  have hfreed : Untouched spared gone b (releaseWants (k.mask &&& ~~~ e.mask) b) :=
    releaseWants_untouched (fun j hj => by simp [hk j hj]) b
  unfold editReleases
  dsimp only
  split
  · exact hfreed.trans (releaseWants_untouched he _)
  · exact hfreed

/-- An edit applied to a task that holds none of the channels (R93, R96). -/
theorem applyEdit_untouched (hlive : ∀ k, taskAt u b = some k → k.state.live = true)
    (hheld : ∀ k, taskAt u b = some k → ∀ j, spared j → k.holds.getLsbD j = false)
    (htest : ∀ i d, TaskAct u (fun _ => False) b d → Untouched spared gone d (testPlates i d)) :
    Untouched spared gone b (applyEdit u b) := by
  cases hat : taskAt u b with
  | none =>
    rw [applyEdit_of_none (by simp [hat])]
    exact .refl b
  | some k =>
    cases hedit : k.edit with
    | none =>
      rw [applyEdit_of_none (by simp [hat, hedit])]
      exact .refl b
    | some e =>
      have hmasks : ∀ j, spared j → k.mask.getLsbD j = false ∧ e.mask.getLsbD j = false := fun j hj => by
        simpa [Task.holds, hlive k hat, hedit] using hheld k hat j hj
      rw [applyEdit_eq hat hedit]
      exact ((setTask_untouched u _ b).trans (editReleases_untouched (fun j hj => (hmasks j hj).1)
        (fun j hj => (hmasks j hj).2) _ _)).trans (htest _ _ ((setTask_act _ b).trans (editReleases_act k e _ _)))

/-- The second of a task leaves the channels that it does not hold, and the pages that its edit does not resolve. -/
theorem taskSecond_untouched (hheld : ∀ k, taskAt u b = some k → ∀ j, spared j → k.holds.getLsbD j = false)
    (htest : ∀ i d, TaskAct u (fun _ => False) b d → Untouched spared gone d (testPlates i d)) :
    Untouched spared gone b (taskSecond u b) := by
  unfold taskSecond
  split
  · rename_i k hat
    split
    · rename_i hsecond
      have hlive : ∀ x, taskAt u b = some x → x.state.live = true := fun x hx =>
        Option.some.inj (hat.symm.trans hx) ▸ live_of_hasSecond hsecond
      have hedited : Untouched spared gone b (applyEdit u b) := applyEdit_untouched hlive hheld htest
      have hworked : Untouched spared gone (applyEdit u b) (taskWork u (applyEdit u b)) := by
        cases hx : taskAt u (applyEdit u b) with
        | none =>
          unfold taskWork
          rw [hx]
          exact .refl _
        | some x =>
          exact taskWork_untouched (fun j hj => applyEdit_mask hat (hlive k hat) hx (hheld k hat j hj)) hx
      dsimp only
      split
      · exact (hedited.trans hworked).trans (taskEvent_untouched _ _ _)
      · exact hedited.trans hworked
    · exact .refl b
  · exact .refl b

/-- The seconds of tasks that hold none of the channels, where what the plate tests rest on (`P`) goes on through them. -/
theorem runTasks_untouched {us : List Nat} {P : Block → Prop} (hus : us.Nodup)
    (hheld : ∀ u ∈ us, ∀ x, taskAt u b = some x → ∀ j, spared j → x.holds.getLsbD j = false)
    (hkept : ∀ u ∈ us, ∀ d d', TaskAct u (fun _ => False) d d' → P d → P d')
    (htest : ∀ i d, P d → Untouched spared gone d (testPlates i d)) (hb : P b) :
    Untouched spared gone b (runTasks us b) := by
  induction us generalizing b with
  | nil => exact .refl b
  | cons u rest ih =>
    obtain ⟨hu, hrest⟩ := List.nodup_cons.1 hus
    have hact : TaskAct u (fun _ => False) b (taskSecond u b) := taskSecond_act fun _ _ _ h => h.elim
    have hfirst : Untouched spared gone b (taskSecond u b) :=
      taskSecond_untouched (hheld u List.mem_cons_self) fun i d hd => htest i d (hkept u List.mem_cons_self b d hd hb)
    refine hfirst.trans (ih hrest (fun w hw x hx => ?_) (fun w hw => hkept w (List.mem_cons_of_mem _ hw))
      (hkept u List.mem_cons_self b _ hact hb))
    rw [hact.others w (by rintro rfl; exact hu hw)] at hx
    exact hheld w (List.mem_cons_of_mem _ hw) x hx

/-! ## The plate tests (R99) -/

/-- A plate test resolves PLATES_SHORT of its course, where the plates are in place. -/
theorem testPlates_untouched {i : Nat} (h : ∀ c, courseAt i b = some c → plateCondition i b = true →
      ∀ e : PageEntry, e.cause = { kind := .platesShort, subject := c.tag } → gone e) :
    Untouched spared gone b (testPlates i b) := by
  unfold testPlates
  split
  · rename_i c hat
    split
    · rename_i hplates
      exact .of_drive (resolve_acts (h c hat hplates.2) b) (by simp)
    · exact .refl b
  · exact .refl b

/-- Task `t` of course `i` still awaits plates, and no other course bears the tag. -/
structure AwaitsPlates (t i tag : Nat) (b : Block) : Prop where
  task : ∃ k, taskAt t b = some k ∧ k.course = i ∧ k.state.live = true ∧ k.platesLoaded < k.platesRequired
  only : ∀ j c, courseAt j b = some c → c.tag = tag → j = i

theorem AwaitsPlates.kept {t i tag : Nat} (h : AwaitsPlates t i tag b) (hne : t ≠ u)
    (hact : TaskAct u (fun _ => False) b c) : AwaitsPlates t i tag c := by
  obtain ⟨k, hk, hrest⟩ := h.task
  exact ⟨⟨k, (hact.others t hne).trans hk, hrest⟩, fun j x hx => h.only j x ((hact.courses j).symm.trans hx)⟩

/-- While a task awaits plates, no plate test resolves the page of its course (R99). -/
theorem AwaitsPlates.testPlates {t i tag : Nat} (h : AwaitsPlates t i tag b) (j : Nat) :
    Untouched spared (fun e => e.cause ≠ { kind := .platesShort, subject := tag }) b (testPlates j b) := by
  refine testPlates_untouched fun c hc hplates e he hshort => ?_
  have htag : c.tag = tag := by simpa [he] using hshort
  obtain ⟨k, hk, hcourse, hlive, hfew⟩ := h.task
  have hin := plateCondition_iff.1 hplates t k hk (hcourse.trans (h.only j c hc htag).symm) hlive
  omega

end

/-! ## The end of the second (R120, R128, R129, R136) -/

/-- Acts on the pages that clear none but those of late courses and of the conveyor's holds. -/
def EndActs : Block → Block → Prop :=
  PageActs (fun _ => True) (fun _ => False) fun e => e.cause.kind = .courseLate ∨ e.cause.kind = .rackHold

theorem endActs_setCourse (i : Nat) (x : Option Course) (b : Block) : EndActs b (setCourse i x b) :=
  PageActs.of_pages (.of_notices (Notices.refl b).onPlan rfl) rfl

theorem endActs_raise (k : CauseKind) (n : Nat) (b : Block) : EndActs b (raise k n b) := raise_acts trivial b

theorem endActs_storeCourseState (i : Nat) (x : CourseState) (b : Block) : EndActs b (storeCourseState i x b) := by
  unfold storeCourseState
  split
  · rename_i c _
    have htold : EndActs b (offer (.courseState c.tag c.state x c.version) (setCourse i (some { c with state := x }) b)) :=
      (endActs_setCourse i _ b).trans (.of_pages (.of_notices (Notices.refl _).offer (by simp)) (by simp))
    dsimp only
    split_ifs
    · exact .refl b
    · exact htold.trans (resolve_acts (fun e he => .inl (by rw [he])) _)
    · exact htold
  · exact .refl b

theorem endActs_storeLateDue (i : Nat) (x : Bool) (b : Block) : EndActs b (storeLateDue i x b) := by
  unfold storeLateDue
  repeat' split
  · exact (endActs_setCourse i _ b).trans (endActs_raise _ _ _)
  · exact endActs_setCourse i _ b
  · exact .refl b

theorem endActs_deriveCourse (i : Nat) (b : Block) : EndActs b (deriveCourse i b) := by
  unfold deriveCourse
  split
  · exact (endActs_storeCourseState i _ b).trans (endActs_storeLateDue i _ _)
  · exact .refl b

theorem endActs_evalReady (i : Nat) (b : Block) : EndActs b (evalReady i b) := evalReady_acts (fun _ _ => trivial) i b

theorem endActs_courseChange (i : Nat) (b : Block) : EndActs b (courseChange i b) := by
  have hmarked := raisesNone_markCourse (evalReady i (deriveCourse i b))
  exact ((endActs_deriveCourse i b).trans (endActs_evalReady i _)).trans
    (.of_pages hmarked.onward (markCourse_pages _))

theorem endActs_handOn (ts : List (Option Task)) (t : Nat) (b : Block) : EndActs b (handOn ts t b) := by
  unfold handOn
  repeat' split
  · exact endActs_courseChange _ b
  · exact .refl b
  · exact .refl b

theorem endActs_courseSecond (i : Nat) (b : Block) : EndActs b (courseSecond i b) := by
  unfold courseSecond
  dsimp only
  repeat' split
  · exact ((endActs_deriveCourse i b).trans (endActs_raise _ _ _)).trans (endActs_evalReady i _)
  · exact (endActs_deriveCourse i b).trans (endActs_evalReady i _)
  · exact .refl b

theorem endActs_conveyorSecond (b : Block) : EndActs b (conveyorSecond b) := by
  have hconveyor (f : Conveyor → Conveyor) (d : Block) : EndActs d (d.onConveyor f) :=
    PageActs.of_pages (.of_notices (Notices.refl d).onConveyor rfl) rfl
  have hcounted : EndActs b (countHold b) := by
    unfold countHold
    split
    · exact hconveyor _ b
    · exact .refl b
  have hread (d : Block) : EndActs d (readRinse d) := by
    unfold readRinse
    dsimp only
    split <;> exact hconveyor _ d
  have hderived (d : Block) : EndActs d (deriveConveyor d) :=
    deriveConveyor_acts (fun _ _ => trivial) (fun _ h => .inr h) d
  have hwants (d : Block) : EndActs d (setDishWants d) := PageActs.of_pages (.of_notices (Notices.refl d).onDrive rfl) rfl
  unfold conveyorSecond
  split
  · exact (((hcounted.trans (hread _)).trans (hderived _)).trans (hwants _)).trans (hconveyor _ _)
  · exact .refl b

theorem endActs_secondEnd (tasks : List (Option Task)) (b : Block) : EndActs b (secondEnd tasks b) :=
  (PageActs.foldl (fun t _ d => endActs_handOn tasks t d) b).trans
    ((PageActs.foldl (fun i _ d => endActs_courseSecond i d) _).trans (endActs_conveyorSecond _))

end Sys2Proof.Machine
end

section
/-! PROOFS. What the run of a task leaves in its second: stages, urgency, plate test, wants and curtailed seconds
(R106 to R117). -/

namespace Sys2Proof.Machine

/-! ## Where the stages stand (R108 to R110) -/

section
variable {v : TaskView} {k k' : Task}

/-- A task lands in the first stage that is not over. -/
theorem Landed.at_stage (h : Landed v k k') {j : Nat} (hfrom : k.stageIndex ≤ j) (hstage : j < v.profile.stages.length)
    (hpassed : ∀ m, k.stageIndex ≤ m → m < j → stageOver v m (k.begins v m) = true)
    (hruns : stageOver v j (k.begins v j) = false) :
    k'.state = stagePlace v.profile j ∧ k'.stageIndex = j ∧ k'.stageStart = k.begins v j := by
  cases h with
  | stands n from_ stage passed runs eq =>
    obtain hlt | rfl | hlt := Nat.lt_trichotomy n j
    · simp [hpassed n from_ hlt] at runs
    · rw [eq]
      exact ⟨rfl, rfl, rfl⟩
    · simp [passed j hfrom hlt] at hruns
  | readies last stage passed eq => simp [passed j hfrom hstage] at hruns

/-- A task all of whose stages are over lands in READY (R110). -/
theorem Landed.at_ready (h : Landed v k k')
    (hall : ∀ m, k.stageIndex ≤ m → m < v.profile.stages.length → stageOver v m (k.begins v m) = true) :
    k'.state = .ready ∧ k'.stageIndex + 1 = v.profile.stages.length ∧ k'.stageStart = k.begins v k'.stageIndex := by
  cases h with
  | stands n from_ stage passed runs eq => simp [hall n from_ stage] at runs
  | readies last stage passed eq =>
    rw [eq]
    exact ⟨rfl, stage, rfl⟩

theorem Landed.settled (h : Landed v k k') : k'.InStage v.profile ∨ k'.state = .ready := by
  cases h with
  | stands n from_ stage passed runs eq =>
    rw [eq]
    exact .inl ⟨stage, rfl⟩
  | readies last stage passed eq =>
    rw [eq]
    exact .inr rfl

/-- The task after step 4 of its second (R103): its stages advanced. -/
def Task.advanced (v : TaskView) (k : Task) : Task := Task.advance v (v.profile.stages.length + 1) (k.enterHold v)

/-- The states in which a task of a profile stands between seconds: READY, that of its stage, or HEATING at a first stage of
kind HOLD (R107, log 23). -/
def Task.Stands (d : Direct) (k : Task) : Prop :=
  k.stageIndex < d.stages.length ∧ (k.state = .ready ∨ k.state = stagePlace d k.stageIndex ∨
    (k.state = .heating ∧ stagePlace d k.stageIndex = .holding))

theorem advanced_ready (h : k.state = .ready) : k.advanced v = k := by
  rw [Task.advanced, enterHold_ready h, advance_ready h]

theorem advanced_lands (hone : (v.profile.stages.filter fun x => decide (x.kind = .hold)).length ≤ 1)
    (h : k.Stands v.profile) (hne : k.state ≠ .ready) : Landed v k (k.advanced v) := by
  obtain ⟨hstage, hs⟩ := h
  rw [Task.advanced, enterHold_eq hstage (hs.resolve_left hne)]
  cases advance_lands (k := { k with state := stagePlace v.profile k.stageIndex }) hone ⟨hstage, rfl⟩
    (show v.profile.stages.length < v.profile.stages.length + 1 + k.stageIndex by omega) with
  | stands n from_ stage passed runs eq => exact .stands n from_ stage passed runs eq
  | readies last stage passed eq => exact .readies last stage passed eq

theorem advanced_settled (hone : (v.profile.stages.filter fun x => decide (x.kind = .hold)).length ≤ 1)
    (h : k.Stands v.profile) : (k.advanced v).InStage v.profile ∨ (k.advanced v).state = .ready := by
  by_cases hr : k.state = .ready
  · rw [advanced_ready hr]
    exact .inr hr
  · exact (advanced_lands hone h hr).settled

/-- The stages change a task's state, stage index and stage start alone. -/
theorem advanced_keeps (hone : (v.profile.stages.filter fun x => decide (x.kind = .hold)).length ≤ 1)
    (h : k.Stands v.profile) :
    ∃ state index start, k.advanced v = { k with state := state, stageIndex := index, stageStart := start } := by
  by_cases hr : k.state = .ready
  · exact ⟨_, _, _, advanced_ready hr⟩
  · cases advanced_lands hone h hr with
    | stands n from_ stage passed runs eq => exact ⟨_, _, _, eq⟩
    | readies last stage passed eq => exact ⟨_, _, _, eq⟩

end

/-! ## The plate test (R117) -/

section
variable {v : TaskView} {k : Task} {b : Block}

/-- The point of the plate test, for a task that stands in a stage or is READY (R117). -/
theorem platesDue_iff (h : k.InStage v.profile ∨ k.state = .ready) :
    k.platesDue v = true ↔ k.urgency.plateTest = false ∧ (k.state = .finishing ∨ k.state = .ready) := by
  have hhold : k.state = .finishing → v.profile.holdIndex.isSome = true := fun hs => by
    have hin := h.resolve_right (by simp [hs])
    exact hasHold_of_holdBefore (holdBefore_of_finishing hin.stage (hin.state.symm.trans hs))
  simp only [Task.platesDue, Bool.and_eq_true, Bool.not_eq_true', Bool.or_eq_true, decide_eq_true_eq]
  tauto

theorem plateTest_record (v : TaskView) (k : Task) (b : Block) : (plateTest v k b).1 = { k with
    urgency := { k.urgency with
      plateTest := k.urgency.plateTest || (decide (b.cfg.kind = .warmer) && k.platesDue v) } } := by
  unfold plateTest
  split
  · rename_i h
    simp [h.1, h.2]
  · rename_i h
    have hnot : (decide (b.cfg.kind = .warmer) && k.platesDue v) = false := by simpa using h
    rw [hnot, Bool.or_false]

/-- A plate test that finds too few plates raises PLATES_SHORT with the tag of the course. -/
theorem plateTest_raises (hkind : b.cfg.kind = .warmer) (hdue : k.platesDue v = true)
    (hfew : k.platesLoaded < k.platesRequired) :
    raiseMade { kind := .platesShort, subject := (courseAt k.course b).elim 0 fun c => c.tag } b (plateTest v k b).2 := by
  have hraise : (plateTest v k b).2 = raise .platesShort ((courseAt k.course b).elim 0 fun c => c.tag) b := by
    rw [plateTest, if_pos ⟨hkind, hdue⟩]
    exact if_pos hfew
  rw [hraise]
  exact (raise_taken _ _ b).imp_right fun h => h.2.2

end

/-! ## Wants (R113) -/

section
variable {v : TaskView} {k : Task} {b c s : Block}

/-- The want that the control law asks of a channel for a task in a run state (R113). -/
theorem wantOf_eq (hr : k.state.runs = true) (c : Channel) : k.wantOf v c =
    if k.state = .holding ∨ k.state = .ready then { amount := lawAmount v (k.setpoint v) c, kind := .floor }
    else { amount := lawAmount v (k.setpoint v) c, kind := .extra, cls := k.urgency.cls } := by
  unfold Task.wantOf
  cases hs : k.state with
  | heating | holding | finishing | ready => simp [lawAmount, controlAmount]
  | waiting | passed | faulted | cancelled => simp [hs, TaskState.runs] at hr

theorem wantOf_amount (hr : k.state.runs = true) (c : Channel) : (k.wantOf v c).amount = lawAmount v (k.setpoint v) c := by
  rw [wantOf_eq hr]
  split <;> rfl

/-- The channels of the mask present their wants, the others stand (R113). -/
theorem channelAt_presentWants (v : TaskView) (k : Task) (j : Nat) (b : Block) : channelAt j (presentWants v k b) =
    if k.mask.getLsbD j = true ∧ j < b.drive.channels.length then
      { channelAt j b with want := k.wantOf v (channelAt j b) } else channelAt j b := by
  have hwritten (is : List Nat) (d : Block) : channelAt j (is.foldl (fun acc i => acc.onDrive fun d =>
        { d with channels := d.channels.set i { d.channels.getD i {} with want := k.wantOf v (d.channels.getD i {}) } }) d) =
      if j ∈ is ∧ j < d.drive.channels.length then
        { channelAt j d with want := k.wantOf v (channelAt j d) } else channelAt j d := by
    induction is generalizing d with
    | nil => simp
    | cons i rest ih =>
      rw [List.foldl_cons, ih, channelAt_writeWant, Block.onDrive_drive, List.length_set]
      by_cases hj : j < d.drive.channels.length
      · by_cases hi : i = j
        · subst hi
          simp only [hj, and_true, if_true, List.mem_cons_self]
          split <;> rfl
        · simp [hj, hi, Ne.symm hi]
      · simp [hj]
  rw [presentWants, hwritten]
  simp only [mem_members]

/-! ## Curtailed seconds (R114) -/

/-- A figure of the healthy channels of a mask reads the same in two parts whose channels agree on it. -/
theorem map_healthyOf {m : Mask8} {f g : Channel → Nat}
    (h : ∀ j, m.getLsbD j = true → (channelAt j c).fitted = (channelAt j b).fitted ∧
      (channelAt j c).health = (channelAt j b).health ∧
      ((channelAt j b).fitted = true → f (channelAt j c) = g (channelAt j b))) :
    (healthyOf m c).map f = (healthyOf m b).map g := by
  have hlist : ∀ is : List Nat, (∀ j ∈ is, m.getLsbD j = true) →
      (((is.map fun j => channelAt j c).filter fun x => x.fitted && x.healthy).map f =
        ((is.map fun j => channelAt j b).filter fun x => x.fitted && x.healthy).map g) := by
    intro is
    induction is with
    | nil => exact fun _ => rfl
    | cons j rest ih =>
      intro hin
      obtain ⟨hfitted, hhealth, hsame⟩ := h j (hin j List.mem_cons_self)
      have htest : ((channelAt j c).fitted && (channelAt j c).healthy) =
          ((channelAt j b).fitted && (channelAt j b).healthy) := by
        rw [hfitted, Channel.healthy, hhealth, Channel.healthy]
      have hrest := ih fun i hi => hin i (List.mem_cons_of_mem _ hi)
      rw [List.map_cons, List.map_cons, List.filter_cons, List.filter_cons, htest]
      split
      · rename_i hhealthy
        rw [Bool.and_eq_true] at hhealthy
        rw [List.map_cons, List.map_cons, hrest, hsame hhealthy.1]
      · exact hrest
  exact hlist (members m) fun j hj => mem_members.1 hj

end

/-! ## The run of a task (R103) -/

/-- The part with the plate test made and the wants presented. -/
def ranPresented (k : Task) (d : Direct) (b : Block) : Block :=
  presentWants (viewOf k d b) (ranTask k d b) (plateTest (viewOf k d b) (k.advanced (viewOf k d b)) b).2

/-- The record that a task's run leaves. -/
def ranRecord (k : Task) (d : Direct) (b : Block) : Task :=
  { ranTask k d b with
    curtailed := if curtails (ranTask k d b).mask (ranPresented k d b) then satTo 65535 ((ranTask k d b).curtailed + 1)
      else (ranTask k d b).curtailed }

theorem runTask_eq (t : Nat) (k : Task) (d : Direct) (b : Block) :
    runTask t k d b = setTask t (some (ranRecord k d b)) (ranPresented k d b) := rfl

/-- A task with its stages advanced and its plate test made. -/
def Task.plateTested (v : TaskView) (warmer : Bool) (k : Task) : Task :=
  { k.advanced v with urgency := { (k.advanced v).urgency with
      plateTest := (k.advanced v).urgency.plateTest || (warmer && (k.advanced v).platesDue v) } }

theorem ranTask_eq (k : Task) (d : Direct) (b : Block) :
    ranTask k d b = (k.plateTested (viewOf k d b) (decide (b.cfg.kind = .warmer))).judged (viewOf k d b) :=
  congrArg (Task.judged (viewOf k d b)) (plateTest_record _ _ b)

/-- Curtailed seconds are no part of what is judged. -/
theorem judgedAt_curtailed (v : TaskView) (k : Task) (n : Nat) : judgedAt v { k with curtailed := n } = judgedAt v k := rfl

section
variable {k : Task} {d : Direct} {b s : Block}

/-- Where the run leaves the task's stages. -/
theorem ranRecord_place (k : Task) (d : Direct) (b : Block) :
    (ranRecord k d b).state = (k.advanced (viewOf k d b)).state ∧
      (ranRecord k d b).stageIndex = (k.advanced (viewOf k d b)).stageIndex ∧
      (ranRecord k d b).stageStart = (k.advanced (viewOf k d b)).stageStart := by
  rw [ranRecord, ranTask_eq]
  exact ⟨rfl, rfl, rfl⟩

theorem plateTest_drive (v : TaskView) (k : Task) (b : Block) : (plateTest v k b).2.drive = b.drive := by
  unfold plateTest
  repeat' split
  all_goals simp

/-- The run of a task leaves the plan to the record it writes. -/
theorem ranPresented_plan (k : Task) (d : Direct) (b : Block) : (ranPresented k d b).plan = b.plan := by
  rw [ranPresented, presentWants_plan]
  unfold plateTest
  repeat' split
  all_goals simp

theorem lt_of_fitted {j : Nat} (h : (channelAt j b).fitted = true) : j < b.drive.channels.length := by
  by_contra hge
  rw [channelAt, List.getD_eq_default _ _ (Nat.le_of_not_lt hge)] at h
  cases h

/-- The channels after the run of a task: those of its mask present its wants (R113). -/
theorem channelAt_ranPresented (hr : k.state.runs = true) (j : Nat) : channelAt j (ranPresented k d b) =
    if k.mask.getLsbD j = true ∧ j < b.drive.channels.length then
      { channelAt j b with want := (ranTask k d b).wantOf (viewOf k d b) (channelAt j b) } else channelAt j b := by
  have htested : channelAt j (plateTest (viewOf k d b) (k.advanced (viewOf k d b)) b).2 = channelAt j b := by
    rw [channelAt, plateTest_drive, channelAt]
  rw [ranPresented, channelAt_presentWants, htested, plateTest_drive, (ranTask_record hr d b).1]

section
variable (hone : (d.stages.filter fun x => decide (x.kind = .hold)).length ≤ 1) (h : k.Stands d)
include hone h

/-- The run leaves the fields of a task that no step of its second writes (R103). -/
theorem ranRecord_keeps : ranRecord k d b = { k with
    state := (ranRecord k d b).state, stageIndex := (ranRecord k d b).stageIndex,
    stageStart := (ranRecord k d b).stageStart, curtailed := (ranRecord k d b).curtailed,
    urgency := (ranRecord k d b).urgency } := by
  obtain ⟨state, index, start, hadvanced⟩ := advanced_keeps (v := viewOf k d b) hone h
  rw [ranRecord, ranTask_eq, Task.plateTested, hadvanced]
  rfl

theorem ranRecord_judgedAt : judgedAt (viewOf k d b) (ranRecord k d b) := by
  have htested : (k.plateTested (viewOf k d b) (decide (b.cfg.kind = .warmer))).InStage (viewOf k d b).profile ∨
      (k.plateTested (viewOf k d b) (decide (b.cfg.kind = .warmer))).state = .ready :=
    (advanced_settled (v := viewOf k d b) hone h).imp_left fun hin => ⟨hin.stage, hin.state⟩
  rw [ranRecord, judgedAt_curtailed, ranTask_eq]
  exact judged_judgedAt htested

theorem advanced_plateTest : (k.advanced (viewOf k d b)).urgency.plateTest = k.urgency.plateTest := by
  obtain ⟨state, index, start, hadvanced⟩ := advanced_keeps (v := viewOf k d b) hone h
  rw [hadvanced]

/-- The plate test is made after the run of a task in a WARMER that has passed its finish start, or is READY (R117). -/
theorem ranRecord_plateTest : (ranRecord k d b).urgency.plateTest = true ↔ k.urgency.plateTest = true ∨
    (b.cfg.kind = .warmer ∧ ((ranRecord k d b).state = .finishing ∨ (ranRecord k d b).state = .ready)) := by
  have hdue := platesDue_iff (advanced_settled (v := viewOf k d b) hone h)
  have hrecord : (ranRecord k d b).urgency.plateTest =
      (k.urgency.plateTest || (decide (b.cfg.kind = .warmer) && (k.advanced (viewOf k d b)).platesDue (viewOf k d b))) := by
    rw [ranRecord, ranTask_eq, ← advanced_plateTest (b := b) hone h]
    rfl
  rw [advanced_plateTest hone h] at hdue
  rw [hrecord, Bool.or_eq_true, Bool.and_eq_true, decide_eq_true_eq, hdue, (ranRecord_place k d b).1]
  cases k.urgency.plateTest <;> simp

/-- Too few plates at the point of the plate test raise PLATES_SHORT (R117). -/
theorem ranPresented_raises (hkind : b.cfg.kind = .warmer)
    (hpoint : (ranRecord k d b).state = .finishing ∨ (ranRecord k d b).state = .ready)
    (hmade : k.urgency.plateTest = false) (hfew : k.platesLoaded < k.platesRequired) :
    raiseMade { kind := .platesShort, subject := (courseAt k.course b).elim 0 fun c => c.tag } b
      (plateTest (viewOf k d b) (k.advanced (viewOf k d b)) b).2 := by
  obtain ⟨state, index, start, hadvanced⟩ := advanced_keeps (v := viewOf k d b) hone h
  rw [(ranRecord_place k d b).1] at hpoint
  have hdue : (k.advanced (viewOf k d b)).platesDue (viewOf k d b) = true :=
    (platesDue_iff (advanced_settled (v := viewOf k d b) hone h)).2 ⟨(advanced_plateTest hone h).trans hmade, hpoint⟩
  have hraised := plateTest_raises (k := k.advanced (viewOf k d b)) hkind hdue (by rwa [hadvanced])
  rwa [show (k.advanced (viewOf k d b)).course = k.course by rw [hadvanced]] at hraised

/-- Curtailed seconds grow when the healthy channels of the mask are allotted less than they want (R114). -/
theorem ranRecord_curtailed (hr : k.state.runs = true)
    (hsame : b.drive.channels.map Channel.unwanted = s.drive.channels.map Channel.unwanted) :
    (ranRecord k d b).curtailed =
      if ((healthyOf k.mask s).map Channel.allotment).sum <
          ((healthyOf k.mask s).map (lawAmount (viewOf k d b) ((ranTask k d b).setpoint (viewOf k d b)))).sum then
        min 65535 (k.curtailed + 1)
      else k.curtailed := by
  obtain ⟨state, index, start, hadvanced⟩ := advanced_keeps (v := viewOf k d b) hone h
  obtain ⟨hmask, -, hruns⟩ := ranTask_record hr d b
  have hkept : (ranTask k d b).curtailed = k.curtailed := by
    rw [ranTask_eq, Task.plateTested, hadvanced]
    rfl
  have hchannel (j : Nat) : ∃ want, channelAt j b = { channelAt j s with want := want } :=
    exists_want_of_unwanted (channelAt_unwanted hsame)
  have hallotted : (healthyOf k.mask (ranPresented k d b)).map Channel.allotment =
      (healthyOf k.mask s).map Channel.allotment :=
    map_healthyOf fun j hj => by
      obtain ⟨want, hwant⟩ := hchannel j
      rw [channelAt_ranPresented hr]
      split <;> rw [hwant] <;> exact ⟨rfl, rfl, fun _ => rfl⟩
  have hwanted : ((healthyOf k.mask (ranPresented k d b)).map fun c => c.want.amount) =
      (healthyOf k.mask s).map (lawAmount (viewOf k d b) ((ranTask k d b).setpoint (viewOf k d b))) :=
    map_healthyOf fun j hj => by
      obtain ⟨want, hwant⟩ := hchannel j
      rw [channelAt_ranPresented hr]
      split
      · rw [hwant]
        exact ⟨rfl, rfl, fun _ => wantOf_amount hruns _⟩
      · rename_i hout
        rw [hwant]
        refine ⟨rfl, rfl, fun hfitted => absurd ⟨hj, lt_of_fitted (b := b) ?_⟩ hout⟩
        rw [hwant]
        exact hfitted
  rw [ranRecord, hkept, hmask]
  dsimp only
  rw [curtails, hallotted, hwanted]
  simp only [decide_eq_true_eq]
  rfl

end

end

end Sys2Proof.Machine
end

section
/-! PROOFS. The second of a task that faults in nothing (R103, R106 to R114, R117). -/

namespace Sys2Proof.Machine

/-! ## The turn of a task in the second -/

/-- The part as task `t` finds it at its turn, and the tasks `post` whose seconds follow: the tasks before have left
its record, the courses, the profiles and the channels but for their wants. Beside `Turn` it names what follows, which the
wants and pages of the task have to pass. -/
structure AtTurn (t : Nat) (inputs : List SensorInput) (s b : Block) (post : List Nat) : Prop where
  station : b.station = { s.station with clock := (s.station.clock + 1) % 4294967296 }
  courses : b.plan.courses = s.plan.courses
  profiles : b.plan.profiles = s.plan.profiles
  fraction : b.plan.powerFraction =
    if s.cfg.ratedLoad = 0 then 125 else max 125 (1000 * s.share.applied / s.cfg.ratedLoad)
  tasks : ∀ u, u = t ∨ u ∈ post → taskAt u b = taskAt u s
  read : b.drive.inputs = (secondRead inputs s).drive.inputs
  channels : b.drive.channels.map Channel.unwanted = s.drive.channels.map Channel.unwanted
  events : s.port.events <+: b.port.events
  nodup : (t :: post).Nodup
  rest : runSecond inputs s = secondEnd s.plan.tasks (runTasks post (taskSecond t b))

theorem runTasks_station (us : List Nat) (b : Block) : (runTasks us b).station = b.station :=
  foldl_keeps Block.station _ _ fun b u => (taskSecond_station_share u b).1

theorem second_atTurn {s : Block} (h : s.runs = true) {t : Nat} (ht : t < 24) (inputs : List SensorInput) :
    ∃ b post, AtTurn t inputs s b post := by
  obtain ⟨pre, post, hsplit⟩ := List.append_of_mem (show t ∈ taskIndices from List.mem_range.2 ht)
  have hnodup : (pre ++ t :: post).Nodup := hsplit ▸ List.nodup_range
  obtain ⟨hpre, hcons, hdisjoint⟩ := List.nodup_append.1 hnodup
  have hbefore := runTasks_run hpre (fractioned (secondRead inputs s))
  obtain ⟨hcourses, hprofiles, hfraction⟩ := Plan.eq_of_tasks hbefore.plan
  obtain ⟨hread, hchannels⟩ := eq_of_noWants hbefore.drive
  have hplan := secondRead_plan inputs s
  have hshare : (secondRead inputs s).share = s.share := by simp [secondRead, tickClock]
  have hcfg : (secondRead inputs s).cfg = s.cfg := by simp [secondRead, tickClock, Block.cfg]
  refine ⟨runTasks pre (fractioned (secondRead inputs s)), post, ?_, hcourses.trans ?_, hprofiles.trans ?_, ?_,
    fun u hu => ?_, hread, hchannels.trans (secondRead_channels inputs s), ?_, hcons, ?_⟩
  · rw [runTasks_station]
    simp [fractioned, secondRead, tickClock, Config.clockModulus]
  · rw [fractioned, Block.onPlan_plan, hplan]
  · rw [fractioned, Block.onPlan_plan, hplan]
  · rw [hfraction, fractioned, Block.onPlan_plan, hshare, hcfg]
    rfl
  · have hout : u ∉ pre := fun hmem => hdisjoint u hmem u (List.mem_cons.2 hu) rfl
    rw [hbefore.others u hout, taskAt, fractioned, Block.onPlan_plan, hplan, taskAt]
  · exact (settled_events s).trans ((secondRead_grows inputs s).events.trans hbefore.events)
  · rw [runSecond_eq h, hplan, hsplit]
    simp only [runTasks, List.foldl_append, List.foldl_cons]

/-- A task as its run finds it: one that waited begins at stage 0 (R107). -/
def Task.begun (k : Task) (r now : Nat) : Task := if k.state = .waiting then k.startAt r now else k

section
variable {k : Task} {d : Direct} {r now : Nat}

theorem begun_waiting (h : k.state = .waiting) : k.begun r now = k.startAt r now := if_pos h

theorem begun_running (h : k.state ≠ .waiting) : k.begun r now = k := if_neg h

theorem begun_view (k : Task) (r now : Nat) (d : Direct) (b : Block) : viewOf (k.begun r now) d b = viewOf k d b := by
  unfold Task.begun
  split <;> rfl

/-- The first stage of a profile has no HOLD before it. -/
theorem stagePlace_zero (d : Direct) : stagePlace d 0 = .heating ∨ stagePlace d 0 = .holding := by
  unfold stagePlace
  split_ifs with hbefore hhold
  · simp at hbefore
  · exact .inr rfl
  · exact .inl rfl

/-- A task as its run finds it stands in a stage, or is READY. -/
theorem begun_stands (hd : d.stages ≠ []) (h : k.state = .waiting ∨ k.Stands d) : (k.begun r now).Stands d := by
  by_cases hw : k.state = .waiting
  · rw [begun_waiting hw]
    exact ⟨List.length_pos_iff.2 hd, .inr ((stagePlace_zero d).imp Eq.symm fun hholding => ⟨rfl, hholding⟩)⟩
  · rw [begun_running hw]
    exact h.resolve_left hw

theorem Task.Stands.runs (h : k.Stands d) : k.state.runs = true := by
  obtain ⟨_, hs | hs | ⟨hs, _⟩⟩ := h
  · rw [hs]
    rfl
  · obtain hplace | hplace | hplace := stagePlace_cases d k.stageIndex <;> rw [hs, hplace] <;> rfl
  · rw [hs]
    rfl

theorem not_waiting_of_runs (h : k.state.runs = true) : k.state ≠ .waiting := by
  rintro hw
  rw [hw] at h
  cases h

/-- The work of a task that faults in nothing is its run (R103, R107). -/
theorem taskWork_begun {t : Nat} {b : Block} (hat : taskAt t b = some k)
    (hs : (k.state = .waiting ∧ resolveProfile k.profile b = some r) ∨ (k.resolved = some r ∧ k.state.runs = true))
    (hsound : faultTest k b = none) (hd : profileAt r b = .direct d) :
    taskWork t b = runTask t (k.begun r b.now) d b := by
  have hcontent : contentOf (some r) b = some d := by rw [contentOf, hd]
  obtain ⟨hw, hresolve⟩ | ⟨hresolved, hr⟩ := hs
  · have hfirst : faultTest { k with resolved := some r } b = none := hsound
    have hbegun : faultTest (Task.startAt { k with resolved := some r } r b.now) b = none := hsound
    rw [taskWork_waiting hat hw, resolveTask, hresolve, begun_waiting hw]
    dsimp only
    rw [hfirst]
    dsimp only
    rw [testAndRun, hbegun]
    dsimp only
    rw [Task.startAt, hcontent]
    rfl
  · rw [taskWork_runs hat hr, testAndRun, hsound, hresolved, hcontent, begun_running (not_waiting_of_runs hr)]

end

/-- A raise once made stays made through acts that clear no page of it. -/
theorem raiseMade_through {news : Cause → Prop} {lost : Nat → Prop} {gone : PageEntry → Prop} {c : Cause} {s b d : Block}
    (h : raiseMade c s b) (g : PageActs news lost gone b d) (hgone : ∀ e, gone e → e.cause ≠ c) : raiseMade c s d :=
  h.imp (g.stillHeld hgone) fun h => offered_mono h g.onward.toEventsGrow

namespace AtTurn
variable {t : Nat} {inputs : List SensorInput} {s b : Block} {post : List Nat} {k : Task}

theorem inputAt_eq (h : AtTurn t inputs s b post) (hl : inputs.length = 8) (hi : s.drive.inputs.length = 8)
    (hsensor : k.sensor < 8) : inputAt k.sensor b = inputSeen s inputs k.sensor := by
  rw [← secondRead_inputAt hl hi hsensor, inputAt, h.read, inputAt]

/-- The fault tests of R115 find nothing: the input of this second is OK, a channel is healthy. -/
theorem sound (h : AtTurn t inputs s b post) (hl : inputs.length = 8) (hi : s.drive.inputs.length = 8)
    (hsensor : k.sensor < 8) (hok : (inputSeen s inputs k.sensor).status = .ok) (hchannel : hasChannel s k) :
    faultTest k b = none := by
  obtain ⟨j, hj, hfitted, hhealth⟩ := hchannel
  obtain ⟨hfittedSame, hhealthSame, _⟩ := eq_of_unwanted (channelAt_unwanted (j := j) h.channels)
  have hsome : ¬(healthyOf k.mask b).isEmpty = true := fun hempty => by
    have hsick := isEmpty_healthyOf.1 hempty j hj (hfittedSame.trans hfitted)
    rw [Channel.healthy, hhealthSame] at hsick
    obtain hhealth | hhealth := hhealth <;> simp [hhealth] at hsick
  rw [faultTest, h.inputAt_eq hl hi hsensor, if_neg (by simp [hok]), if_neg hsome]

/-- What the task's second reads (R103). -/
theorem view (h : AtTurn t inputs s b post) (hl : inputs.length = 8) (hi : s.drive.inputs.length = 8)
    (hsensor : k.sensor < 8) (d : Direct) : viewOf k d b = viewAt s inputs k d := by
  have hcourse : courseAt k.course b = courseAt k.course s := courseAt_of_courses h.courses k.course
  have hnow : b.now = (s.station.clock + 1) % 4294967296 := congrArg Station.clock h.station
  simp only [viewOf, viewAt, h.inputAt_eq hl hi hsensor, hcourse, hnow, h.fraction]

theorem cfg (h : AtTurn t inputs s b post) : b.cfg = s.cfg := by
  rw [Block.cfg, h.station, Block.cfg]

/-- The event of the second leaves what its work left, but for the port. -/
theorem secondOf (h : AtTurn t inputs s b post) (hat : taskAt t s = some k) (hedit : k.edit = none)
    (hsecond : k.state.hasSecond = true) :
    Untouched (fun _ => True) (fun _ => False) (taskWork t b) (taskSecond t b) ∧
      (taskSecond t b).plan = (taskWork t b).plan := by
  rw [taskSecond_of_none ((h.tasks t (.inl rfl)).trans hat) hedit hsecond]
  split
  · exact ⟨taskEvent_untouched _ _ _, taskEvent_plan _ _ _⟩
  · exact ⟨.refl _, rfl⟩

/-- What the task's work leaves of its record stands at the end of the second. -/
theorem taskAt_end (h : AtTurn t inputs s b post) (hat : taskAt t s = some k) (hedit : k.edit = none)
    (hsecond : k.state.hasSecond = true) : taskAt t (runSecond inputs s) = taskAt t (taskWork t b) := by
  obtain ⟨hpost, hnodup⟩ := List.nodup_cons.1 h.nodup
  rw [h.rest, secondEnd_taskAt, (runTasks_run hnodup _).others t hpost,
    taskAt_of_plan (h.secondOf hat hedit hsecond).2]

/-- The tasks whose seconds follow hold what they held. -/
theorem later (h : AtTurn t inputs s b post) {u : Nat} (hu : u ∈ post) : u ≠ t ∧ taskAt u (taskSecond t b) = taskAt u s := by
  have hne : u ≠ t := by
    rintro rfl
    exact (List.nodup_cons.1 h.nodup).1 hu
  have hact : TaskAct t (fun _ => False) b (taskSecond t b) := taskSecond_act fun _ _ _ h => h.elim
  exact ⟨hne, (hact.others u hne).trans (h.tasks u (.inr hu))⟩

/-- A HEAT channel that no other task holds keeps what the task's work leaves (R93, R113). -/
theorem channel_end (h : AtTurn t inputs s b post) (hat : taskAt t s = some k) (hedit : k.edit = none)
    (hsecond : k.state.hasSecond = true) {j : Nat} (hheat : (channelAt j s).role = .heat)
    (hheld : ∀ u x, u ≠ t → taskAt u s = some x → x.holds.getLsbD j = false) :
    channelAt j (runSecond inputs s) = channelAt j (taskWork t b) := by
  have hlater : Untouched (fun i => i = j) (fun _ => True) (taskSecond t b) (runTasks post (taskSecond t b)) :=
    runTasks_untouched (P := fun _ => True) (List.nodup_cons.1 h.nodup).2
      (fun u hu x hx i hi => by
        subst hi
        obtain ⟨hne, hsame⟩ := h.later hu
        exact hheld u x hne (hsame.symm.trans hx))
      (fun _ _ _ _ _ _ => trivial) (fun _ _ _ => testPlates_untouched fun _ _ _ _ _ => trivial) trivial
  have hdrive : noWants (runTasks post (taskSecond t b)).drive = noWants b.drive :=
    (runTasks_run (List.nodup_cons.1 h.nodup).2 _).drive.trans
      (taskSecond_act (t := t) (spared := fun _ => False) fun _ _ _ h => h.elim).drive
  have hrole : (channelAt j (runTasks post (taskSecond t b))).role = .heat :=
    (eq_of_unwanted (channelAt_unwanted ((eq_of_noWants hdrive).2.trans h.channels))).2.2.trans hheat
  rw [h.rest, secondEnd_heat hrole, hlater.channels j rfl, (h.secondOf hat hedit hsecond).1.channels j trivial]

/-- PLATES_SHORT raised by the task's work stays raised while the task awaits plates (R99, R117). -/
theorem raise_end (h : AtTurn t inputs s b post) (hat : taskAt t s = some k) (hedit : k.edit = none)
    (hsecond : k.state.hasSecond = true) {i tag : Nat} (hawaits : AwaitsPlates t i tag (taskWork t b))
    (hraised : raiseMade { kind := .platesShort, subject := tag } b (taskWork t b)) :
    raiseMade { kind := .platesShort, subject := tag } s (runSecond inputs s) := by
  obtain ⟨hevent, hplan⟩ := h.secondOf hat hedit hsecond
  have hawaits' : AwaitsPlates t i tag (taskSecond t b) :=
    ⟨by rw [taskAt_of_plan hplan]; exact hawaits.task, fun j c hc => hawaits.only j c (by rwa [courseAt_of_plan hplan] at hc)⟩
  have hlater : Untouched (fun _ => False) (fun e => e.cause ≠ { kind := .platesShort, subject := tag }) (taskSecond t b)
      (runTasks post (taskSecond t b)) :=
    runTasks_untouched (P := AwaitsPlates t i tag) (List.nodup_cons.1 h.nodup).2 (fun _ _ _ _ _ hj => hj.elim)
      (fun u hu d d' hact hd => hd.kept (h.later hu).1.symm hact) (fun j d hd => hd.testPlates j) hawaits'
  have hsecondMade := raiseMade_through hraised hevent.pages fun _ hno => hno.elim
  have hlaterMade := raiseMade_through hsecondMade hlater.pages fun _ hne => hne
  have hend := raiseMade_through hlaterMade (endActs_secondEnd s.plan.tasks _) fun e he hc => by simp [hc] at he
  rw [h.rest]
  exact hend.imp_right (offered_of_earlier h.events)

end AtTurn

/-! ## The clauses (R106 to R114, R117) -/

/-- The stage in which a task's second finds it, or begins it (R107). -/
def Task.firstStage (k : Task) : Nat := if k.state = .waiting then 0 else k.stageIndex

/-- The second at which its stage `j` begins. -/
def Task.stageBegins (v : TaskView) (k : Task) (j : Nat) : Nat :=
  if j = k.firstStage ∧ k.state ≠ .waiting then k.stageStart else v.now

section
variable {k : Task} {d : Direct} {r now : Nat} {b : Block}

theorem begun_stageIndex (k : Task) (r now : Nat) : (k.begun r now).stageIndex = k.firstStage := by
  unfold Task.begun Task.firstStage
  split <;> rfl

theorem begun_begins (k : Task) (r : Nat) (v : TaskView) : (k.begun r v.now).begins v = k.stageBegins v := by
  funext j
  by_cases hw : k.state = .waiting
  · simp [begun_waiting hw, Task.begins, Task.stageBegins, hw, Task.startAt]
  · simp [begun_running hw, Task.begins, Task.stageBegins, Task.firstStage, hw]

theorem begun_ready : (k.begun r now).state = .ready ↔ k.state = .ready := by
  by_cases hw : k.state = .waiting
  · simp [begun_waiting hw, hw, Task.startAt]
  · rw [begun_running hw]

/-- The plate test stands made only where the task ran with it made (R107, R117). -/
theorem begun_plateTest :
    (k.begun r now).urgency.plateTest = true ↔ k.state ≠ .waiting ∧ k.urgency.plateTest = true := by
  by_cases hw : k.state = .waiting
  · simp [begun_waiting hw, hw, Task.startAt]
  · simp [begun_running hw, hw]

theorem begun_same (k : Task) (r now : Nat) : (k.begun r now).mask = k.mask ∧ (k.begun r now).course = k.course ∧
    (k.begun r now).platesLoaded = k.platesLoaded ∧ (k.begun r now).platesRequired = k.platesRequired ∧
    (k.begun r now).curtailed = k.curtailed := by
  unfold Task.begun
  split <;> exact ⟨rfl, rfl, rfl, rfl, rfl⟩

end

/-- A task with a second that is not past its finish start (R103, R109). -/
theorem early_of_hasSecond {x : TaskState} (h : x.hasSecond = true) (hf : x ≠ .finishing) (hr : x ≠ .ready) :
    x = .waiting ∨ x = .heating ∨ x = .holding := by
  revert h hf hr
  cases x <;> decide

/-- The premises of O18: a task that faults in nothing, on profile entry `r` of content `d`. -/
structure SoundTask (s : Block) (inputs : List SensorInput) (t r : Nat) (k : Task) (d : Direct) : Prop where
  runs : s.runs = true
  inputsRead : inputs.length = 8
  inputsHeld : s.drive.inputs.length = 8
  inTable : t < 24
  record : taskAt t s = some k
  noEdit : k.edit = none
  sensor : k.sensor < 8
  inputOk : (inputSeen s inputs k.sensor).status = .ok
  channel : hasChannel s k
  profile : profileAt r s = .direct d
  stages : d.stages ≠ []
  oneHold : (d.stages.filter fun x => decide (x.kind = .hold)).length ≤ 1
  place : (k.state = .waiting ∧ resolveProfile k.profile s = some r) ∨ (k.resolved = some r ∧ k.Stands d)

namespace SoundTask
variable {s b : Block} {inputs : List SensorInput} {t r : Nat} {k : Task} {d : Direct} {post : List Nat}

/-- The task as its run finds it at this second. -/
abbrev found (s : Block) (inputs : List SensorInput) (r : Nat) (k : Task) (d : Direct) : Task :=
  k.begun r (viewAt s inputs k d).now

theorem found_running (h : k.state ≠ .waiting) : found s inputs r k d = k := begun_running h

theorem stands (h : SoundTask s inputs t r k d) : (found s inputs r k d).Stands d :=
  begun_stands h.stages (h.place.imp And.left And.right)

theorem hasSecond (h : SoundTask s inputs t r k d) : k.state.hasSecond = true := by
  obtain ⟨hw, _⟩ | ⟨_, hstands⟩ := h.place
  · rw [hw]
    rfl
  · simp [TaskState.hasSecond, hstands.runs]

theorem view (h : SoundTask s inputs t r k d) (hturn : AtTurn t inputs s b post) :
    viewOf (found s inputs r k d) d b = viewAt s inputs k d :=
  (begun_view k r _ d b).trans (hturn.view h.inputsRead h.inputsHeld h.sensor d)

/-- The task's work in this second is the run of the task it is found as (R103, R107). -/
theorem work (h : SoundTask s inputs t r k d) (hturn : AtTurn t inputs s b post) : taskWork t b =
    setTask t (some (ranRecord (found s inputs r k d) d b)) (ranPresented (found s inputs r k d) d b) := by
  have hprofile (i : Nat) : profileAt i b = profileAt i s := by rw [profileAt, hturn.profiles, profileAt]
  have hresolve : resolveProfile k.profile b = resolveProfile k.profile s := by simp only [resolveProfile, hprofile]
  have hnow : b.now = (viewAt s inputs k d).now := congrArg Station.clock hturn.station
  rw [taskWork_begun ((hturn.tasks t (.inl rfl)).trans h.record)
    (h.place.imp (fun hw => ⟨hw.1, hresolve.trans hw.2⟩) fun hr => ⟨hr.1, hr.2.runs⟩)
    (hturn.sound h.inputsRead h.inputsHeld h.sensor h.inputOk h.channel) ((hprofile r).trans h.profile), hnow, runTask_eq]

/-- The record at the end of the second. -/
theorem taskAt_end (h : SoundTask s inputs t r k d) (hturn : AtTurn t inputs s b post) :
    taskAt t (runSecond inputs s) = some (ranRecord (found s inputs r k d) d b) := by
  have hat : taskAt t (ranPresented (found s inputs r k d) d b) = some k :=
    (taskAt_of_plan (ranPresented_plan _ d b) t).trans ((hturn.tasks t (.inl rfl)).trans h.record)
  rw [hturn.taskAt_end h.record h.noEdit h.hasSecond, h.work hturn, taskAt_setTask hat]

/-- The fields that no step of the second writes stand (R103, R107). -/
theorem record_end (h : SoundTask s inputs t r k d) : ranRecord (found s inputs r k d) d b = { k with
    resolved := some r, state := (ranRecord (found s inputs r k d) d b).state,
    stageIndex := (ranRecord (found s inputs r k d) d b).stageIndex,
    stageStart := (ranRecord (found s inputs r k d) d b).stageStart,
    curtailed := (ranRecord (found s inputs r k d) d b).curtailed,
    urgency := (ranRecord (found s inputs r k d) d b).urgency } := by
  refine (ranRecord_keeps h.oneHold h.stands).trans ?_
  obtain ⟨hw, _⟩ | ⟨hresolved, hstands⟩ := h.place
  · have hfound : found s inputs r k d = k.startAt r (viewAt s inputs k d).now := begun_waiting hw
    rw [hfound]
    rfl
  · rw [found_running (not_waiting_of_runs hstands.runs), ← hresolved]

/-- A READY task stays where it stands (R110). -/
theorem stays_ready (hr : k.state = .ready) :
    (ranRecord (found s inputs r k d) d b).state = .ready ∧
      (ranRecord (found s inputs r k d) d b).stageIndex = k.stageIndex ∧
      (ranRecord (found s inputs r k d) d b).stageStart = k.stageStart := by
  rw [found_running (by simp [hr])]
  obtain ⟨hstate, hindex, hstart⟩ := ranRecord_place k d b
  rw [hstate, hindex, hstart, advanced_ready hr]
  exact ⟨hr, rfl, rfl⟩

/-- Any other task stands where the first stage that is not over puts it (R108, R109). -/
theorem at_stage (h : SoundTask s inputs t r k d) (hturn : AtTurn t inputs s b post) (hr : k.state ≠ .ready) {j : Nat}
    (hfrom : k.firstStage ≤ j) (hstage : j < d.stages.length)
    (hpassed : ∀ m, k.firstStage ≤ m → m < j →
      stageOver (viewAt s inputs k d) m (k.stageBegins (viewAt s inputs k d) m) = true)
    (hruns : stageOver (viewAt s inputs k d) j (k.stageBegins (viewAt s inputs k d) j) = false) :
    (ranRecord (found s inputs r k d) d b).state = stagePlace d j ∧
      (ranRecord (found s inputs r k d) d b).stageIndex = j ∧
      (ranRecord (found s inputs r k d) d b).stageStart = k.stageBegins (viewAt s inputs k d) j := by
  have hlands := advanced_lands (v := viewAt s inputs k d) h.oneHold h.stands (mt begun_ready.1 hr)
  obtain ⟨hstate, hindex, hstart⟩ := ranRecord_place (found s inputs r k d) d b
  rw [hstate, hindex, hstart, h.view hturn]
  rw [← begun_stageIndex k r (viewAt s inputs k d).now] at hfrom hpassed
  rw [← begun_begins k r] at hpassed hruns ⊢
  exact hlands.at_stage hfrom hstage hpassed hruns

/-- A task all of whose stages are over is READY, with the index and start of its last stage (R110, log 40). -/
theorem at_ready (h : SoundTask s inputs t r k d) (hturn : AtTurn t inputs s b post) (hr : k.state ≠ .ready)
    (hall : ∀ m, k.firstStage ≤ m → m < d.stages.length →
      stageOver (viewAt s inputs k d) m (k.stageBegins (viewAt s inputs k d) m) = true) :
    (ranRecord (found s inputs r k d) d b).state = .ready ∧
      (ranRecord (found s inputs r k d) d b).stageIndex + 1 = d.stages.length ∧
      (ranRecord (found s inputs r k d) d b).stageStart =
        k.stageBegins (viewAt s inputs k d) (ranRecord (found s inputs r k d) d b).stageIndex := by
  have hlands := advanced_lands (v := viewAt s inputs k d) h.oneHold h.stands (mt begun_ready.1 hr)
  obtain ⟨hstate, hindex, hstart⟩ := ranRecord_place (found s inputs r k d) d b
  rw [hstate, hindex, hstart, h.view hturn]
  rw [← begun_stageIndex k r (viewAt s inputs k d).now] at hall
  rw [← begun_begins k r] at hall ⊢
  exact hlands.at_ready hall

/-- Too few plates at the point of the plate test leave PLATES_SHORT raised, where no other course bears the tag (R117). -/
theorem raises_short (h : SoundTask s inputs t r k d) (hturn : AtTurn t inputs s b post) (hkind : s.cfg.kind = .warmer)
    (hpoint : (ranRecord (found s inputs r k d) d b).state = .finishing ∨
      (ranRecord (found s inputs r k d) d b).state = .ready)
    (hmade : ¬(k.state ≠ .waiting ∧ k.urgency.plateTest = true)) (hfew : k.platesLoaded < k.platesRequired)
    (honly : ∀ j c, courseAt j s = some c → c.tag = ((courseAt k.course s).elim 0 fun c => c.tag) → j = k.course) :
    raiseMade { kind := .platesShort, subject := (courseAt k.course s).elim 0 fun c => c.tag } s (runSecond inputs s) := by
  obtain ⟨hmask, hcourse, hloaded, hrequired, -⟩ := begun_same k r (viewAt s inputs k d).now
  have hcourses (j : Nat) : courseAt j b = courseAt j s := courseAt_of_courses hturn.courses j
  have hraised := ranPresented_raises h.oneHold h.stands (hturn.cfg ▸ hkind) hpoint
    (Bool.eq_false_iff.2 (mt begun_plateTest.1 hmade)) (by rwa [hloaded, hrequired])
  rw [hcourse, hcourses] at hraised
  have hwork := h.work hturn
  have hpresented : Untouched (fun _ => False) (fun _ => False)
      (plateTest (viewOf (found s inputs r k d) d b) ((found s inputs r k d).advanced (viewOf (found s inputs r k d) d b)) b).2
      (taskWork t b) := by
    rw [hwork]
    exact (presentWants_untouched (fun _ hj => hj.elim) _ _).trans (setTask_untouched _ _ _)
  have hawaits : AwaitsPlates t k.course ((courseAt k.course s).elim 0 fun c => c.tag) (taskWork t b) := by
    have hplan : (taskWork t b).plan.courses = s.plan.courses := by
      rw [hwork]
      exact (congrArg Plan.courses (ranPresented_plan _ d b)).trans hturn.courses
    refine ⟨⟨_, (hturn.taskAt_end h.record h.noEdit h.hasSecond).symm.trans (h.taskAt_end hturn), ?_, ?_, ?_⟩,
      fun j c hc => honly j c (by rwa [courseAt_of_courses hplan] at hc)⟩
    · rw [h.record_end]
    · obtain hp | hp := hpoint <;> rw [hp] <;> rfl
    · rw [h.record_end]
      exact hfew
  exact hturn.raise_end h.record h.noEdit h.hasSecond hawaits
    (raiseMade_through hraised hpresented.pages fun _ hno => hno.elim)

/-- What the second judges of the task (R106, R111, R112). -/
theorem judged_end (h : SoundTask s inputs t r k d) (hturn : AtTurn t inputs s b post) :
    judgedAt (viewAt s inputs k d) (ranRecord (found s inputs r k d) d b) := by
  have hjudged := ranRecord_judgedAt (b := b) h.oneHold h.stands
  rwa [h.view hturn] at hjudged

/-- The setpoint judged is the one that the wants are reckoned from (R102, R113). -/
theorem setpoint_end (h : SoundTask s inputs t r k d) (hturn : AtTurn t inputs s b post) :
    (ranTask (found s inputs r k d) d b).setpoint (viewAt s inputs k d) =
      (ranRecord (found s inputs r k d) d b).urgency.setpoint.getD 0 := by
  rw [ranRecord, ← h.view hturn, ranTask_eq]
  rfl

/-- The channels of the mask present what the control law asks (R113). -/
theorem want_end (h : SoundTask s inputs t r k d) (hturn : AtTurn t inputs s b post) {j : Nat}
    (hm : k.mask.getLsbD j = true) (hj : j < s.drive.channels.length) (hheat : (channelAt j s).role = .heat)
    (hheld : ∀ u x, u ≠ t → taskAt u s = some x → x.holds.getLsbD j = false) :
    (channelAt j (runSecond inputs s)).want =
      if (ranRecord (found s inputs r k d) d b).state = .holding ∨ (ranRecord (found s inputs r k d) d b).state = .ready then
        { amount := lawAmount (viewAt s inputs k d) ((ranRecord (found s inputs r k d) d b).urgency.setpoint.getD 0)
            (channelAt j s), kind := .floor }
      else
        { amount := lawAmount (viewAt s inputs k d) ((ranRecord (found s inputs r k d) d b).urgency.setpoint.getD 0)
            (channelAt j s), kind := .extra, cls := (ranRecord (found s inputs r k d) d b).urgency.cls } := by
  have hlength : b.drive.channels.length = s.drive.channels.length := by simpa using congrArg List.length hturn.channels
  obtain ⟨hmask, -⟩ := begun_same k r (viewAt s inputs k d).now
  obtain ⟨want, hwant⟩ := exists_want_of_unwanted (channelAt_unwanted (j := j) hturn.channels)
  have hwork : channelAt j (taskWork t b) = channelAt j (ranPresented (found s inputs r k d) d b) := by
    rw [h.work hturn, channelAt, channelAt]
    rfl
  have hruns := (ranTask_record h.stands.runs d b).2.2
  rw [hturn.channel_end h.record h.noEdit h.hasSecond hheat hheld, hwork, channelAt_ranPresented h.stands.runs,
    if_pos ⟨hmask ▸ hm, hlength ▸ hj⟩]
  dsimp only
  rw [wantOf_eq hruns, h.view hturn, h.setpoint_end hturn, hwant]
  rfl

/-- Curtailed seconds (R114). -/
theorem curtailed_end (h : SoundTask s inputs t r k d) (hturn : AtTurn t inputs s b post) :
    (ranRecord (found s inputs r k d) d b).curtailed =
      if ((healthyOf k.mask s).map Channel.allotment).sum < ((healthyOf k.mask s).map
          (lawAmount (viewAt s inputs k d) ((ranRecord (found s inputs r k d) d b).urgency.setpoint.getD 0))).sum then
        min 65535 (k.curtailed + 1)
      else k.curtailed := by
  have hcurtailed := ranRecord_curtailed (b := b) h.oneHold h.stands h.stands.runs hturn.channels
  obtain ⟨hmask, -, -, -, hbefore⟩ := begun_same k r (viewAt s inputs k d).now
  rwa [h.view hturn, h.setpoint_end hturn, hmask, hbefore] at hcurtailed

end SoundTask

/-- Settles O18: the turn of the task in the second, and its run clause by clause. -/
theorem taskSecondRunsTheTask : Obligations.TaskSecondRunsTheTask := by
  intro s inputs t r k d hruns hl hi ht hat hedit hsensor hok hchannel hd hstages hone hplace v i start
  have h : SoundTask s.block inputs t r k d :=
    ⟨hruns, hl, hi, ht, hat, hedit, hsensor, hok, hchannel, hd, hstages, hone, hplace⟩
  obtain ⟨b, post, hturn⟩ := second_atTurn h.runs h.inTable inputs
  have hplates := ranRecord_plateTest (b := b) hone h.stands
  rw [begun_plateTest, hturn.cfg] at hplates
  refine completes_of (runSecond inputs) rfl ⟨ranRecord (SoundTask.found s.block inputs r k d) d b, h.taskAt_end hturn,
    h.record_end, SoundTask.stays_ready, fun hr => ⟨fun j => h.at_stage hturn hr, h.at_ready hturn hr⟩,
    h.judged_end hturn, ?_, fun j hm hj hheat hheld => h.want_end hturn hm hj hheat hheld, h.curtailed_end hturn⟩
  · refine ⟨fun hpasses hf hr => ?_, fun hkind => ?_, fun hkind hpasses => ⟨?_, fun hmade hfew honly => ?_⟩⟩
    · have hearly := early_of_hasSecond h.hasSecond hf hr
      rw [hplates]
      exact or_iff_left fun hpoint => hpasses ⟨hearly, hpoint.2⟩
    · rw [hplates]
      exact or_iff_left fun hpoint => hkind hpoint.1
    · exact hplates.2 (.inr ⟨hkind, hpasses.2⟩)
    · exact h.raises_short hturn hkind hpasses.2 hmade hfew honly

end Sys2Proof.Machine
end
